-- ==== Sys2Proof/Word.lean ====
section
/-!
DEFINITION. The word types of the part: a 32-bit word of a register, a command or a record (R9), a byte (R8), and
a 48-bit class offset held in an address register (R34, R123).
-/

namespace Sys2Proof

/-- A 32-bit word. -/
abbrev Word := BitVec 32
/-- A byte. -/
abbrev Byte := BitVec 8
/-- A 48-bit class offset (R34). -/
abbrev Off48 := BitVec 48

end Sys2Proof
end

