-- ==== Sys2Proof/Syntax.lean ====
section
/-!
DEFINITION. The commands of the part (spec/opcode_table.json): one constructor for each row, with the operands
the row's rules give it. An instruction of a control core or a sequencer carries the agent that executes it and
the fields of its encoding, bit for bit, so that an ILLEGAL encoding (R126) can be named too. Every other row is
an operation of a host, an arrival, or an event at its time; what the part measures or receives from outside in
that event (a voltage, a frame, a verdict of a test) is an operand.
-/

namespace Sys2Proof

/-- Who executes an instruction: logical core `n` (R22) or the sequencer of cluster `c` (R305). -/
inductive Agent where
  | core (n : Fin 1024)
  | seq (c : Fin 32)
deriving DecidableEq, Repr

/-- The control core's index: cores 0 to 1023, then the sequencers. -/
def Agent.hart : Agent → Nat
  | .core n => n.val
  | .seq c => 1024 + c.val

/-- The cluster the agent belongs to (R22). -/
def Agent.cluster : Agent → Nat
  | .core n => n.val / 32
  | .seq c => c.val

/-- The agent is a sequencer (R305). -/
def Agent.isSeq : Agent → Bool
  | .core _ => false
  | .seq _ => true


/-- What a PTP message says of itself (R296, R449): domain, transport, the sender's address where it is unicast, and the clock that sent it. -/
structure PtpSrc where
  dom : Nat
  tr : Nat
  uni : List Nat
  id : Nat
deriving DecidableEq, Repr

/-- The commands of the part: one constructor for each row of the table of operations and events. -/
inductive Instr where
  /-- Control-core register-register integer operation selected by fn, including SEL, CLZ and POPC (R129). -/
  | alu (ag : Agent) (d a b : BitVec 5) (fn : BitVec 11)
  /-- Scalar FP32 operation selected by fn; sets no flag (R130). -/
  | fpu (ag : Agent) (d a b : BitVec 5) (fn : BitVec 11)
  /-- Adds a sign-extended immediate to Sa into Sd (R128). -/
  | addi (ag : Agent) (d a : BitVec 5) (imm : BitVec 16)
  /-- ANDs Sa with a zero-extended immediate into Sd (R128). -/
  | andi (ag : Agent) (d a : BitVec 5) (imm : BitVec 16)
  /-- ORs Sa with a zero-extended immediate into Sd (R128). -/
  | ori (ag : Agent) (d a : BitVec 5) (imm : BitVec 16)
  /-- XORs Sa with a zero-extended immediate into Sd (R128). -/
  | xori (ag : Agent) (d a : BitVec 5) (imm : BitVec 16)
  /-- Sets Sd to 1 if Sa is less than the immediate, signed (R128). -/
  | slti (ag : Agent) (d a : BitVec 5) (imm : BitVec 16)
  /-- Sets Sd to 1 if Sa is less than the immediate, unsigned (R128). -/
  | sltiu (ag : Agent) (d a : BitVec 5) (imm : BitVec 16)
  /-- Shifts Sa by an immediate amount of the kind SLL, SRL or SRA (R128). -/
  | shi (ag : Agent) (d a : BitVec 5) (imm : BitVec 16)
  /-- Loads the immediate shifted left by 16 into Sd (R128). -/
  | lui (ag : Agent) (d a : BitVec 5) (imm : BitVec 16)
  /-- Loads 32 bits of DMEM into Sd (R128). -/
  | lw (ag : Agent) (d a : BitVec 5) (imm : BitVec 16)
  /-- Loads 16 bits of DMEM, zero-extended, into Sd (R128). -/
  | lhu (ag : Agent) (d a : BitVec 5) (imm : BitVec 16)
  /-- Loads 8 bits of DMEM, zero-extended, into Sd (R128). -/
  | lbu (ag : Agent) (d a : BitVec 5) (imm : BitVec 16)
  /-- Stores Sb as 32 bits to DMEM (R128). -/
  | sw (ag : Agent) (b a : BitVec 5) (imm : BitVec 16)
  /-- Stores 16 bits to DMEM after reading the word first (R228). -/
  | sh (ag : Agent) (b a : BitVec 5) (imm : BitVec 16)
  /-- Stores 8 bits to DMEM after reading the word first (R228). -/
  | sb (ag : Agent) (b a : BitVec 5) (imm : BitVec 16)
  /-- Loads bits 47:0 of 8 DMEM bytes into an address register (R128). -/
  | la (ag : Agent) (z : BitVec 1) (ad : BitVec 4) (a : BitVec 5) (imm : BitVec 16)
  /-- Stores an address register, zero-extended, as 8 bytes to DMEM (R128). -/
  | sa (ag : Agent) (z : BitVec 1) (ab : BitVec 4) (a : BitVec 5) (imm : BitVec 16)
  /-- Address-register operation AADD, ASET, AGETL, AGETH or AMOV (R131). -/
  | aop (ag : Agent) (dst src1 b sh : BitVec 5) (z : BitVec 1) (fn : BitVec 5)
  /-- Adds an immediate to an address register (R128). -/
  | aaddi (ag : Agent) (z1 : BitVec 1) (ad : BitVec 4) (z0 : BitVec 1) (aa : BitVec 4) (imm : BitVec 16)
  /-- Writes a predicate with a comparison of two scalar registers (R132). -/
  | cmp (ag : Agent) (z1 : BitVec 2) (pd : BitVec 3) (a b : BitVec 5) (z0 : BitVec 7) (cond : BitVec 4)
  /-- Writes a predicate with a comparison of Sa against a 14-bit immediate (R132). -/
  | cmpi (ag : Agent) (cond : BitVec 4) (pd : BitVec 3) (a : BitVec 5) (imm : BitVec 14)
  /-- Predicate logic, or moves predicates to or from a scalar register (R133). -/
  | plog (ag : Agent) (d a b : BitVec 5) (fn : BitVec 11)
  /-- Branches on a predicate, stalling while it is reserved (R136). -/
  | bp (ag : Agent) (n : BitVec 1) (pp : BitVec 3) (z : BitVec 6) (off : BitVec 16)
  /-- Branches on a sampled core condition chosen by selector (R134). -/
  | bc (ag : Agent) (n : BitVec 1) (sel : BitVec 8) (z : BitVec 1) (off : BitVec 16)
  /-- Branches on a grain flag of a region or tile after earlier writes finish (R135). -/
  | bflag (ag : Agent) (n k : BitVec 1) (i : BitVec 6) (flag : BitVec 2) (off : BitVec 16)
  /-- Branches on a signed comparison of two scalar registers (R128). -/
  | bcmp (ag : Agent) (cond : BitVec 2) (a b : BitVec 5) (off : BitVec 14)
  /-- Jumps by an offset and writes the link register (R128). -/
  | jal (ag : Agent) (d : BitVec 5) (off : BitVec 21)
  /-- Jumps to Sa plus immediate and writes the link register (R128). -/
  | jalr (ag : Agent) (d a : BitVec 5) (imm : BitVec 16)
  /-- Pushes a 32-byte DMEM command to an engine queue, capturing operands and reserving destinations (R139). -/
  | push (ag : Agent) (q : BitVec 3) (a : BitVec 5) (ax ay : BitVec 4) (x y : BitVec 1) (u : BitVec 8)
  /-- Pops the oldest completion record of a queue into four registers and sets CCR (R141). -/
  | cpop (ag : Agent) (d : BitVec 5) (q : BitVec 3) (z : BitVec 18)
  /-- Stalls until a queue has at most n uncompleted commands (R128). -/
  | waitq (ag : Agent) (z1 : BitVec 5) (q : BitVec 3) (z0 : BitVec 12) (n : BitVec 6)
  /-- Pushes an address-stream entry to a mover's address queue (R143). -/
  | strm (ag : Agent) (m last : BitVec 1) (aa : BitVec 4) (b : BitVec 5) (z : BitVec 15)
  /-- Sends credits to a core counter or a word to the cluster sequencer as one VC0 flit (R147). -/
  | sig (ag : Agent) (t : BitVec 1) (cn : BitVec 4) (a b : BitVec 5) (z : BitVec 11)
  /-- Stalls until a credit counter holds k and subtracts k atomically (R145). -/
  | cwait (ag : Agent) (z1 : BitVec 1) (cn : BitVec 4) (z0 : BitVec 5) (imm : BitVec 16)
  /-- Reads a register of the core's own CSR block into Sd (R159). -/
  | csrr (ag : Agent) (d : BitVec 5) (z : BitVec 9) (off : BitVec 12)
  /-- Writes Sb to a register of the core's own CSR block (R159). -/
  | csrw (ag : Agent) (b : BitVec 5) (z : BitVec 9) (off : BitVec 12)
  /-- Reads the cluster's DTIME copy into a register pair (R157). -/
  | rdtime (ag : Agent) (d : BitVec 5) (z : BitVec 21)
  /-- Stalls until the cluster's DTIME copy reaches the named time (R157). -/
  | waitt (ag : Agent) (z1 : BitVec 5) (a : BitVec 5) (z0 : BitVec 16)
  /-- Emits a kettle notice of a heavy window for the cluster, merged or refused as the window rules state (R328). -/
  | knote (ag : Agent) (z1 a b : BitVec 5) (z0 : BitVec 11)
  /-- Does nothing for one cycle (R128). -/
  | nop (ag : Agent) (z : BitVec 10) (arg : BitVec 8)
  /-- Records a halt code, reports it to the sequencer and enters IDLE (R149). -/
  | halt (ag : Agent) (z : BitVec 10) (arg : BitVec 8)
  /-- Writes every held IMEM write in arrival order and refetches from updated memory (R152). -/
  | ifence (ag : Agent) (z : BitVec 10) (arg : BitVec 8)
  /-- Reloads the core's watchdog (R151). -/
  | wdog (ag : Agent) (z : BitVec 10) (arg : BitVec 8)
  /-- Switches the cluster from oscillator to PLL when locked and writes Pd (R156). -/
  | clksel (ag : Agent) (z : BitVec 10) (arg : BitVec 8)
  /-- Pushes a 32-byte SDMEM command to a sequencer target through the issue queue (R310). -/
  | spush (ag : Agent) (tq : BitVec 4) (a : BitVec 5) (ax ay : BitVec 4) (x y : BitVec 1) (u : BitVec 7)
  /-- Pops the oldest sequencer record into four registers and sets CCR (R309). -/
  | spop (ag : Agent) (d : BitVec 5) (z : BitVec 21)
  /-- Stalls until the issue queue holds at most n uncompleted commands (R309). -/
  | swaitq (ag : Agent) (z : BitVec 19) (n : BitVec 7)
  /-- Pushes an entry to a cluster mover's address queue (R309). -/
  | sstrm (ag : Agent) (m : BitVec 3) (last : BitVec 1) (aa : BitVec 4) (b : BitVec 5) (z : BitVec 13)
  /-- Sends an inbox word to another cluster's sequencer (R309). -/
  | ssig (ag : Agent) (a b : BitVec 5) (z : BitVec 16)
  /-- Pops the oldest mailbox word with its source, or reports empty when non-blocking (R324). -/
  | srecv (ag : Agent) (d : BitVec 5) (pp : BitVec 3) (nb : BitVec 1) (z : BitVec 17)
  /-- Pops the oldest sheaf result into registers and a predicate (R327). -/
  | sres (ag : Agent) (d : BitVec 5) (pp : BitVec 3) (nb : BitVec 1) (z : BitVec 17)
  /-- Branches on a sampled sequencer condition (R311). -/
  | sbc (ag : Agent) (n : BitVec 1) (sel : BitVec 8) (z : BitVec 1) (off : BitVec 16)
  /-- A timed command's launch time arrives on the cluster's DTIME copy and it issues, LATE beyond its slack (R165). Control core and queue, or target of a sequencer.. -/
  | timedLaunch (h : Fin 1056) (q : Fin 12)
  /-- A queued command issues once FENCE and the scoreboard grant its resources (R166). Control core and queue, or target of a sequencer.. -/
  | commandIssue (h : Fin 1056) (q : Fin 12)
  /-- A command's effects become visible; its record is written and copies and credits are sent (R171). Control core and queue, or target of a sequencer.. -/
  | commandCompletion (h : Fin 1056) (q : Fin 12)
  /-- A mover or mesh-port request has had no response within REMOTE_US and the command completes TIMEOUT (R178). Control core and queue, or target of a sequencer.. -/
  | remoteResponseTimeout (h : Fin 1056) (q : Fin 12)
  /-- Runs a multiply pass, writing exact-block-rounded grains into accumulator regions (R66). Core, bubbles, and whether an uncorrectable error was met. -/
  | mqMul (n : Fin 1024) (bub : Nat) (ue : Bool)
  /-- Runs a pass computing sums of absolute differences as grains (R92). Core, bubbles, and whether an uncorrectable error was met. -/
  | l1 (n : Fin 1024) (bub : Nat) (ue : Bool)
  /-- Runs a pass computing sums of squared differences as grains (R92). Core, bubbles, and whether an uncorrectable error was met. -/
  | l2 (n : Fin 1024) (bub : Nat) (ue : Bool)
  /-- Runs a pass counting elements with a greater than b (R92). Core, bubbles, and whether an uncorrectable error was met. -/
  | cmpcount (n : Fin 1024) (bub : Nat) (ue : Bool)
  /-- Runs a pass writing the rounded largest a plus b to tile registers (R94). Core, bubbles, and whether an uncorrectable error was met. -/
  | maxplus (n : Fin 1024) (bub : Nat) (ue : Bool)
  /-- Runs a pass writing the rounded smallest a plus b to tile registers (R94). Core, bubbles, and whether an uncorrectable error was met. -/
  | minplus (n : Fin 1024) (bub : Nat) (ue : Bool)
  /-- Runs a pass counting differing bits of INT1 operands (R92). Core, bubbles, and whether an uncorrectable error was met. -/
  | hamming (n : Fin 1024) (bub : Nat) (ue : Bool)
  /-- The next weight set starts loading into the standby chains once its tiles are readable (R74). Core. -/
  | weightLoad (n : Fin 1024)
  /-- No row slot has entered the array for 10,000 ns and it becomes cold (R84). Core. -/
  | arrayCold (n : Fin 1024)
  /-- A ramp enables the next column group at t0 plus 250g ns (R85). Core. -/
  | columnGroupEnable (n : Fin 1024)
  /-- After a ramp the first row slot is admitted at t0 plus 2,000 ns (R85). Core. -/
  | firstSlotAdmit (n : Fin 1024)
  /-- Vector FP32 addition over R rows (R107). Core, and whether an uncorrectable error was met. -/
  | vqAdd (n : Fin 1024) (ue : Bool)
  /-- Vector FP32 subtraction over R rows (R107). Core, and whether an uncorrectable error was met. -/
  | vqSub (n : Fin 1024) (ue : Bool)
  /-- Vector FP32 multiplication over R rows (R107). Core, and whether an uncorrectable error was met. -/
  | vqMul (n : Fin 1024) (ue : Bool)
  /-- Vector fused multiply-add with one rounding (R107). Core, and whether an uncorrectable error was met. -/
  | fma (n : Fin 1024) (ue : Bool)
  /-- Vector elementwise maximum with NaN handling (R107). Core, and whether an uncorrectable error was met. -/
  | vqMax (n : Fin 1024) (ue : Bool)
  /-- Vector elementwise minimum with NaN handling (R107). Core, and whether an uncorrectable error was met. -/
  | vqMin (n : Fin 1024) (ue : Bool)
  /-- Vector absolute value (R107). Core, and whether an uncorrectable error was met. -/
  | abs (n : Fin 1024) (ue : Bool)
  /-- Vector negation (R107). Core, and whether an uncorrectable error was met. -/
  | neg (n : Fin 1024) (ue : Bool)
  /-- Vector comparison writing 1.0 or +0 (R107). Core, and whether an uncorrectable error was met. -/
  | vqCmp (n : Fin 1024) (ue : Bool)
  /-- Vector select by a CMP result (R107). Core, and whether an uncorrectable error was met. -/
  | sel (n : Fin 1024) (ue : Bool)
  /-- Vector table function e to the x (R108). Core, and whether an uncorrectable error was met. -/
  | exp (n : Fin 1024) (ue : Bool)
  /-- Vector table function 2 to the x (R108). Core, and whether an uncorrectable error was met. -/
  | exp2 (n : Fin 1024) (ue : Bool)
  /-- Vector natural logarithm (R108). Core, and whether an uncorrectable error was met. -/
  | log (n : Fin 1024) (ue : Bool)
  /-- Vector base-2 logarithm (R108). Core, and whether an uncorrectable error was met. -/
  | log2 (n : Fin 1024) (ue : Bool)
  /-- Vector reciprocal square root (R108). Core, and whether an uncorrectable error was met. -/
  | rsqrt (n : Fin 1024) (ue : Bool)
  /-- Vector reciprocal, with option Z0 (R108). Core, and whether an uncorrectable error was met. -/
  | recip (n : Fin 1024) (ue : Bool)
  /-- Vector conversion between formats and to or from grains (R56). Core, and whether an uncorrectable error was met. -/
  | cvt (n : Fin 1024) (ue : Bool)
  /-- Adds two grain runs exactly at one scale (R110). Core, and whether an uncorrectable error was met. -/
  | gadd (n : Fin 1024) (ue : Bool)
  /-- Rescales a grain run from e1 to e2 (R61). Core, and whether an uncorrectable error was met. -/
  | grescale (n : Fin 1024) (ue : Bool)
  /-- Writes the maximum of each logical row to a row vector (R112). Core, and whether an uncorrectable error was met. -/
  | rmax (n : Fin 1024) (ue : Bool)
  /-- Writes the fixed-order sum of each logical row to a row vector (R112). Core, and whether an uncorrectable error was met. -/
  | rsum (n : Fin 1024) (ue : Bool)
  /-- Writes exp of x minus the row maximum and its row sums (R113). Core, and whether an uncorrectable error was met. -/
  | exps (n : Fin 1024) (ue : Bool)
  /-- Writes mean and reciprocal standard deviation of each logical row (R114). Core, and whether an uncorrectable error was met. -/
  | lnstat (n : Fin 1024) (ue : Bool)
  /-- Writes normalised rows scaled by gamma and shifted by beta (R114). Core, and whether an uncorrectable error was met. -/
  | norm (n : Fin 1024) (ue : Bool)
  /-- Reduces a run to one FP32 sum in a scalar register (R115). Core, and whether an uncorrectable error was met. -/
  | sumToScalar (n : Fin 1024) (ue : Bool)
  /-- Reduces a run to its maximum in a scalar register (R115). Core, and whether an uncorrectable error was met. -/
  | maxToScalar (n : Fin 1024) (ue : Bool)
  /-- Reduces a run to its minimum in a scalar register (R115). Core, and whether an uncorrectable error was met. -/
  | minToScalar (n : Fin 1024) (ue : Bool)
  /-- Reduces a run to the index, or 64-bit key, of its largest element (R116). Core, and whether an uncorrectable error was met. -/
  | argmax (n : Fin 1024) (ue : Bool)
  /-- Counts elements satisfying a comparison against a scalar (R115). Core, and whether an uncorrectable error was met. -/
  | count (n : Fin 1024) (ue : Bool)
  /-- Sums a grain run exactly into a scalar register pair (R110). Core, and whether an uncorrectable error was met. -/
  | gsum (n : Fin 1024) (ue : Bool)
  /-- Copies elements along a six-level affine walk after checking both extents (R192). Control core, mover, memory words found wrong (even: uncorrectable; odd, less 1: corrected), and whether a tile, region or descriptor was. -/
  | walk (h : Fin 1056) (m : Fin 8) (bad : List Nat) (ue : Bool)
  /-- Copies stream-addressed bytes to a consecutive destination (R200). Control core, mover, memory words found wrong (even: uncorrectable; odd, less 1: corrected), and whether a tile, region or descriptor was. -/
  | gather (h : Fin 1056) (m : Fin 8) (bad : List Nat) (ue : Bool)
  /-- Copies a consecutive source to stream-addressed destinations (R200). Control core, mover, memory words found wrong (even: uncorrectable; odd, less 1: corrected), and whether a tile, region or descriptor was. -/
  | scatter (h : Fin 1056) (m : Fin 8) (bad : List Nat) (ue : Bool)
  /-- Writes STEP bytes at BASE plus PENDING and advances PENDING (R204). Control core, mover, memory words found wrong (even: uncorrectable; odd, less 1: corrected), and whether a tile, region or descriptor was. -/
  | append (h : Fin 1056) (m : Fin 8) (bad : List Nat) (ue : Bool)
  /-- Moves COMMITTED to PENDING, or rolls back a broken pointer (R205). Control core and mover. -/
  | commit (h : Fin 1056) (m : Fin 8)
  /-- A waiting stream command takes a newly pushed address-queue entry and moves or refuses it (R201). Control core, mover, memory words found wrong (even: uncorrectable; odd, less 1: corrected), and whether a tile, region or descriptor was. -/
  | streamEntry (h : Fin 1056) (m : Fin 8) (bad : List Nat) (ue : Bool)
  /-- Writes local bytes to a remote device address through the mesh (R186). Core, memory words found wrong (even: uncorrectable; odd, less 1: corrected), and whether a tile or region was. -/
  | put (n : Fin 1024) (bad : List Nat) (ue : Bool)
  /-- Reads remote bytes into a local endpoint through the mesh (R186). Core. -/
  | get (n : Fin 1024)
  /-- Sends a message to every member of a multicast group (R263). Core, memory words found wrong (even: uncorrectable; odd, less 1: corrected), and whether a tile or region was. -/
  | mcast (n : Fin 1024) (bad : List Nat) (ue : Bool)
  /-- Sends a grain contribution to a sheaf, or VOID packets when it cannot (R265). Core, and whether an uncorrectable error was met. -/
  | sheaf (n : Fin 1024) (ue : Bool)
  /-- Starts every named core at PC in the issue cycle (R318). Cluster. -/
  | coreStart (c : Fin 32)
  /-- Adds AMT to counter CN of every named core (R318). Cluster. -/
  | coreCredit (c : Fin 32)
  /-- Reserves a share of a stack's request slots for DUR_NS (R320). Cluster. -/
  | hres (c : Fin 32)
  /-- Pulls in the stack's per-bank refreshes due within DUR_NS (R320). Cluster, and how many refreshes the stack performed. -/
  | href (c : Fin 32) (n : Nat)
  /-- Sets up a multicast group rooted at its source (R261). Cluster, and memory words found wrong (even: uncorrectable; odd, less 1: corrected). -/
  | gset (c : Fin 32) (bad : List Nat)
  /-- Clears a multicast group once its packets in flight have landed (R321). Cluster. -/
  | gclr (c : Fin 32)
  /-- Arms a sheaf rooted at this cluster and completes when it is open (R321). Cluster. -/
  | sharm (c : Fin 32)
  /-- Cancels a sheaf as SHF_CTL.CANCEL does (R321). Cluster. -/
  | shcancel (c : Fin 32)
  /-- Does nothing but complete with its record and credits the cycle after issue (R322). Cluster. -/
  | mark (c : Fin 32)
  /-- Forwards an advisory heavy-phase hint to the field's VPM controller (R322). Cluster. -/
  | hint (c : Fin 32)
  /-- A credit flit reaches a core counter and adds its amount, or is refused or absorbed (R144). Which flit of the mesh. -/
  | creditArrival (i : Nat)
  /-- An inbox CREDIT word adds to a sequencer counter (R324). Which flit of the mesh. -/
  | inboxCredit (i : Nat)
  /-- An inbox ARRIVE word counts one arrival at a barrier (R325). Which flit of the mesh. -/
  | inboxArrive (i : Nat)
  /-- An inbox MAIL word enters the mailbox, or is discarded when full (R324). Which flit of the mesh. -/
  | inboxMail (i : Nat)
  /-- A record copy from a core enters the sequencer's record queue or is discarded (R312). Which flit of the mesh. -/
  | recordCopyArrival (i : Nat)
  /-- A HALT or exception report sets a bit of SEQ_HALTED or SEQ_EXCM (R326). Which flit of the mesh. -/
  | coreReportArrival (i : Nat)
  /-- The keeper's wake alarm fires ahead of the earliest launch time and wakes the cluster (R316). Cluster `c`. -/
  | wakeAlarm (c : Fin 32)
  /-- A core's watchdog reaches zero and raises WATCHDOG (R151). Control core. -/
  | watchdogExpiry (h : Fin 1056)
  /-- A write to a core's IMEM lands at once or is held while the core runs (R152). Which packet of the mesh, and memory words found wrong (even: uncorrectable; odd, less 1: corrected). -/
  | imemWrite (i : Nat) (bad : List Nat)
  /-- The oldest held IMEM write reaches TIMEOUT_US and every held write is discarded (R152). Control core. -/
  | imemHoldTimeout (h : Fin 1056)
  /-- A READ packet reaches a loft, granary slice, HBM controller or other unit and is answered with RDATA (R247). Which packet of the mesh, and memory words found wrong (even: uncorrectable; odd, less 1: corrected). -/
  | read (i : Nat) (bad : List Nat)
  /-- A WRITE packet reaches a memory, which writes it and returns WACK (R546). Which packet of the mesh, and memory words found wrong (even: uncorrectable; odd, less 1: corrected). -/
  | write (i : Nat) (bad : List Nat)
  /-- A class 0xF access reaches a CSR block and is answered with MRSP (R191). Which packet of the mesh, and memory words found wrong (even: uncorrectable; odd, less 1: corrected). -/
  | mgmt (i : Nat) (bad : List Nat)
  /-- A read response arrives and releases its tracked transaction (R209). Which packet of the mesh. -/
  | rdata (i : Nat)
  /-- A write acknowledgement arrives and releases its tracked transaction (R254). Which packet of the mesh. -/
  | wack (i : Nat)
  /-- A management response arrives and releases its tracked transaction (R248). Which packet of the mesh. -/
  | mrsp (i : Nat)
  /-- A member port writes an MCAST packet and after the last sends credits and MACK (R263). Which packet of the mesh, and memory words found wrong (even: uncorrectable; odd, less 1: corrected). -/
  | mcastLanding (i : Nat) (bad : List Nat)
  /-- A member's MACK arrives at the source and counts toward completion (R263). Which packet of the mesh. -/
  | mack (i : Nat)
  /-- A packet waits 64 µs in a replication buffer and raises a Warning (R262). Field, partition and group. -/
  | mcastStall (f : Fin 16) (p : Fin 32) (g : Fin 256)
  /-- A receiver finds a CRC error and the sender replays from the failed flit (R255). Field, its side, and replays failed in a row. -/
  | linkReplay (f : Fin 16) (side : Fin 4) (failed : Nat)
  /-- A VC1–VC5 flit waits 512 mc at a router and is escalated (R257). Field. -/
  | escalation (f : Fin 16)
  /-- A whole SHEAF packet in an output queue absorbs another of the same sheaf and segment (R266). The packet that absorbs and the packet absorbed. -/
  | sheafCombine (i j : Nat)
  /-- A write of SHF_CTL.ARM checks the descriptor and distributes the sheaf entry (R264). Root cluster and sheaf id. -/
  | shfArm (c : Fin 32) (i : Fin 256)
  /-- Every endpoint holds the sheaf entry and STATE reads open (R264). Root cluster and sheaf id. -/
  | sheafOpen (c : Fin 32) (i : Fin 256)
  /-- A write of SHF_CTL.CANCEL closes an open sheaf with ABORTED (R268). Root cluster and sheaf id. -/
  | shfCancel (c : Fin 32) (i : Fin 256)
  /-- A sheaf segment reaches the root engine and is combined into its store (R267). Which packet of the mesh. -/
  | sheafSegmentArrival (i : Nat)
  /-- A sheaf still open TMO_US after ARM completes TIMEOUT (R268). Root cluster and sheaf id. -/
  | sheafTimeout (c : Fin 32) (i : Fin 256)
  /-- A TOSEQ result enters the sequencer's result queue once it has room (R327). Cluster. -/
  | sheafResultDelivery (c : Fin 32)
  /-- Resets a partition's endpoints, absorbing its traffic and closing its sheaves and groups (R271). Partition, and whether the reset starts or completes. -/
  | partitionReset (p : Fin 32) (fin : Bool)
  /-- A tripped field's routers are empty and every router switches to the alternate tables (R272). Field. -/
  | meshDrainEnd (f : Fin 16)
  /-- After a trip clears the ALT classes drain and routing returns to dimension order (R272). Field. -/
  | meshReturnDrainEnd (f : Fin 16)
  /-- Keepers whose beacon path changed recalibrate their path delay (R289). Keeper (cluster, or 32 + corner die) and path delay in 2^-8 ns. -/
  | pathRecalibration (u : Fin 36) (d : Nat)
  /-- The time master sends a beacon at each multiple of 1,000 ns (R287). -/
  | beaconSend
  /-- A beacon reaches a keeper, which slews toward T plus D plus CORR (R290). Keeper, the path's unloaded delay and what is added on the way, both in 2^-16 ns. -/
  | beaconArrival (u : Fin 36) (path extra : Nat)
  /-- A keeper receives no beacon for 16 µs and sets MISS (R291). Keeper. -/
  | beaconMiss (u : Fin 36)
  /-- Every 64 mc the compute copy compares itself with its keeper and follows it (R290). Cluster `c`. -/
  | copyFollow (c : Fin 32)
  /-- On the oscillator the copy loads its keeper's value every 256 mc (R292). Cluster `c`. -/
  | oscCopyLoad (c : Fin 32)
  /-- DTIME comes within 10 s of a wrap; WRAPSOON is set and a Note raised (R284). -/
  | wrapsoon
  /-- DTIME wraps to 0 and ERA advances (R284). -/
  | dtimeWrap
  /-- Loss of the reference is detected; PLLs hold and REFHOLD is set (R276). -/
  | refLoss
  /-- The reference returns and the PLLs begin to relock (R276). -/
  | refReturn
  /-- PLLs relock, REFHOLD clears and a Note is raised (R276). -/
  | refRelock
  /-- A PTP Sync is received and the master adjusts RATE or EPOCH (R297). What the message says of itself, sequence number, whether two-step, origin time and correction in 2^-16 ns. -/
  | ptpSync (m : PtpSrc) (seq : Nat) (two : Bool) (t1 : Nat) (corr : Int)
  /-- A Follow_Up from a two-step master supplies the Sync time (R449). What the message says of itself, sequence number, time and correction. -/
  | ptpFollowUp (m : PtpSrc) (seq t1 : Nat) (corr : Int)
  /-- A Delay_Resp completes the end-to-end delay measurement (R296). What the message says of itself, egress of the request and its receipt, correction. -/
  | ptpDelayResp (m : PtpSrc) (t : Nat × Nat) (corr : Int)
  /-- A Pdelay_Req is answered in two-step form in peer-to-peer mode (R449). What the message says of itself, and its sequence number. -/
  | pdelayReq (m : PtpSrc) (seq : Nat)
  /-- No valid Sync for 8 intervals declares PTP loss and holdover (R297). -/
  | ptpLoss
  /-- A PPS_IN rising edge is timestamped and used as a source (R298). -/
  | ppsInEdge
  /-- PPS_OUT rises as EPOCH plus DTIME crosses a whole second (R298). -/
  | ppsOut
  /-- Every 125 µs a corner die sends a TSYNC packet on each link (R470). Link. -/
  | tsyncSend (l : Fin 16)
  /-- A TSYNC exchange gives link delay and offset, disciplining the master on the parent link (R470). Link and the far end's times. -/
  | tsyncReceive (l : Fin 16) (t2 t3 : Nat)
  /-- Every 1 ms a module sends its election key on every link (R471). -/
  | electionKeySend
  /-- A received election key updates the system master and parent choice (R299). Link, key and hop count. -/
  | electionKeyReceive (l : Fin 16) (cls hold sys hops : Nat)
  /-- No TSYNC on the parent link for 1 ms starts a new election (R301). -/
  | parentLoss
  /-- A read of TIME_NOWL latches the upper word into TIME_NOWH (R302). -/
  | timeNowlRead
  /-- Every 1,000 ns the frequency controller lowers or raises the operating point from the monitor margins (R281). `m`: smallest margin 0 below the low threshold, 1 between, 2 above the high one. -/
  | freqEvaluation (c : Fin 32) (m : Fin 3)
  /-- A PLL glide step completes and a lowered target takes effect (R281). Cluster `c`. -/
  | glideStepEnd (c : Fin 32)
  /-- The VPM confirms a raised voltage target and the glide up begins (R336). Cluster `c`. -/
  | raiseConfirm (c : Fin 32)
  /-- No confirmation within 20 µs cancels a raise (R336). Cluster `c`. -/
  | raiseTimeout (c : Fin 32)
  /-- A droop detector stretches compute clock periods, forcing a step down after 16 events in a window (R283). Cluster `c`. -/
  | stretchEvent (c : Fin 32)
  /-- A crossing exceeds ±4 periods; it slips, warns and runs with a full handshake (R279). Field and crossing. -/
  | crossingSlip (f : Fin 16) (x : Nat)
  /-- A slipped crossing finds an empty cycle and restores its offset (R279). Field and crossing. -/
  | crossingRecentre (f : Fin 16) (x : Nat)
  /-- No empty cycle within 100 µs and the write side is held to make one (R279). Field and crossing. -/
  | forcedGap (f : Fin 16) (x : Nat)
  /-- Input below 47 V for 10 µs asserts the alert wire with a Warning (R332). `v`: input voltage in 10 mV. -/
  | inputUndervoltage (v : Nat)
  /-- Input back at 48 V for 100 µs clears the undervoltage cause (R332). `v`: input voltage in 10 mV. -/
  | inputUvClear (v : Nat)
  /-- Input below 42 V for 20 µs removes every rail except VAON (R332). `v`: input voltage in 10 mV. -/
  | inputBelow42v (v : Nat)
  /-- Input below 36 V loses VAON, DTIME and every count (R332). -/
  | vaonLoss
  /-- Input above 60 V for 10 µs raises a Warning (R332). `v`: input voltage in 10 mV. -/
  | inputOvervoltage (v : Nat)
  /-- Input above 64 V for 1 µs removes every rail (R332). -/
  | inputAbove64v
  /-- A 1 ms mean input current above 130 A is counted with a Warning (R528). `i`: input current in 0.1 A. -/
  | inputCurrentOver (i : Nat)
  /-- Input current above 160 A for 10 ms removes every rail except VAON (R528). `i`: input current in 0.1 A. -/
  | inputCurrentTrip (i : Nat)
  /-- Every 100 ns a field sends its headroom minima and its controller steers the feed and VSRAM (R338). Minima of west cluster, east cluster and VSRAM, in 0.5 mV. -/
  | senseMinima (f : Fin 16) (w e v : Int)
  /-- Every 10 ns a cluster regulator trims VLOG to meet the margin (R339). `head`: minimum headroom in 0.5 mV. -/
  | regulatorUpdate (c : Fin 32) (head : Int)
  /-- No sense minimum for 1 µs raises the feed, asserts the alert and raises an Error (R340). Field `f`. -/
  | senseLoss (f : Fin 16)
  /-- Minima arrive again for 100 µs and normal steering resumes (R340). Field `f`. -/
  | senseRestore (f : Fin 16)
  /-- A regulator slice fails and is switched out, lowering the over-current limit (R341). Slice `sl`, or with `ctrl` the controller. -/
  | sliceFailure (c : Fin 32) (sl : Fin 16) (ctrl : Bool)
  /-- VLOG below 0.45 V in low-power mode resets the cluster to Rest after aborting its partition (R360). Cluster `c`. -/
  | brownout (c : Fin 32)
  /-- A forwarded kettle notice reaches its field group controller (R343). Cluster `c`. -/
  | kettleNoticeArrival (c : Fin 32)
  /-- At max of arrival and t − 1,500 ns the controller brings phases online and raises the feed (R343). Field `f`. -/
  | kettleAction (f : Fin 16)
  /-- A window ends and the feed returns to its steered level over 2 µs (R343). Field `f`. -/
  | kettleWindowEnd (f : Fin 16)
  /-- No window has started for 10 µs and spare phases go offline (R343). Field `f`. -/
  | phasesOffline (f : Fin 16)
  /-- Every 50 ns a regulator samples cluster current against its limit (R346). Current in A. -/
  | ocSample (c : Fin 32) (amps : Nat)
  /-- After 10 µs and with current below half the limit the clock resumes two steps lower (R346). Current in A. -/
  | ocResume (c : Fin 32) (amps : Nat)
  /-- A write of REG_OC.RELEASE ends an over-current hold (R347). Cluster `c`. -/
  | regOcRelease (c : Fin 32)
  /-- An alert cause asserts the wire and every cluster switches to 800 MHz within 1 µs (R348). Cause 0 FPEAK, 1 FMEAN, 2 PIN, 3 UV, 4 TEMP, 5 SENSE. -/
  | alertAssert (i : Fin 6)
  /-- Every cause clear for 100 µs releases the alert wire (R348). -/
  | alertRelease
  /-- Each millisecond a telemetry frame is formed and delivered to TEL_LAST, the ring and subscribers (R349). What the frame measures. -/
  | telemetryFrame (pin vin temp : Nat) (rs : List (Bool × Nat × Nat × Nat × Nat))
  /-- A cluster idle for STEEP_US enters Steep (R356). Cluster `c`. -/
  | steepEntry (c : Fin 32)
  /-- A cluster in Steep for REST_MS enters Rest (R356). Cluster `c`. -/
  | restEntry (c : Fin 32)
  /-- A write of PST_CTL.REST puts the cluster in Rest when idle (R356). Cluster `c`. -/
  | pstCtlRest (c : Fin 32)
  /-- A write of PST_CTL.WAKE wakes the cluster (R357). Cluster `c`. -/
  | pstCtlWake (c : Fin 32)
  /-- A write of PST_CTL.OFF puts a cluster in no partition in Off when idle (R361). Cluster `c`. -/
  | pstCtlOff (c : Fin 32)
  /-- A write of PST_CTL.ON brings a cluster out of Off with cause COMMAND (R361). Cluster `c`. -/
  | pstCtlOn (c : Fin 32)
  /-- A refused ticket is checked again every 20 µs and granted on the ninth check (R363). Cluster `c`. -/
  | ticketRecheck (c : Fin 32)
  /-- The 20 µs inrush throttle of the neighbour cluster ends (R363). Cluster `c`. -/
  | neighbourThrottleEnd (c : Fin 32)
  /-- VLOG reaches target, the oscillator runs and the first instruction issues (R359). Cluster `c`. -/
  | restWakeReady (c : Fin 32)
  /-- The cluster PLL locks and CC_CLK.LOCK is set (R359). Cluster `c`. -/
  | pllLock (c : Fin 32)
  /-- Every 100 µs the cap governor measures class draws and allocates tokens (R369). Draws in W, of each class and each cluster. -/
  | capEvaluation (link mem cmp : Nat) (clu : List Nat)
  /-- Every 100 µs hottest sensors are reported and ceilings, parks and trips applied (R373). Hottest sensors, °C. -/
  | thermalSample (clu fields : List Nat)
  /-- PWR_WARN# low for 10 µs starts keep-warm entry (R365). -/
  | pwrWarnLow
  /-- PWR_WARN# returns high, starting the automatic resume hold-off (R368). -/
  | pwrWarnHigh
  /-- Keep-warm entry aborts every partition, self-refreshes stacks and removes rails (R367). Cause as `KW_STAT.CAUSE`. -/
  | keepwarmEntry (cause : Fin 6)
  /-- The device abort ends and keep-warm entry proceeds to self refresh and rail removal (R425). -/
  | deviceAbortEnd
  /-- A write of KW_CTL.ENTER starts keep-warm entry (R365). -/
  | kwEnter
  /-- A write of KW_CTL.RESUME resumes from keep-warm, refused while PWR_WARN# is low (R368). -/
  | kwResume
  /-- PWR_WARN# high for HOLDOFF_MS with AUTO set resumes from keep-warm (R368). -/
  | keepwarmAutoResume
  /-- Input held at 48 V for 10 ms with RESET# high marks power-good (R529). Corner dies whose ROM checks pass; the reference is present. -/
  | powerGood (rom : List (Fin 4)) (ref : Bool)
  /-- RESET# low for 10 µs removes every rail except VAON (R529). -/
  | resetAssert
  /-- Release of RESET# begins a cold start (R529). As POWER_GOOD. -/
  | resetRelease (rom : List (Fin 4)) (ref : Bool)
  /-- A passing corner die waits 2 ms × p and claims boot master if none has (R381). Position. -/
  | bootClaim (p : Fin 4)
  /-- No claim within 20 ms of power-good asserts FAULT# and stops (R381). -/
  | claimTimeout
  /-- The read image is checked in order and the boot decision taken (R516). What the qualification of wires, the read and an enrolment's read-backs find: wires and lanes beside those of the repair map. -/
  | imageVerify (meshOk : Bool) (wires : List (Nat × Nat × Nat)) (ucie : List (Nat × Nat)) (arrived : Bool) (rb : List Bool)
  /-- Start-up tests finish and targets are judged by voting (R390). What the tests find. -/
  | startTestsEnd (fails cols : List (Nat × Nat × Nat)) (loft slices regs : List (Nat × Nat)) (seqs : List Nat) (trips : List (Nat × Bool))
  /-- A target that has not answered a kernel within 10 ms is failed (R389). Cluster, tester and target. -/
  | testKernelTimeout (c : Fin 32) (t p : Fin 36)
  /-- Maps, plans and programs are applied and sequencers start with READY set (R396). What training, qualification, mount (of each NAND channel seven numbers) and calibration find; of `ok`, whether every wire can be repaired and whether the staged image still reads clean. -/
  | servingReady (up : List (Fin 24)) (oct : List Nat) (eth : List Bool) (chans : List (List Nat)) (paths : List Nat) (ok : Bool × Bool) (regs : List (Nat × Nat))
  /-- After READY and mount the bale manifest is checked and AUTOLOAD entries posted (R513). -/
  | manifestCheck
  /-- A winnow sample copy lands in the witness's slot W (R408). Source core. -/
  | winnowCopyLanding (n : Fin 1024)
  /-- An idle witness runs the sample through exchange fronts (R409). Witness, and wrong results of a failing array. -/
  | witnessRun (w : Fin 1024) (errs : List (Nat × Int))
  /-- The witness run ends and its rows are compared bit for bit with the source's (R410). Witness; a slot held an uncorrectable error. -/
  | winnowCompare (w : Fin 1024) (ue : Bool)
  /-- A sample not run within 10 ms expires as skipped (R409). Witness. -/
  | sampleExpiry (w : Fin 1024)
  /-- The reruns complete and a verdict is drawn, charging or retiring cores (R411). Witness; wrong results of source, witness and third core. -/
  | classificationVerdict (w : Fin 1024) (se we te : List (Nat × Int)) (ue : Bool)
  /-- A rerun not complete within 10 ms makes the verdict INDETERMINATE (R411). Witness. -/
  | classificationTimeout (w : Fin 1024)
  /-- A write of WN_SEED reseeds every core of the partition (R406). Partition and value. -/
  | wnSeedWrite (p : Fin 32) (v : BitVec 32)
  /-- A write of WN_CORE.RETIRE makes the core retiring (R413). Core. -/
  | wnCoreRetire (n : Fin 1024)
  /-- Once the cluster is idle the retiring core's logical id is remapped (R413). Core. -/
  | retirementRemap (n : Fin 1024)
  /-- The cluster quiesce ends and the spare serves the logical id (R413). Core, and the columns that the spare's array leaves out (R97). -/
  | remapEnd (n : Fin 1024) (badA badB : Nat)
  /-- A due idle core runs a glean window of pack kernels (R415). Core, kernels run, and kernels that differed. -/
  | gleanWindow (n : Fin 1024) (ks : Nat) (fails : List (Nat × Bool))
  /-- A glean window reaches GL_WIN_MS and stops (R415). Core. -/
  | gleanWindowEnd (n : Fin 1024)
  /-- A write of PART_CTL.ABORT triggers a partition abort (R423). Partition. -/
  | partCtlAbort (p : Fin 32)
  /-- At T + 1,500 µs every unanswered request is written off (R424). Partition. -/
  | abortWriteoff (p : Fin 32)
  /-- The drain ends; counters are reclaimed, the audit runs and the abort ends (R424). Partition. -/
  | abortReconcile (p : Fin 32)
  /-- A write of PART_CTL.LEDGER_AUDIT starts a partition audit (R422). Partition. -/
  | partCtlLedgerAudit (p : Fin 32)
  /-- A write of LEDGER_STAT.LEDGER_AUDIT starts a device audit (R422). -/
  | ledgerStatAudit
  /-- After quiescence or 1 ms the audit checks accounts and acts on failure (R422). Partition, or 32 for the device. -/
  | auditVerdict (p : Fin 33)
  /-- A stage forwards a record or coalesces it when it cannot (R430). Stage; whether it can forward. -/
  | collectorForward (k : Fin 21) (room : Bool)
  /-- A coalescing entry leaves as a COAL record when the stage has room (R430). Stage. -/
  | coalescedRecordOut (k : Fin 21)
  /-- A ring setting outside its allowed ranges sets SIZE to 0 with a Warning (R431). Partition, or 32 for the device, and value. -/
  | evRinghWrite (p : Fin 33) (v : BitVec 32)
  /-- Clearing EV_ALARM.PENDING releases FAULT# (R432). -/
  | evAlarmClear
  /-- A frame is received, filtered and dispatched; ARP, ND and echo are answered (R439). Length, tag, kind, destination port or priority with queue pair or pause quanta, and whether it has what the port discards. -/
  | ethFrameReceive (len : Nat) (vid : Option Nat) (kind : Fin 8) (dport : Nat × Nat) (drop : Bool)
  /-- A datagram for a binding is written into its ring and a MAIL word sent (R442). Binding, source and payload. -/
  | requestDatagram (b : Fin 32) (v6 : Bool) (sport : Nat) (src : List (BitVec 32)) (d : List (BitVec 8))
  /-- A write of TX_IDX.HEAD makes egress slots ready to send (R444). Cluster and HEAD. -/
  | txIdxHeadWrite (c : Fin 32) (head : BitVec 16)
  /-- An egress frame leaves and DONE advances (R444). Cluster `c`. -/
  | egressFrameSent (c : Fin 32)
  /-- An RDMA WRITE is checked against its region, written and acknowledged (R447). Queue pair and whether it is ECN-marked, key, HBM offset and bytes. -/
  | rdmaWrite (q : Nat × Bool) (key addr : Nat) (d : List (BitVec 8))
  /-- An RDMA READ is checked against its region and answered (R445). Queue pair and whether it is ECN-marked, key, HBM offset and length. -/
  | rdmaRead (q : Nat × Bool) (key addr len : Nat)
  /-- A received CNP halves a queue pair's read-response rate (R445). Queue pair. -/
  | cnpReceive (q : Nat)
  /-- Every 55 µs the read-response rate recovers by 1/16 of line rate (R445). Queue pair. -/
  | cnpRecovery (q : Nat)
  /-- An OPEN is verified and answered with OPEN_OK or REFUSE (R451). The first datagram of the message and the others, each with its header. -/
  | caddyOpen (first : List (BitVec 8)) (rest : List (List (BitVec 8)))
  /-- A tagged CMD is executed once by SEQ, or its cached RSP resent (R453). Session, SEQ, whether the tag matches, operation and operand. -/
  | caddyCmd (id seq : Nat) (ok : Bool) (op : Nat) (a : List Nat)
  /-- A CLOSE closes the session (R453). Session; whether the tag matches. -/
  | caddyClose (id : Nat) (ok : Bool)
  /-- A session with no valid CMD for 300 s is closed (R453). Session. -/
  | caddySessionTimeout (id : Nat)
  /-- Reads up to 256 CSR offsets as a device-level unit (R454). Session, SEQ, whether the tag matches, offsets. -/
  | csrRead (id seq : Nat) (ok : Bool) (offs : List Nat)
  /-- Applies up to 128 CSR writes in order, stopping at a RANGE (R454). Session, SEQ, whether the tag matches, offsets and values. -/
  | csrWrite (id seq : Nat) (ok : Bool) (l : List (Nat × BitVec 32))
  /-- Aborts a partition, or the device for 0xFF (R454). Session, SEQ, whether the tag matches, partition or 0xFF. -/
  | caddyAbort (id seq : Nat) (ok : Bool) (p : BitVec 8)
  /-- Enters or resumes keep-warm (R454). Session, SEQ, whether the tag matches; enter or resume. -/
  | caddyKeepwarm (id seq : Nat) (ok enter : Bool)
  /-- Sets the power limit, clamped to the fused maximum with a Warning (R3). Session, SEQ, whether the tag matches, W. -/
  | plimit (id seq : Nat) (ok : Bool) (w : Nat)
  /-- Sets a session's event class and telemetry subscription (R456). Session, SEQ, whether the tag matches, class and telemetry. -/
  | subscribe (id seq : Nat) (ok : Bool) (cls : Nat) (tel : Bool)
  /-- Sets the time of day at the next PPS_IN edge (R295). Session, SEQ, whether the tag matches, seconds and ns. -/
  | timeofday (id seq : Nat) (ok : Bool) (sec ns : Nat)
  /-- Creates, modifies or destroys a RoCEv2 queue pair (R445). Session, SEQ, whether the tag matches, 0 create, 1 modify, 2 destroy, number and MTU. -/
  | qp (id seq : Nat) (ok : Bool) (sub qpn mtu : Nat)
  /-- Registers or deregisters an HBM memory region (R446). Session, SEQ, whether the tag matches; register a range with its rights, or deregister the key in `base`. -/
  | region (id seq : Nat) (ok reg : Bool) (base len : Nat) (rd wr : Bool)
  /-- Delivers a segment of a glean pack that replaces the active pack if it verifies (R414). Session, SEQ, whether the tag matches, offset and bytes. -/
  | glean (id seq : Nat) (ok : Bool) (off : Nat) (d : List (BitVec 8))
  /-- Opens a flash image transfer (R518). Session, SEQ, whether the tag matches, length. -/
  | flashBegin (id seq : Nat) (ok : Bool) (len : Nat)
  /-- Writes image bytes at the next offset of the open transfer (R518). Session, SEQ, whether the tag matches, offset and bytes. -/
  | dataOp (id seq : Nat) (ok : Bool) (off : Nat) (d : List (BitVec 8))
  /-- Closes the transfer, reads the flash back and runs checks 1–8 (R518). Session, SEQ, whether the tag matches. -/
  | flashEnd (id seq : Nat) (ok : Bool)
  /-- Aborts the device and restarts from flash or a stream (R518). Session, SEQ, whether the tag matches; from a stream of LEN bytes, or from flash. -/
  | restart (id seq : Nat) (ok stream : Bool) (len : Nat)
  /-- Closes the open image transfer (R518). Session, SEQ, whether the tag matches. -/
  | cancel (id seq : Nat) (ok : Bool)
  /-- A streamed image with no DATA for 10 s fails check 2 (R518). -/
  | streamDataTimeout
  /-- Returns a signed 192-byte attestation quote for a nonce (R521). Session, SEQ, whether the tag matches, nonce. -/
  | quote (id seq : Nat) (ok : Bool) (nonce : List (BitVec 32))
  /-- A block is received, checked and acknowledged or NACKed for replay (R459). What the block on link `l` holds: FEC and CRC passed, SEQ, ACK, NACK, credit returns, and the packets whose last flit it brings. -/
  | octoonBlockReceive (l : Fin 16) (good : Bool) (seq ack : Nat) (nack : Bool) (credits : List Nat) (ps : List (List Word × List Byte))
  /-- A retrain completes, possibly narrower, or leaves the link unavailable (R459). Link and width code. -/
  | linkRetrainEnd (l : Fin 16) (width : Fin 4)
  /-- After 1 ms packets queued for an unavailable link are absorbed (R459). The link. -/
  | linkUnavailableAbsorb (l : Fin 16)
  /-- A packet at a corner die is checked at the wall and routed, transited or absorbed (R463). Place in the list of packets at the corner dies. -/
  | octoonPacketRoute (i : Nat)
  /-- Writes bytes on another module and then sends its remote credit (R468). Slot `k` of cluster `c`. -/
  | remotePut (c : Fin 32) (k : Fin 16)
  /-- Reads bytes from another module into the local endpoint (R468). Slot `k` of cluster `c`. -/
  | remoteGet (c : Fin 32) (k : Fin 16)
  /-- Sends grains as one contribution to a sheaf on another module (R468). Slot `k` of cluster `c`. -/
  | remoteSheaf (c : Fin 32) (k : Fin 16)
  /-- Sends credits to a core on another module (R468). Slot `k` of cluster `c`. -/
  | remoteCredit (c : Fin 32) (k : Fin 16)
  /-- A remote slot with no response within REMOTE_US completes TIMEOUT (R468). Slot `k` of cluster `c`. -/
  | remoteSlotTimeout (c : Fin 32) (k : Fin 16)
  /-- Reads units of a sealed bale into HBM (R482). Slot `k` of cluster `c` or of the host; `bad`: units no decode gave. -/
  | load (host : Bool) (c : Fin 32) (k : Fin 8) (bad : List (Nat × Bool)) (retries : Nat)
  /-- Writes HBM units into a creating bale at WPOS (R482). `fails`: blocks whose program failed. -/
  | store (host : Bool) (c : Fin 32) (k : Fin 8) (fails : List (Nat × Nat × Nat))
  /-- Allocates a bale's blocks and records it as CREATING (R482). Slot `k` of cluster `c` or of the host. -/
  | create (host : Bool) (c : Fin 32) (k : Fin 8)
  /-- Commits a bale as SEALED with its digest after its STOREs (R482). Slot `k` of cluster `c` or of the host. -/
  | seal (host : Bool) (c : Fin 32) (k : Fin 8)
  /-- Removes a bale, making its blocks PENDING (R482). Slot `k` of cluster `c` or of the host. -/
  | delete (host : Bool) (c : Fin 32) (k : Fin 8)
  /-- Writes a bale's catalogue entry to HBM (R482). Slot `k` of cluster `c` or of the host. -/
  | infoOp (host : Bool) (c : Fin 32) (k : Fin 8)
  /-- A target with no ready status in 100 ms completes its command TIMEOUT (R485). The slot whose command depends on channel `ch`. -/
  | nandReadyTimeout (host : Bool) (c : Fin 32) (k : Fin 8) (ch : Fin 128)
  /-- An allocated block is read in full once per scrub period and relocated if needed (R494). What the read found. -/
  | blockScrub (ch tgt blk temp : Nat) (soft reloc : Bool)
  /-- A PENDING block is erased in the background and becomes FREE (R490). `ok`: the erase succeeded. -/
  | blockErase (ch tgt blk : Nat) (ok : Bool)
  /-- A checkpoint is written every 10 s or 65,536 records (R489). -/
  | journalCheckpoint
  /-- A write of BARN_CTL.REBUILD rebuilds every table from the medium (R491). -/
  | barnRebuild
  /-- A rebuild ends and clears read-only when the account holds (R491). -/
  | barnRebuildEnd
  /-- Each 1 ms a stack's temperature sets its refresh rate and throttle (R234). Stack and °C. -/
  | hbmTemperatureRead (st : Fin 24) (temp : Nat)
  /-- Each 100 ms on-die ECC reports are read and counted (R235). `ue`: HBM offsets of words found uncorrectable. -/
  | hbmEccReport (st : Fin 24) (ce odecc : Nat) (ue : List Nat)
  /-- A stack requests refresh management and the scheduler issues it within its deadline (R230). Stack. -/
  | refreshManagement (st : Fin 24)
  /-- A slice scrubs one line, correcting or counting errors (R225). `off`: an offset in the line read; `ue`: its uncorrectable words. -/
  | granaryScrub (c : Fin 32) (off ce : Nat) (ue : List (Fin 4)) (last : Bool)
  /-- A write of SEQ_CTL.START starts the sequencer at ENTRY (R307). Cluster and ENTRY. -/
  | seqCtlStart (c : Fin 32) (entry : BitVec 18)
  /-- A write of SEQ_BAR.ARRIVE counts one barrier arrival (R325). Cluster and barrier. -/
  | seqBarArrive (c : Fin 32) (b : Fin 8)
  /-- Sets BASE low bits of an append pointer when OPEN and BUSY are clear (R208). Core, mover, pointer and value. -/
  | apBaselWrite (n : Fin 1024) (m : Fin 2) (a : Fin 16) (v : BitVec 32)
  /-- Sets BASE high bits and class of an append pointer when idle (R208). Core, mover, pointer and value. -/
  | apBasehWrite (n : Fin 1024) (m : Fin 2) (a : Fin 16) (v : BitVec 32)
  /-- Sets LIMIT of an append pointer when idle (R208). Core, mover, pointer and value. -/
  | apLimitWrite (n : Fin 1024) (m : Fin 2) (a : Fin 16) (v : BitVec 32)
  /-- Sets STEP of an append pointer when idle (R208). Core, mover, pointer and value. -/
  | apStepWrite (n : Fin 1024) (m : Fin 2) (a : Fin 16) (v : BitVec 32)
  /-- Sets COMMITTED and PENDING of an append pointer when idle (R208). Core, mover, pointer and value. -/
  | apCommitWrite (n : Fin 1024) (m : Fin 2) (a : Fin 16) (v : BitVec 32)
  /-- Sets a cluster's frequency limit, clamped and rounded (R303). Cluster and FLIM_MHZ. -/
  | clkCtlWrite (c : Fin 32) (mhz : BitVec 12)
  /-- A write of HBM_MAP after start is ignored with a Warning (R232). Value. -/
  | hbmMapWrite (v : BitVec 32)
  /-- A write to a register with no row of its own acts by its access type (R10). CSR offset and value. -/
  | registerWrite (off : Nat) (v : BitVec 32)
  /-- A controller reads status bytes from a written offset (R534). Offset and number of bytes. -/
  | i3cRead (off : BitVec 8) (n : Nat)
  /-- SETDASA or ENTDAA assigns the port's dynamic address (R534). Address. -/
  | i3cDynamicAddress (da : BitVec 7)
  /-- Command byte 0x01 acts as a write of KW_CTL.ENTER (R535). -/
  | i3cEnter
  /-- Command byte 0x02 acts as a write of KW_CTL.RESUME (R535). -/
  | i3cResume
  /-- Command byte 0x03 clears EV_ALARM.PENDING (R535). -/
  | i3cAlarmClear
  /-- The cluster's DTIME copy reaches the time named by a stalled WAITT and the next instruction issues (R157). Control core. -/
  | waittTimeReached (h : Fin 1056)
  /-- An endpoint or router VC0 bucket gains a flit, releasing a stalled SIG or queued device-generated VC0 flits (R251). Router, and local port or 16 for the router's own bucket. -/
  | vc0BucketRefill (b : Fin 128 × Fin 17)
  /-- An HRES reservation reaches DUR_NS after issue and its share of the stack's request slots returns (R320). Cluster. -/
  | hresEnd (c : Fin 32)
  /-- A hinted duration ends and VPM_FSTAT.HINT clears, letting the controller drop phases it held for the hint (R344). Field `f`. -/
  | hintEnd (f : Fin 16)
  /-- A pending kettle window reaches its start time and becomes active, setting KN_STAT.ACTIVE (R328). Cluster `c`. -/
  | kettleWindowStart (c : Fin 32)
  /-- No PPS_IN edge arrives for 2 s; MOD_PINS.PPSIN clears and a PPS-disciplined master enters holdover (R295). -/
  | ppsInLoss
  /-- A PTP Announce message is received and the default best master clock algorithm selects or changes the grandmaster (R296). The data set announced, with what the message says of itself. -/
  | ptpAnnounce (p1 cls acc var p2 : Nat) (m : PtpSrc) (steps : Nat)
  /-- In peer-to-peer mode a Pdelay_Resp (and follow-up) answers the device's own Pdelay_Req and yields the link delay (R296). What the message says of itself, and the four times of the exchange: our own egress, the far end's two, and our receipt. -/
  | pdelayResp (m : PtpSrc) (t1 : Nat) (far : Nat × Nat) (t4 : Nat)
  /-- The Ethernet far end trains (or stops) and the port comes up at 8 or 4 lanes, or goes down, setting ETH_STAT.UP (R438). Lanes that pass; trained. -/
  | ethTrainingComplete (lanes : List Bool) (up : Bool)
  /-- Before an image is in force, an interface tried for 1 s has not linked and the port tries the next form (R520). -/
  | ethInterfaceTryTimeout
  /-- A NAND read, program or erase returns ready status, delivering data for decode or reporting success or failure (R492). `kind` 0 read, 1 program, 2 erase. -/
  | nandOperationComplete (kind : Fin 3) (ch tgt blk : Nat) (ok : Bool) (retries : Nat)
  /-- The first mount of blank medium finishes scanning factory marks and formatting the journal, and the barn becomes mounted (R496). Every block found, with its factory mark. -/
  | blankMediumFormatEnd (l : List (Nat × Nat × Nat × Bool))
  /-- The input rises enough for the VPM to bring up VAON, turning on VAUX18, FAULT# drive and XSPI high impedance before power-good (R529). -/
  | vaonRise
  /-- A transient charge passes 3,600 s of age and leaves the core's count in WN_CORE.CHARGES (R412). Core. -/
  | chargeExpiry (n : Fin 1024)
deriving DecidableEq, Repr

end Sys2Proof
end

