-- ==== Sys2Proof/Decode.lean ====
section
/-!
DEFINITION. Decoding. The table of operations and events gives no row bits of its own, so the table's decoder names
no command. The TCS instruction words of R126–R128 and R309 are decoded and encoded here, field by field: the word a
control core fetches, and the command it stands for.
-/

namespace Sys2Proof

/-- The command that a word spells by the table's bits: no row of the table has any. -/
def decodeTableWord (_nbits _w : Nat) : Option Instr := none

/-- Field [`lo + n − 1` : `lo`] of an instruction word (R126). -/
def ifield (w : Word) (lo n : Nat) : BitVec n := w.extractLsb' lo n

/-- R128: the SYS instructions by their fn. -/
def decodeSys (ag : Agent) (w : Word) : Option Instr :=
  let z := ifield w 16 10
  let arg := ifield w 8 8
  match (ifield w 0 8).toNat with
  | 0 => some (.nop ag z arg)
  | 1 => some (.halt ag z arg)
  | 2 => some (.ifence ag z arg)
  | 3 => some (.wdog ag z arg)
  | 4 => some (.clksel ag z arg)
  | _ => none

/-- R126–R128, R309: the instruction a word stands for when `ag` fetches it; none for an unlisted opcode or SYS
function. -/
def decodeTcs (ag : Agent) (w : Word) : Option Instr :=
  let d := ifield w 21 5
  let a := ifield w 16 5
  let b := ifield w 11 5
  let fn := ifield w 0 11
  let imm := ifield w 0 16
  match (ifield w 26 6).toNat with
  | 0x00 => some (.alu ag d a b fn)
  | 0x01 => some (.fpu ag d a b fn)
  | 0x02 => some (.addi ag d a imm)
  | 0x03 => some (.andi ag d a imm)
  | 0x04 => some (.ori ag d a imm)
  | 0x05 => some (.xori ag d a imm)
  | 0x06 => some (.slti ag d a imm)
  | 0x07 => some (.sltiu ag d a imm)
  | 0x08 => some (.shi ag d a imm)
  | 0x09 => some (.lui ag d a imm)
  | 0x0A => some (.lw ag d a imm)
  | 0x0B => some (.lhu ag d a imm)
  | 0x0C => some (.lbu ag d a imm)
  | 0x0D => some (.sw ag d a imm)
  | 0x0E => some (.sh ag d a imm)
  | 0x0F => some (.sb ag d a imm)
  | 0x10 => some (.la ag (ifield w 25 1) (ifield w 21 4) a imm)
  | 0x11 => some (.sa ag (ifield w 25 1) (ifield w 21 4) a imm)
  | 0x12 => some (.aop ag d a b (ifield w 6 5) (ifield w 5 1) (ifield w 0 5))
  | 0x13 => some (.aaddi ag (ifield w 25 1) (ifield w 21 4) (ifield w 20 1) (ifield w 16 4) imm)
  | 0x14 => some (.cmp ag (ifield w 24 2) (ifield w 21 3) a b (ifield w 4 7) (ifield w 0 4))
  | 0x15 => some (.cmpi ag (ifield w 22 4) (ifield w 19 3) (ifield w 14 5) (ifield w 0 14))
  | 0x16 => some (.plog ag d a b fn)
  | 0x18 => some (.bp ag (ifield w 25 1) (ifield w 22 3) (ifield w 16 6) imm)
  | 0x19 => some (.bc ag (ifield w 25 1) (ifield w 17 8) (ifield w 16 1) imm)
  | 0x1A => some (.bflag ag (ifield w 25 1) (ifield w 24 1) (ifield w 18 6) (ifield w 16 2) imm)
  | 0x1B => some (.bcmp ag (ifield w 24 2) (ifield w 19 5) (ifield w 14 5) (ifield w 0 14))
  | 0x1C => some (.jal ag d (ifield w 0 21))
  | 0x1D => some (.jalr ag d a imm)
  | 0x20 => some (.push ag (ifield w 23 3) (ifield w 18 5) (ifield w 14 4) (ifield w 10 4) (ifield w 9 1)
      (ifield w 8 1) (ifield w 0 8))
  | 0x21 => some (.cpop ag d (ifield w 18 3) (ifield w 0 18))
  | 0x22 => some (.waitq ag d (ifield w 18 3) (ifield w 6 12) (ifield w 0 6))
  | 0x23 => some (.strm ag (ifield w 25 1) (ifield w 24 1) (ifield w 20 4) (ifield w 15 5) (ifield w 0 15))
  | 0x24 => some (.sig ag (ifield w 25 1) (ifield w 21 4) a b fn)
  | 0x25 => some (.cwait ag (ifield w 25 1) (ifield w 21 4) a imm)
  | 0x26 => some (.csrr ag d (ifield w 12 9) (ifield w 0 12))
  | 0x27 => some (.csrw ag d (ifield w 12 9) (ifield w 0 12))
  | 0x28 => some (.rdtime ag d (ifield w 0 21))
  | 0x29 => some (.waitt ag d a imm)
  | 0x2A => some (.knote ag d a b fn)
  | 0x30 => decodeSys ag w
  | 0x38 => some (.spush ag (ifield w 22 4) (ifield w 17 5) (ifield w 13 4) (ifield w 9 4) (ifield w 8 1)
      (ifield w 7 1) (ifield w 0 7))
  | 0x39 => some (.spop ag d (ifield w 0 21))
  | 0x3A => some (.swaitq ag (ifield w 7 19) (ifield w 0 7))
  | 0x3B => some (.sstrm ag (ifield w 23 3) (ifield w 22 1) (ifield w 18 4) (ifield w 13 5) (ifield w 0 13))
  | 0x3C => some (.ssig ag d a imm)
  | 0x3D => some (.srecv ag d (ifield w 18 3) (ifield w 17 1) (ifield w 0 17))
  | 0x3E => some (.sres ag d (ifield w 18 3) (ifield w 17 1) (ifield w 0 17))
  | 0x3F => some (.sbc ag (ifield w 25 1) (ifield w 17 8) (ifield w 16 1) imm)
  | _ => none

/-- R128: a SYS word. -/
def encodeSys (z : BitVec 10) (arg fn : BitVec 8) : Word := 0x30#6 ++ z ++ arg ++ fn

/-- R126–R128, R309: the word of an instruction of a control core, opcode first; none for any other command. -/
def encodeTcs : Instr → Option Word
  | .alu _ d a b fn => some (0x00#6 ++ d ++ a ++ b ++ fn)
  | .fpu _ d a b fn => some (0x01#6 ++ d ++ a ++ b ++ fn)
  | .addi _ d a imm => some (0x02#6 ++ d ++ a ++ imm)
  | .andi _ d a imm => some (0x03#6 ++ d ++ a ++ imm)
  | .ori _ d a imm => some (0x04#6 ++ d ++ a ++ imm)
  | .xori _ d a imm => some (0x05#6 ++ d ++ a ++ imm)
  | .slti _ d a imm => some (0x06#6 ++ d ++ a ++ imm)
  | .sltiu _ d a imm => some (0x07#6 ++ d ++ a ++ imm)
  | .shi _ d a imm => some (0x08#6 ++ d ++ a ++ imm)
  | .lui _ d a imm => some (0x09#6 ++ d ++ a ++ imm)
  | .lw _ d a imm => some (0x0A#6 ++ d ++ a ++ imm)
  | .lhu _ d a imm => some (0x0B#6 ++ d ++ a ++ imm)
  | .lbu _ d a imm => some (0x0C#6 ++ d ++ a ++ imm)
  | .sw _ b a imm => some (0x0D#6 ++ b ++ a ++ imm)
  | .sh _ b a imm => some (0x0E#6 ++ b ++ a ++ imm)
  | .sb _ b a imm => some (0x0F#6 ++ b ++ a ++ imm)
  | .la _ z ad a imm => some (0x10#6 ++ z ++ ad ++ a ++ imm)
  | .sa _ z ab a imm => some (0x11#6 ++ z ++ ab ++ a ++ imm)
  | .aop _ dst src1 b sh z fn => some (0x12#6 ++ dst ++ src1 ++ b ++ sh ++ z ++ fn)
  | .aaddi _ z1 ad z0 aa imm => some (0x13#6 ++ z1 ++ ad ++ z0 ++ aa ++ imm)
  | .cmp _ z1 pd a b z0 cond => some (0x14#6 ++ z1 ++ pd ++ a ++ b ++ z0 ++ cond)
  | .cmpi _ cond pd a imm => some (0x15#6 ++ cond ++ pd ++ a ++ imm)
  | .plog _ d a b fn => some (0x16#6 ++ d ++ a ++ b ++ fn)
  | .bp _ n pp z off => some (0x18#6 ++ n ++ pp ++ z ++ off)
  | .bc _ n sel z off => some (0x19#6 ++ n ++ sel ++ z ++ off)
  | .bflag _ n k i flag off => some (0x1A#6 ++ n ++ k ++ i ++ flag ++ off)
  | .bcmp _ cond a b off => some (0x1B#6 ++ cond ++ a ++ b ++ off)
  | .jal _ d off => some (0x1C#6 ++ d ++ off)
  | .jalr _ d a imm => some (0x1D#6 ++ d ++ a ++ imm)
  | .push _ q a ax ay x y u => some (0x20#6 ++ q ++ a ++ ax ++ ay ++ x ++ y ++ u)
  | .cpop _ d q z => some (0x21#6 ++ d ++ q ++ z)
  | .waitq _ z1 q z0 n => some (0x22#6 ++ z1 ++ q ++ z0 ++ n)
  | .strm _ m last aa b z => some (0x23#6 ++ m ++ last ++ aa ++ b ++ z)
  | .sig _ t cn a b z => some (0x24#6 ++ t ++ cn ++ a ++ b ++ z)
  | .cwait _ z1 cn z0 imm => some (0x25#6 ++ z1 ++ cn ++ z0 ++ imm)
  | .csrr _ d z off => some (0x26#6 ++ d ++ z ++ off)
  | .csrw _ b z off => some (0x27#6 ++ b ++ z ++ off)
  | .rdtime _ d z => some (0x28#6 ++ d ++ z)
  | .waitt _ z1 a z0 => some (0x29#6 ++ z1 ++ a ++ z0)
  | .knote _ z1 a b z0 => some (0x2A#6 ++ z1 ++ a ++ b ++ z0)
  | .nop _ z arg => some (encodeSys z arg 0)
  | .halt _ z arg => some (encodeSys z arg 1)
  | .ifence _ z arg => some (encodeSys z arg 2)
  | .wdog _ z arg => some (encodeSys z arg 3)
  | .clksel _ z arg => some (encodeSys z arg 4)
  | .spush _ tq a ax ay x y u => some (0x38#6 ++ tq ++ a ++ ax ++ ay ++ x ++ y ++ u)
  | .spop _ d z => some (0x39#6 ++ d ++ z)
  | .swaitq _ z n => some (0x3A#6 ++ z ++ n)
  | .sstrm _ m last aa b z => some (0x3B#6 ++ m ++ last ++ aa ++ b ++ z)
  | .ssig _ a b z => some (0x3C#6 ++ a ++ b ++ z)
  | .srecv _ d pp nb z => some (0x3D#6 ++ d ++ pp ++ nb ++ z)
  | .sres _ d pp nb z => some (0x3E#6 ++ d ++ pp ++ nb ++ z)
  | .sbc _ n sel z off => some (0x3F#6 ++ n ++ sel ++ z ++ off)
  | _ => none

/-- Who executes the instruction, for the rows that are instructions. -/
def Instr.agent : Instr → Option Agent
  | .alu ag .. | .fpu ag .. | .addi ag .. | .andi ag .. | .ori ag .. | .xori ag .. | .slti ag .. | .sltiu ag ..
  | .shi ag .. | .lui ag .. | .lw ag .. | .lhu ag .. | .lbu ag .. | .sw ag .. | .sh ag .. | .sb ag .. | .la ag ..
  | .sa ag .. | .aop ag .. | .aaddi ag .. | .cmp ag .. | .cmpi ag .. | .plog ag .. | .bp ag .. | .bc ag ..
  | .bflag ag .. | .bcmp ag .. | .jal ag .. | .jalr ag .. | .push ag .. | .cpop ag .. | .waitq ag .. | .strm ag ..
  | .sig ag .. | .cwait ag .. | .csrr ag .. | .csrw ag .. | .rdtime ag .. | .waitt ag .. | .knote ag .. | .nop ag ..
  | .halt ag .. | .ifence ag .. | .wdog ag .. | .clksel ag .. | .spush ag .. | .spop ag .. | .swaitq ag ..
  | .sstrm ag .. | .ssig ag .. | .srecv ag .. | .sres ag .. | .sbc ag .. => some ag
  | _ => none

end Sys2Proof
end

