-- ==== Sys2Proof/Config.lean ====
section
/-!
DEFINITION. What the spec leaves open: the free values. Each is a constant without a body, so nothing can be proved
of its value and a claim holds whatever it is. The model applies it to the operands it may depend on, or to the
counter `State.free` for a fresh value each time (log entry 3).
-/

namespace Sys2Proof.Config

/-- R108: the error of a table function, in units in the last place of its reference, as a function of the
function's number and the input bits. The model cuts it to the spec's bound (log entry 5). -/
opaque tableErr : Nat → Word → Int

/-- A byte the spec leaves unspecified (R100, R121, R207, R415), for a fresh number and a place. -/
opaque freeByte : Nat → Nat → Byte

/-- A grain the spec leaves unspecified (R100, R415). -/
opaque freeGrain : Nat → Nat → Int

/-- A truth value the spec leaves open (R59 of reads beside writes, R529). -/
opaque freeBit : Nat → Bool

/-- A number the spec leaves open. -/
opaque freeNat : Nat → Nat

/-- SHAKE256 (R484, R502, R520): word `i` of the digest of some bytes. The spec names the function and does not define
it; the model leaves it uninterpreted (log entry 11). -/
opaque shake256 : List Byte → Nat → Word

/-- Falcon-1024 (R451, R502): the signature verifies over the message under the public key. Uninterpreted (log
entry 11). -/
opaque falconOk : List Byte → List Byte → List Byte → Bool

/-- R520, R522: a Falcon-1024 public key generated from the output of SHAKE256 over some bytes: its byte `i`. Uninterpreted (log
entry 11). -/
opaque falconKey : List Byte → Nat → Byte

/-- R521, R522: the signature over a message (second argument) of the private key generated from the same bytes (first argument):
a number that gives its length, and its byte `i`. Uninterpreted (log entry 11). -/
opaque falconSigLen : List Byte → List Byte → Nat
opaque falconSig : List Byte → List Byte → Nat → Byte

/-- R451: byte `i` of the ciphertext, and of the shared secret, of an ML-KEM-1024 encapsulation to a key with fresh randomness `n`.
Uninterpreted (log entry 11). -/
opaque kemCipher : List Byte → Nat → Nat → Byte
opaque kemSecret : List Byte → Nat → Nat → Byte

/-- R452: byte `i` of KMAC256 of some data (third argument) under a key, with a customisation string (second argument).
Uninterpreted (log entry 11). -/
opaque kmac256 : List Byte → List Byte → List Byte → Nat → Byte

/-- R463: the hash of SMOD, DMOD and the source endpoint that chooses one link of a direction; R463 names its arguments
and not the hash. -/
opaque linkHash : Nat → Nat → Nat → Nat

/-- R244: the initial value of a flit's CRC-16; R244 gives the polynomial. -/
opaque flitCrcInit : Nat

/-- R155, R303: the frequency measured of a cluster's oscillator, about its nominal one. -/
opaque oscillator : Nat → Nat

end Sys2Proof.Config
end

