-- ==== Sys2Proof/Machine/Float.lean ====
section
/-!
DEFINITION. Numbers: exact values with a binary point, rounding to nearest with ties to even, the element formats of
R38–R41 and R164, FP32 arithmetic (R57, R106), and the table functions within their bounds (R108).
-/

namespace Sys2Proof.Machine

/-! ### Rounding -/

/-- `m / 2^d` to the nearest whole number, ties to even. -/
def rneShift (m d : Nat) : Nat :=
  let q := m / 2 ^ d
  let r := m % 2 ^ d
  if d = 0 then m
  else if 2 ^ d < 2 * r ∨ (2 * r = 2 ^ d ∧ q % 2 = 1) then q + 1 else q

/-- The same for a signed number: the magnitude is rounded and the sign kept. -/
def rneInt (m : Int) (d : Nat) : Int :=
  if m < 0 then -(rneShift m.natAbs d : Int) else (rneShift m.natAbs d : Int)

/-- An exact value `m × 2^e`. -/
structure Dy where
  m : Int
  e : Int
deriving DecidableEq, Repr

def Dy.zero : Dy := ⟨0, 0⟩
/-- Exact sum. -/
def Dy.add (a b : Dy) : Dy :=
  if a.e ≤ b.e then ⟨a.m + b.m * 2 ^ (b.e - a.e).toNat, a.e⟩ else ⟨a.m * 2 ^ (a.e - b.e).toNat + b.m, b.e⟩
def Dy.neg (a : Dy) : Dy := ⟨-a.m, a.e⟩
def Dy.sub (a b : Dy) : Dy := a.add b.neg
/-- Exact product. -/
def Dy.mul (a b : Dy) : Dy := ⟨a.m * b.m, a.e + b.e⟩
/-- Exact product by a power of two. -/
def Dy.scale (a : Dy) (k : Int) : Dy := ⟨a.m, a.e + k⟩
/-- Exact comparison. -/
def Dy.lt (a b : Dy) : Bool := (a.sub b).m < 0
def Dy.eqv (a b : Dy) : Bool := (a.sub b).m = 0
/-- The value in the unit `2^e`, to nearest with ties to even (R47, R48, R109). -/
def Dy.toUnit (a : Dy) (e : Int) : Int :=
  if e ≤ a.e then a.m * 2 ^ (a.e - e).toNat else rneInt a.m (e - a.e).toNat

/-! ### Floating formats -/

/-- A binary format with `eb` exponent bits, `mb` mantissa bits and a bias (R38). -/
structure Ff where
  eb : Nat
  mb : Nat
  bias : Nat
deriving DecidableEq, Repr

def ffE2M1 : Ff := ⟨2, 1, 1⟩
def ffE3M2 : Ff := ⟨3, 2, 3⟩
def ffE2M3 : Ff := ⟨2, 3, 1⟩
def ffE4M3 : Ff := ⟨4, 3, 7⟩
def ffE5M2 : Ff := ⟨5, 2, 15⟩
def ffBF16 : Ff := ⟨8, 7, 127⟩
def ffFP16 : Ff := ⟨5, 10, 15⟩
def ffFP32 : Ff := ⟨8, 23, 127⟩

/-- The exponent of the smallest subnormal. -/
def Ff.qmin (f : Ff) : Int := 1 - (f.bias : Int) - (f.mb : Int)
/-- The sign bit's weight. -/
def Ff.sgn (f : Ff) : Nat := 2 ^ (f.eb + f.mb)
/-- The pattern of an infinity without its sign, in the IEEE formats. -/
def Ff.infBits (f : Ff) : Nat := (2 ^ f.eb - 1) * 2 ^ f.mb

/-- A number read from a format: a finite value with its sign (a zero keeps it), an infinity or a NaN. -/
inductive Val where
  | fin (neg : Bool) (m : Nat) (e : Int)
  | inf (neg : Bool)
  | nan
deriving DecidableEq, Repr

def Val.isNan : Val → Bool
  | .nan => true
  | _ => false
def Val.isInf : Val → Bool
  | .inf _ => true
  | _ => false
def Val.isFin : Val → Bool
  | .fin .. => true
  | _ => false
def Val.isZero : Val → Bool
  | .fin _ m _ => m = 0
  | _ => false
def Val.isNeg : Val → Bool
  | .fin n _ _ => n
  | .inf n => n
  | .nan => false
/-- The exact value of a finite number; 0 for the others. -/
def Val.dy : Val → Dy
  | .fin n m e => ⟨if n then -(m : Int) else m, e⟩
  | _ => Dy.zero
def Val.neg : Val → Val
  | .fin n m e => .fin (!n) m e
  | .inf n => .inf (!n)
  | .nan => .nan
def Val.abs : Val → Val
  | .fin _ m e => .fin false m e
  | .inf _ => .inf false
  | .nan => .nan

/-- R38: the finite value of a pattern, every exponent pattern read as finite. -/
def Ff.finVal (f : Ff) (b : Nat) : Val :=
  let neg := b / f.sgn % 2 = 1
  let ex := b / 2 ^ f.mb % 2 ^ f.eb
  let man := b % 2 ^ f.mb
  if ex = 0 then .fin neg man f.qmin else .fin neg (2 ^ f.mb + man) (f.qmin + (ex : Int) - 1)

/-- R38: the value of a pattern in a format with IEEE infinities and NaNs. -/
def Ff.ieeeVal (f : Ff) (b : Nat) : Val :=
  if b / 2 ^ f.mb % 2 ^ f.eb = 2 ^ f.eb - 1 then
    if b % 2 ^ f.mb = 0 then .inf (b / f.sgn % 2 = 1) else .nan
  else f.finVal b

/-- The pattern, without sign, nearest to `m × 2^e`, ties to even, as though the exponent were unbounded above. -/
def Ff.roundMag (f : Ff) (m : Nat) (e : Int) : Nat :=
  if m = 0 then 0
  else
    let q := max (e + (Nat.log2 m : Int) - (f.mb : Int)) f.qmin
    let k := if q ≤ e then m * 2 ^ (e - q).toNat else rneShift m (q - e).toNat
    (q - f.qmin).toNat * 2 ^ f.mb + k

/-- R57: round an exact value; beyond the largest finite value the result is an infinity and the Bool is set. -/
def Ff.ieeeRound (f : Ff) (neg : Bool) (m : Nat) (e : Int) : Nat × Bool :=
  let b := f.roundMag m e
  let s := if neg then f.sgn else 0
  if f.infBits ≤ b then (s + f.infBits, true) else (s + b, false)

/-- Round with the magnitude held at the largest finite pattern `maxB` (R58 step 5, R94). -/
def Ff.heldRound (f : Ff) (maxB : Nat) (neg : Bool) (m : Nat) (e : Int) : Nat × Bool :=
  let b := f.roundMag m e
  let s := if neg then f.sgn else 0
  if maxB < b then (s + maxB, true) else (s + b, false)

/-! ### FP32 (R106) -/

/-- The canonical quiet NaN (R57). -/
def canonNan : Word := 0x7FC00000#32
def posInf : Word := 0x7F800000#32
def negInf : Word := 0xFF800000#32
/-- The value of an FP32 pattern. -/
def fval (w : Word) : Val := ffFP32.ieeeVal w.toNat
def isNan32 (w : Word) : Bool := (fval w).isNan

/-- A result with the flags it sets on the command: SAT and NONFIN. -/
structure FRes where
  w : Word
  sat : Bool
  nonfin : Bool
deriving DecidableEq, Repr

/-- R106: a NaN result is canonical and sets NONFIN. -/
def fNan : FRes := ⟨canonNan, false, true⟩
def fInf (neg : Bool) : FRes := ⟨if neg then negInf else posInf, false, false⟩
/-- Round an exact value with a sign for a zero result. -/
def fRound (neg : Bool) (m : Nat) (e : Int) : FRes :=
  let r := ffFP32.ieeeRound neg m e
  ⟨BitVec.ofNat 32 r.1, r.2, false⟩
/-- Round an exact sum: a zero that arises from cancelling is +0. -/
def fRoundDy (d : Dy) : FRes := fRound (d.m < 0) d.m.natAbs d.e

/-- A value written as FP32, exact or rounded. -/
def Val.toF32 : Val → FRes
  | .fin n m e => fRound n m e
  | .inf n => fInf n
  | .nan => fNan

def valAdd (a b : Val) : FRes :=
  match a, b with
  | .nan, _ => fNan
  | _, .nan => fNan
  | .inf x, .inf y => if x = y then fInf x else fNan
  | .inf x, _ => fInf x
  | _, .inf y => fInf y
  | .fin nx mx ex, .fin ny my ey =>
    if mx = 0 ∧ my = 0 then fRound (nx && ny) 0 0
    else fRoundDy ((Val.fin nx mx ex).dy.add (Val.fin ny my ey).dy)

def valMul (a b : Val) : FRes :=
  match a, b with
  | .nan, _ => fNan
  | _, .nan => fNan
  | .inf x, y => if y.isZero then fNan else fInf (x != y.isNeg)
  | x, .inf y => if x.isZero then fNan else fInf (x.isNeg != y)
  | .fin nx mx ex, .fin ny my ey => fRound (nx != ny) (mx * my) (ex + ey)

/-- R107: A × B + C with one rounding. -/
def valFma (a b c : Val) : FRes :=
  if a.isNan || b.isNan || c.isNan then fNan
  else if (a.isInf && b.isZero) || (a.isZero && b.isInf) then fNan
  else if a.isInf || b.isInf then
    let n := a.isNeg != b.isNeg
    if c.isInf && c.isNeg != n then fNan else fInf n
  else if c.isInf then fInf c.isNeg
  else
    let p := a.dy.mul b.dy
    let n := a.isNeg != b.isNeg
    if p.m = 0 ∧ c.dy.m = 0 then fRound (n && c.isNeg) 0 0 else fRoundDy (p.add c.dy)

def fadd (a b : Word) : FRes := valAdd (fval a) (fval b)
def fsub (a b : Word) : FRes := valAdd (fval a) (fval b).neg
def fmul (a b : Word) : FRes := valMul (fval a) (fval b)
def ffma (a b c : Word) : FRes := valFma (fval a) (fval b) (fval c)

/-- Strictly less among non-NaN values, −0 equal to +0. -/
def valLt (a b : Val) : Bool :=
  match a, b with
  | .nan, _ => false
  | _, .nan => false
  | .inf x, .inf y => x && !y
  | .inf x, _ => x
  | _, .inf y => !y
  | x, y => x.dy.lt y.dy
def valEq (a b : Val) : Bool :=
  match a, b with
  | .nan, _ => false
  | _, .nan => false
  | .inf x, .inf y => x = y
  | .inf _, _ => false
  | _, .inf _ => false
  | x, y => x.dy.eqv y.dy

/-- The total order of the IEEE minimum and maximum: −0 below +0. -/
def valBelow (a b : Val) : Bool := valLt a b || (valEq a b && a.isNeg && !b.isNeg)

/-- R107: maximum and minimum of two values; one NaN gives the other operand and sets NONFIN. -/
def vmax (a b : Word) : FRes :=
  if isNan32 a && isNan32 b then fNan
  else if isNan32 a then ⟨b, false, true⟩
  else if isNan32 b then ⟨a, false, true⟩
  else ⟨if valBelow (fval a) (fval b) then b else a, false, false⟩
def vmin (a b : Word) : FRes :=
  if isNan32 a && isNan32 b then fNan
  else if isNan32 a then ⟨b, false, true⟩
  else if isNan32 b then ⟨a, false, true⟩
  else ⟨if valBelow (fval b) (fval a) then b else a, false, false⟩

/-- R130, FCVTWS: to int32, nearest with ties to even, held to ±(2^31 − 1); NaN gives 0. -/
def fcvtws (a : Word) : Word :=
  match fval a with
  | .nan => 0
  | .inf n => if n then BitVec.ofInt 32 (-(2 ^ 31 - 1)) else BitVec.ofInt 32 (2 ^ 31 - 1)
  | x => BitVec.ofInt 32 (max (-(2 ^ 31 - 1)) (min (2 ^ 31 - 1) (x.dy.toUnit 0)))
/-- R130, FCVTSW. -/
def fcvtsw (a : Word) : Word := (fRoundDy ⟨a.toInt, 0⟩).w

/-! ### The element formats of R164 -/

/-- Format codes of R164. -/
inductive Fmt where
  | e2m1 | e3m2 | e2m3 | e4m3 | e5m2 | mxint8 | int8 | int4 | bf16 | fp16 | fp32 | int1 | grain
deriving DecidableEq, Repr

/-- R164; codes 0xD to 0xF are reserved. -/
def fmtOf (code : Nat) : Option Fmt :=
  match code with
  | 0 => some .e2m1 | 1 => some .e3m2 | 2 => some .e2m3 | 3 => some .e4m3 | 4 => some .e5m2
  | 5 => some .mxint8 | 6 => some .int8 | 7 => some .int4 | 8 => some .bf16 | 9 => some .fp16
  | 10 => some .fp32 | 11 => some .int1 | 12 => some .grain | _ => none

/-- Bits an element takes in a tile register (R42, R43). -/
def Fmt.bits : Fmt → Nat
  | .e2m1 | .int4 => 4
  | .e3m2 | .e2m3 | .e4m3 | .e5m2 | .mxint8 | .int8 => 8
  | .bf16 | .fp16 => 16
  | .fp32 => 32
  | .int1 => 1
  | .grain => 64

/-- Rows of 64 elements in a tile register (R43). -/
def Fmt.rows (f : Fmt) : Nat := 4096 / (8 * f.bits)

/-- Codes 0x0 to 0x5: the format has block scales in the scale plane (R40, R164). -/
def Fmt.isMx : Fmt → Bool
  | .e2m1 | .e3m2 | .e2m3 | .e4m3 | .e5m2 | .mxint8 => true
  | _ => false

/-- A signed number from `w` bits. -/
def sxNat (w b : Nat) : Int := if b % 2 ^ w < 2 ^ (w - 1) then ((b % 2 ^ w : Nat) : Int) else (b % 2 ^ w : Nat) - (2 ^ w : Nat)

def intVal (i e : Int) : Val := .fin (i < 0) i.natAbs e

/-- R38, R41: the element's value before any block scale. -/
def Fmt.val (f : Fmt) (b : Nat) : Val :=
  match f with
  | .e2m1 => ffE2M1.finVal (b % 16)
  | .e3m2 => ffE3M2.finVal (b % 64)
  | .e2m3 => ffE2M3.finVal (b % 64)
  | .e4m3 => if b % 128 = 127 then .nan else ffE4M3.finVal (b % 256)
  | .e5m2 => ffE5M2.ieeeVal (b % 256)
  | .mxint8 => intVal (sxNat 8 b) (-6)
  | .int8 => intVal (sxNat 8 b) 0
  | .int4 => intVal (sxNat 4 b) 0
  | .bf16 => ffBF16.ieeeVal (b % 65536)
  | .fp16 => ffFP16.ieeeVal (b % 65536)
  | .fp32 => ffFP32.ieeeVal (b % 4294967296)
  | .int1 => .fin false (b % 2) 0
  | .grain => intVal (sxNat 64 b) 0

/-- R40: the power of two of an E8M0 scale byte; none for 0xFF. -/
def scaleExp (x : Byte) : Option Int := if x = 0xFF then none else some ((x.toNat : Int) - 127)

/-! ### Grains (R46, R50) -/

/-- The largest grain, 2^63 − 1. -/
def grainMax : Int := 2 ^ 63 - 1
/-- R50: hold a result in range; the Bool says it was outside. -/
def grainSat (x : Int) : Int × Bool :=
  if grainMax < x then (grainMax, true) else if x < -grainMax then (-grainMax, true) else (x, false)

/-! ### Table functions (R108) -/

/-- The table functions, numbered as their opcodes less 0x10 (R182). -/
inductive TableFn where
  | exp | exp2 | log | log2 | rsqrt | recip
deriving DecidableEq, Repr

def TableFn.num : TableFn → Nat
  | .exp => 0 | .exp2 => 1 | .log => 2 | .log2 => 3 | .rsqrt => 4 | .recip => 5

/-- Fraction bits of the reference computations. -/
def refBits : Nat := 128
/-- ln 2 and log2 e with 128 fraction bits. -/
def ln2Fix : Nat := 0xB17217F7D1CF79ABC9E3B39803F2F6AF
def log2eFix : Nat := 0x171547652B82FE1777D0FFDA0D23A7D11

/-- e^x for 0 ≤ x < 1 in fixed point: the power series, `k` terms left, `t` the term, `i` its index. -/
def expSeries (x : Nat) : Nat → Nat → Nat → Nat → Nat
  | 0, _, _, acc => acc
  | k + 1, t, i, acc =>
    let t' := t * x / 2 ^ refBits / i
    expSeries x k t' (i + 1) (acc + t')

/-- 2^(x / 2^128) as m × 2^e, for a fixed-point x of either sign. -/
def exp2Ref (x : Int) : Nat × Int :=
  let n := x / (2 ^ refBits : Nat)
  let f := (x % (2 ^ refBits : Nat)).toNat
  (expSeries (f * ln2Fix / 2 ^ refBits) 40 (2 ^ refBits) 1 (2 ^ refBits), n - refBits)

/-- Fraction bits of log2 of a number in [1, 2), found by squaring. -/
def log2Bits : Nat → Nat → Nat → Nat
  | 0, _, acc => acc
  | k + 1, y, acc =>
    let y2 := y * y / 2 ^ refBits
    if 2 ^ (refBits + 1) ≤ y2 then log2Bits k (y2 / 2) (2 * acc + 1) else log2Bits k y2 (2 * acc)

/-- log2 (m × 2^e) with 64 fraction bits, for m > 0. -/
def log2Ref (m : Nat) (e : Int) : Int :=
  let l := Nat.log2 m
  let y := m * 2 ^ refBits / 2 ^ l
  (e + l) * 2 ^ 64 + (log2Bits 64 y 0 : Nat)

/-- Exact value of a finite pattern in fixed point with 128 fraction bits, rounded down. -/
def fixOf (v : Val) : Int :=
  let d := v.dy
  if -(refBits : Int) ≤ d.e then d.m * 2 ^ (d.e + refBits).toNat else d.m / 2 ^ (-(refBits : Int) - d.e).toNat

/-- Move a pattern `k` units in the last place, within the finite patterns of its sign. -/
def ulps (w : Word) (k : Int) : Word :=
  let mag := w.toNat % 0x80000000
  let m' := max 0 (min (0x7F7FFFFF : Int) ((mag : Int) + k))
  BitVec.ofNat 32 (w.toNat / 0x80000000 * 0x80000000 + m'.toNat)

/-- An error cut to ±b. -/
def cutErr (b x : Int) : Int := max (-b) (min b x)

/-- floor(log2) of an exact nonzero value's magnitude. -/
def Dy.log2 (d : Dy) : Int := (Nat.log2 d.m.natAbs : Int) + d.e

/-- R108: `c` lies within `b` units in the last place of the exact value `x`; of a subnormal one, units of 2^−149. -/
def within (b : Nat) (x c : Dy) : Bool :=
  let d := c.sub x
  !(Dy.mk b (max (-149) (x.log2 - 23))).lt ⟨d.m.natAbs, d.e⟩

/-- R108: a free result within `b` units in the last place of the exact value `x`, which rounds to `w`: `w` moved by the free
error `er`, where that keeps the bound, else `w`. -/
def nearRef (b : Nat) (er : Int) (x : Dy) (w : Word) : FRes :=
  let c := ulps w (cutErr (2 * b + 1) er)
  ⟨if within b x (fval c).dy then c else w, false, false⟩

/-- The rounded reference of a positive real m × 2^e with its sign. -/
def refRound (neg : Bool) (m : Nat) (e : Int) : Word := (fRound neg m e).w

/-- Square root rounded down, from bit `k - 1` of the root on down. -/
def isqrtBits (n : Nat) : Nat → Nat → Nat
  | 0, r => r
  | k + 1, r => if (r + 2 ^ k) * (r + 2 ^ k) ≤ n then isqrtBits n k (r + 2 ^ k) else isqrtBits n k r

/-- R106, R108: a table function. Special inputs give what the tables state; any other input gives a free value
within the spec's bound of the reference (log entry 5). `z0` is RECIP's option. -/
def tableFn (fn : TableFn) (z0 : Bool) (x : Word) : FRes :=
  let v := fval x
  let er := Config.tableErr fn.num x
  match fn with
  | .exp =>
    match v with
    | .nan => fNan
    | .inf n => if n then ⟨0, false, false⟩ else fInf false
    | _ =>
      if valLt (fval 0x42B175C2#32) v then ⟨posInf, true, false⟩
      else if !valLt (fval 0xC2CFF5C3#32) v then ⟨0, false, false⟩
      else
        let r := exp2Ref (fixOf v * log2eFix / (2 ^ refBits : Nat))
        let w := fRound false r.1 r.2
        if w.sat then w
        else nearRef (if w.w.toNat < 0x800000 then 1 else 2) er ⟨r.1, r.2⟩ w.w
  | .exp2 =>
    match v with
    | .nan => fNan
    | .inf n => if n then ⟨0, false, false⟩ else fInf false
    | _ =>
      if !valLt v (fval 0x43000000#32) then ⟨posInf, true, false⟩
      else if !valLt (fval 0xC3160000#32) v then ⟨0, false, false⟩
      else
        let r := exp2Ref (fixOf v)
        let w := refRound false r.1 r.2
        nearRef (if w.toNat < 0x800000 then 1 else 2) er ⟨r.1, r.2⟩ w
  | .log | .log2 =>
    match v with
    | .nan => fNan
    | .inf n => if n then fNan else fInf false
    | .fin n m e =>
      if m = 0 then fInf true
      else if n then fNan
      else
        let l2 := log2Ref m e
        let r := if fn = .log then l2 * (ln2Fix : Int) / (2 ^ refBits : Nat) else l2
        if !valLt v (fval 0x3F400000#32) && !valLt (fval 0x3FC00000#32) v then
          let c := fRoundDy ⟨r + er, -64⟩
          let d := (fval c.w).dy.sub ⟨r, -64⟩
          if (Dy.mk 1 (-25)).lt ⟨d.m.natAbs, d.e⟩ then fRoundDy ⟨r, -64⟩ else c
        else nearRef 2 er ⟨r, -64⟩ (refRound (r < 0) r.natAbs (-64))
  | .rsqrt =>
    match v with
    | .nan => fNan
    | .inf n => if n then fNan else ⟨0, false, false⟩
    | .fin n m e =>
      if m = 0 then fInf n
      else if n then fNan
      else
        let e2 := if e % 2 = 0 then e else e - 1
        let m2 := if e % 2 = 0 then m else 2 * m
        let q := isqrtBits (2 ^ 256 / m2) 130 0
        nearRef 2 er ⟨q, -128 - e2 / 2⟩ (refRound false q (-128 - e2 / 2))
  | .recip =>
    match v with
    | .nan => fNan
    | .inf n => ⟨if n then 0x80000000#32 else 0, false, false⟩
    | .fin n m e =>
      if m = 0 then (if z0 then ⟨0, false, false⟩ else fInf n)
      else
        let r := fRound n (2 ^ 160 / m) (-160 - e)
        if r.sat then r else nearRef 1 er ⟨if n then -(2 ^ 160 / m : Nat) else (2 ^ 160 / m : Nat), -160 - e⟩ r.w

end Sys2Proof.Machine
end

