-- ==== Sys2Proof/Machine/Regs.lean ====
section
/-!
DEFINITION. The register map of the part: every field of every register the spec tables (R6, R25, R52, R99,
R122, R159, R189, R216, R238–R240, R274, R302–R304, R331, R353, R354, R376–R378, R402–R404, R434–R436, R472,
R473, R500, R501, R524, R540), with its CSR offset, lowest bit, width, access type (R10) and its Before-image
value (R12), and the way back from a CSR offset to the fields that lie there (R30, R31).
The fields the spec marks "fuse" or "strap" carry the value a part without a fault holds (log entry 2).
-/

namespace Sys2Proof.Machine

/-- Access types of R10. -/
inductive Acc where
  | ro | rw | w1c | w1s | wo | rc
deriving DecidableEq, Repr

/-- One field of one register: its CSR offset, its lowest bit, its width in bits, how software reaches it, and
its value from reset until the image is applied (R12). -/
structure Fd where
  off : Nat
  lo  : Nat
  wid : Nat
  acc : Acc
  rst : Nat
deriving DecidableEq, Repr

/-- The place of a field in the register file: no two fields of the part share an offset and a lowest bit. -/
def Fd.key (f : Fd) : Nat := f.off * 32 + f.lo

/-! The bases and indices below are taken within the room of their blocks and arrays, so that no number names a register of
another kind. -/

/-- R30: CSR block of cluster `c`. -/
def cluCsr (c : Nat) : Nat := 0x10000000 + c % 256 * 0x100000
/-- R30: CSR block of logical core `n`. -/
def coreCsr (n : Nat) : Nat := 0x10000000 + n / 32 % 256 * 0x100000 + 0x80000 + (n % 32) * 0x1000
/-- The block that shows control core `h`: logical core `h` for `h < 1024`, the sequencer of cluster
`h - 1024` from 1024 on, whose copies of the control-core registers lie in its own block (R308). -/
def hartCsr (h : Nat) : Nat := if h < 1024 then coreCsr h else cluCsr (h - 1024) + 0x1000
/-- R30: CSR block of field `f`. -/
def fldCsr (f : Nat) : Nat := 0x1000000 + f % 128 * 0x100000
/-- R30: CSR block of corner die position `p`. -/
def cdieCsr (p : Nat) : Nat := 0x20000000 + p % 16 * 0x1000000
/-- R434: the registers of partition `p`, at their host address. -/
def partCsr (p : Nat) : Nat := 0x10000 + p % 256 * 0x100
/-- R436: the device ring uses the layouts of a partition's ring registers, from this base. -/
def devRing : Nat := 0x4F0

/-- R17: the lower-numbered stack that field `f` carries, 0x1F for none. -/
def stackA (f : Nat) : Nat :=
  match f with
  | 0 => 0 | 1 => 1 | 2 => 3 | 3 => 5 | 4 => 21 | 7 => 7 | 8 => 19 | 11 => 9
  | 12 => 17 | 13 => 15 | 14 => 13 | 15 => 11 | _ => 0x1F
/-- R17: the higher-numbered stack that field `f` carries, 0x1F for none. -/
def stackB (f : Nat) : Nat :=
  match f with
  | 0 => 23 | 1 => 2 | 2 => 4 | 3 => 6 | 4 => 22 | 7 => 8 | 8 => 20 | 11 => 10
  | 12 => 18 | 13 => 16 | 14 => 14 | 15 => 12 | _ => 0x1F
/-- R22: x of the router of quadrant `q` of cluster `c`. -/
def routerX (c q : Nat) : Nat := 4 * (c / 2 % 4) + 2 * (c % 2) + q % 2
/-- R22: y of the router of quadrant `q` of cluster `c`. -/
def routerY (c q : Nat) : Nat := 2 * (c / 2 / 4) + q / 2

/-! `DEV_GRADE` (R6). -/
def DEV_GRADE_GRADE : Fd := ⟨0x40, 0, 4, .ro, 0⟩
def DEV_GRADE_FMAX_MHZ : Fd := ⟨0x40, 16, 12, .ro, 1250⟩
/-- The fields of `DEV_GRADE`, lowest bit first. -/
def DEV_GRADE : List Fd :=
  [ DEV_GRADE_GRADE, DEV_GRADE_FMAX_MHZ]

/-! `DEV_PLIMIT` (R6). -/
def DEV_PLIMIT_PMAX_W : Fd := ⟨0x44, 0, 16, .ro, 7200⟩
def DEV_PLIMIT_PSET_W : Fd := ⟨0x44, 16, 16, .ro, 7200⟩
/-- The fields of `DEV_PLIMIT`, lowest bit first. -/
def DEV_PLIMIT : List Fd :=
  [ DEV_PLIMIT_PMAX_W, DEV_PLIMIT_PSET_W]

/-! `FIELD_INFO` (R25). -/
def FIELD_INFO_FIELD (f : Nat) : Fd := ⟨fldCsr f + 0x0, 0, 4, .ro, f⟩
def FIELD_INFO_ROW (f : Nat) : Fd := ⟨fldCsr f + 0x0, 4, 2, .ro, (f / 4)⟩
def FIELD_INFO_COL (f : Nat) : Fd := ⟨fldCsr f + 0x0, 6, 2, .ro, (f % 4)⟩
def FIELD_INFO_STACK_A (f : Nat) : Fd := ⟨fldCsr f + 0x0, 8, 5, .ro, (stackA f)⟩
def FIELD_INFO_STACK_A_OK (f : Nat) : Fd := ⟨fldCsr f + 0x0, 13, 1, .ro, 0⟩
def FIELD_INFO_STACK_B (f : Nat) : Fd := ⟨fldCsr f + 0x0, 16, 5, .ro, (stackB f)⟩
def FIELD_INFO_STACK_B_OK (f : Nat) : Fd := ⟨fldCsr f + 0x0, 21, 1, .ro, 0⟩
def FIELD_INFO_MESH_DOWN (f : Nat) : Fd := ⟨fldCsr f + 0x0, 31, 1, .ro, 0⟩
/-- The fields of `FIELD_INFO`, lowest bit first. -/
def FIELD_INFO (f : Nat) : List Fd :=
  [ FIELD_INFO_FIELD f, FIELD_INFO_ROW f, FIELD_INFO_COL f, FIELD_INFO_STACK_A f, FIELD_INFO_STACK_A_OK f, FIELD_INFO_STACK_B f, FIELD_INFO_STACK_B_OK f, FIELD_INFO_MESH_DOWN f]

/-! `CLU_INFO` (R25). -/
def CLU_INFO_CLUSTER (c : Nat) : Fd := ⟨cluCsr c + 0x0, 0, 5, .ro, c⟩
def CLU_INFO_CORES_PRESENT (c : Nat) : Fd := ⟨cluCsr c + 0x0, 8, 6, .ro, 32⟩
def CLU_INFO_CORE_SPARES_LEFT (c : Nat) : Fd := ⟨cluCsr c + 0x0, 16, 3, .ro, 4⟩
def CLU_INFO_SLICE_SPARES_LEFT (c : Nat) : Fd := ⟨cluCsr c + 0x0, 20, 3, .ro, 4⟩
def CLU_INFO_PARTITION (c : Nat) : Fd := ⟨cluCsr c + 0x0, 24, 8, .ro, 255⟩
/-- The fields of `CLU_INFO`, lowest bit first. -/
def CLU_INFO (c : Nat) : List Fd :=
  [ CLU_INFO_CLUSTER c, CLU_INFO_CORES_PRESENT c, CLU_INFO_CORE_SPARES_LEFT c, CLU_INFO_SLICE_SPARES_LEFT c, CLU_INFO_PARTITION c]

/-! `CORE_MAP` (R25). -/
def CORE_MAP_LCORE (n : Nat) : Fd := ⟨hartCsr n + 0x0, 0, 10, .ro, n⟩
def CORE_MAP_PCORE (n : Nat) : Fd := ⟨hartCsr n + 0x0, 16, 6, .ro, (n % 32)⟩
def CORE_MAP_RX (n : Nat) : Fd := ⟨hartCsr n + 0x0, 24, 4, .ro, (routerX (n / 32) (n % 32 / 9))⟩
def CORE_MAP_RY (n : Nat) : Fd := ⟨hartCsr n + 0x0, 28, 3, .ro, (routerY (n / 32) (n % 32 / 9))⟩
def CORE_MAP_ABSENT (n : Nat) : Fd := ⟨hartCsr n + 0x0, 31, 1, .ro, 0⟩
/-- The fields of `CORE_MAP`, lowest bit first. -/
def CORE_MAP (n : Nat) : List Fd :=
  [ CORE_MAP_LCORE n, CORE_MAP_PCORE n, CORE_MAP_RX n, CORE_MAP_RY n, CORE_MAP_ABSENT n]

/-! `GSTAT` (R52). -/
def GSTAT_SCALE (n i : Nat) : Fd := ⟨hartCsr n + 0x200 + 4 * (i % 16), 0, 8, .ro, 0⟩
def GSTAT_GUARD_HB (n i : Nat) : Fd := ⟨hartCsr n + 0x200 + 4 * (i % 16), 8, 5, .ro, 0⟩
def GSTAT_OPEN (n i : Nat) : Fd := ⟨hartCsr n + 0x200 + 4 * (i % 16), 16, 1, .ro, 0⟩
def GSTAT_SAT (n i : Nat) : Fd := ⟨hartCsr n + 0x200 + 4 * (i % 16), 17, 1, .w1c, 0⟩
def GSTAT_NONFIN (n i : Nat) : Fd := ⟨hartCsr n + 0x200 + 4 * (i % 16), 18, 1, .w1c, 0⟩
def GSTAT_GUARD (n i : Nat) : Fd := ⟨hartCsr n + 0x200 + 4 * (i % 16), 19, 1, .w1c, 0⟩
def GSTAT_LOST (n i : Nat) : Fd := ⟨hartCsr n + 0x200 + 4 * (i % 16), 20, 1, .w1c, 0⟩
def GSTAT_SAT_COUNT (n i : Nat) : Fd := ⟨hartCsr n + 0x200 + 4 * (i % 16), 24, 8, .rc, 0⟩
/-- The fields of `GSTAT`, lowest bit first. -/
def GSTAT (n i : Nat) : List Fd :=
  [ GSTAT_SCALE n i, GSTAT_GUARD_HB n i, GSTAT_OPEN n i, GSTAT_SAT n i, GSTAT_NONFIN n i, GSTAT_GUARD n i, GSTAT_LOST n i, GSTAT_SAT_COUNT n i]

/-! `ARRAY_COLS` (R99). -/
def ARRAY_COLS_BAD_A (n : Nat) : Fd := ⟨hartCsr n + 0x300, 0, 7, .ro, 0x7F⟩
def ARRAY_COLS_BAD_B (n : Nat) : Fd := ⟨hartCsr n + 0x300, 8, 7, .ro, 0x7F⟩
/-- The fields of `ARRAY_COLS`, lowest bit first. -/
def ARRAY_COLS (n : Nat) : List Fd :=
  [ ARRAY_COLS_BAD_A n, ARRAY_COLS_BAD_B n]

/-! `ARRAY_VALID` (R99). -/
def ARRAY_VALID_VALID (n : Nat) : Fd := ⟨hartCsr n + 0x310, 0, 32, .rc, 0⟩
/-- The fields of `ARRAY_VALID`, lowest bit first. -/
def ARRAY_VALID (n : Nat) : List Fd :=
  [ ARRAY_VALID_VALID n]

/-! `ARRAY_BUBBLE` (R99). -/
def ARRAY_BUBBLE_BUBBLE (n : Nat) : Fd := ⟨hartCsr n + 0x314, 0, 32, .rc, 0⟩
/-- The fields of `ARRAY_BUBBLE`, lowest bit first. -/
def ARRAY_BUBBLE (n : Nat) : List Fd :=
  [ ARRAY_BUBBLE_BUBBLE n]

/-! `ARRAY_STATE` (R99). -/
def ARRAY_STATE_BUSY (n : Nat) : Fd := ⟨hartCsr n + 0x318, 0, 1, .ro, 0⟩
def ARRAY_STATE_COLD (n : Nat) : Fd := ⟨hartCsr n + 0x318, 1, 1, .ro, 1⟩
def ARRAY_STATE_RAMPING (n : Nat) : Fd := ⟨hartCsr n + 0x318, 2, 1, .ro, 0⟩
def ARRAY_STATE_GROUPS (n : Nat) : Fd := ⟨hartCsr n + 0x318, 3, 4, .ro, 0⟩
def ARRAY_STATE_GATED (n : Nat) : Fd := ⟨hartCsr n + 0x318, 8, 7, .ro, 0⟩
def ARRAY_STATE_RAMPS (n : Nat) : Fd := ⟨hartCsr n + 0x318, 16, 8, .rc, 0⟩
/-- The fields of `ARRAY_STATE`, lowest bit first. -/
def ARRAY_STATE (n : Nat) : List Fd :=
  [ ARRAY_STATE_BUSY n, ARRAY_STATE_COLD n, ARRAY_STATE_RAMPING n, ARRAY_STATE_GROUPS n, ARRAY_STATE_GATED n, ARRAY_STATE_RAMPS n]

/-! `VEC_STAT` (R122). -/
def VEC_STAT_BUSY (n : Nat) : Fd := ⟨hartCsr n + 0x400, 0, 1, .ro, 0⟩
def VEC_STAT_SAT (n : Nat) : Fd := ⟨hartCsr n + 0x400, 1, 1, .w1c, 0⟩
def VEC_STAT_NONFIN (n : Nat) : Fd := ⟨hartCsr n + 0x400, 2, 1, .w1c, 0⟩
def VEC_STAT_PENDING (n : Nat) : Fd := ⟨hartCsr n + 0x400, 8, 6, .ro, 0⟩
def VEC_STAT_REDUCTIONS (n : Nat) : Fd := ⟨hartCsr n + 0x400, 16, 16, .rc, 0⟩
/-- The fields of `VEC_STAT`, lowest bit first. -/
def VEC_STAT (n : Nat) : List Fd :=
  [ VEC_STAT_BUSY n, VEC_STAT_SAT n, VEC_STAT_NONFIN n, VEC_STAT_PENDING n, VEC_STAT_REDUCTIONS n]

/-! `VEC_RESV` (R122). -/
def VEC_RESV_SRES (n : Nat) : Fd := ⟨hartCsr n + 0x404, 0, 32, .ro, 0⟩
/-- The fields of `VEC_RESV`, lowest bit first. -/
def VEC_RESV (n : Nat) : List Fd :=
  [ VEC_RESV_SRES n]

/-! `VEC_PRESV` (R122). -/
def VEC_PRESV_PRES (n : Nat) : Fd := ⟨hartCsr n + 0x408, 0, 8, .ro, 0⟩
/-- The fields of `VEC_PRESV`, lowest bit first. -/
def VEC_PRESV (n : Nat) : List Fd :=
  [ VEC_PRESV_PRES n]

/-! `CC_STAT` (R159). -/
def CC_STAT_STATE (n : Nat) : Fd := ⟨hartCsr n + 0x500, 0, 2, .ro, 0⟩
def CC_STAT_STALL (n : Nat) : Fd := ⟨hartCsr n + 0x500, 2, 1, .ro, 0⟩
def CC_STAT_CAUSE (n : Nat) : Fd := ⟨hartCsr n + 0x500, 8, 4, .ro, 0⟩
def CC_STAT_HCODE (n : Nat) : Fd := ⟨hartCsr n + 0x500, 16, 8, .ro, 0⟩
/-- The fields of `CC_STAT`, lowest bit first. -/
def CC_STAT (n : Nat) : List Fd :=
  [ CC_STAT_STATE n, CC_STAT_STALL n, CC_STAT_CAUSE n, CC_STAT_HCODE n]

/-! `CC_EPC` (R159). -/
def CC_EPC_EPC (n : Nat) : Fd := ⟨hartCsr n + 0x504, 0, 16, .ro, 0⟩
def CC_EPC_PC (n : Nat) : Fd := ⟨hartCsr n + 0x504, 16, 16, .ro, 0⟩
/-- The fields of `CC_EPC`, lowest bit first. -/
def CC_EPC (n : Nat) : List Fd :=
  [ CC_EPC_EPC n, CC_EPC_PC n]

/-! `CC_FSUM` (R159). -/
def CC_FSUM_SAT (n : Nat) : Fd := ⟨hartCsr n + 0x508, 0, 1, .w1c, 0⟩
def CC_FSUM_NONFIN (n : Nat) : Fd := ⟨hartCsr n + 0x508, 1, 1, .w1c, 0⟩
def CC_FSUM_ECC (n : Nat) : Fd := ⟨hartCsr n + 0x508, 2, 1, .w1c, 0⟩
def CC_FSUM_ABSENT (n : Nat) : Fd := ⟨hartCsr n + 0x508, 3, 1, .w1c, 0⟩
def CC_FSUM_STATE (n : Nat) : Fd := ⟨hartCsr n + 0x508, 4, 1, .w1c, 0⟩
def CC_FSUM_LATE (n : Nat) : Fd := ⟨hartCsr n + 0x508, 5, 1, .w1c, 0⟩
def CC_FSUM_TIMEOUT (n : Nat) : Fd := ⟨hartCsr n + 0x508, 6, 1, .w1c, 0⟩
def CC_FSUM_RANGE (n : Nat) : Fd := ⟨hartCsr n + 0x508, 7, 1, .w1c, 0⟩
def CC_FSUM_ABORTED (n : Nat) : Fd := ⟨hartCsr n + 0x508, 8, 1, .w1c, 0⟩
def CC_FSUM_CREDIT (n : Nat) : Fd := ⟨hartCsr n + 0x508, 9, 1, .w1c, 0⟩
def CC_FSUM_CLKINT (n : Nat) : Fd := ⟨hartCsr n + 0x508, 10, 1, .w1c, 0⟩
def CC_FSUM_IDISCARD (n : Nat) : Fd := ⟨hartCsr n + 0x508, 11, 1, .w1c, 0⟩
/-- The fields of `CC_FSUM`, lowest bit first. -/
def CC_FSUM (n : Nat) : List Fd :=
  [ CC_FSUM_SAT n, CC_FSUM_NONFIN n, CC_FSUM_ECC n, CC_FSUM_ABSENT n, CC_FSUM_STATE n, CC_FSUM_LATE n, CC_FSUM_TIMEOUT n, CC_FSUM_RANGE n, CC_FSUM_ABORTED n, CC_FSUM_CREDIT n, CC_FSUM_CLKINT n, CC_FSUM_IDISCARD n]

/-! `CC_WDOG` (R159). -/
def CC_WDOG_PERIOD_US (n : Nat) : Fd := ⟨hartCsr n + 0x50c, 0, 16, .rw, 0⟩
def CC_WDOG_REMAIN_US (n : Nat) : Fd := ⟨hartCsr n + 0x50c, 16, 16, .ro, 0⟩
/-- The fields of `CC_WDOG`, lowest bit first. -/
def CC_WDOG (n : Nat) : List Fd :=
  [ CC_WDOG_PERIOD_US n, CC_WDOG_REMAIN_US n]

/-! `CC_IHOLD` (R159). -/
def CC_IHOLD_TIMEOUT_US (n : Nat) : Fd := ⟨hartCsr n + 0x510, 0, 16, .rw, 100⟩
def CC_IHOLD_HELD (n : Nat) : Fd := ⟨hartCsr n + 0x510, 16, 7, .ro, 0⟩
def CC_IHOLD_DISCARDS (n : Nat) : Fd := ⟨hartCsr n + 0x510, 24, 8, .rc, 0⟩
/-- The fields of `CC_IHOLD`, lowest bit first. -/
def CC_IHOLD (n : Nat) : List Fd :=
  [ CC_IHOLD_TIMEOUT_US n, CC_IHOLD_HELD n, CC_IHOLD_DISCARDS n]

/-! `CC_CLK` (R159). -/
def CC_CLK_SRC (n : Nat) : Fd := ⟨hartCsr n + 0x514, 0, 1, .ro, 0⟩
def CC_CLK_LOCK (n : Nat) : Fd := ⟨hartCsr n + 0x514, 1, 1, .ro, 0⟩
/-- The fields of `CC_CLK`, lowest bit first. -/
def CC_CLK (n : Nat) : List Fd :=
  [ CC_CLK_SRC n, CC_CLK_LOCK n]

/-! `CC_CCR` (R159). -/
def CC_CCR_STATUS (n : Nat) : Fd := ⟨hartCsr n + 0x518, 0, 4, .ro, 0⟩
def CC_CCR_NONFIN (n : Nat) : Fd := ⟨hartCsr n + 0x518, 4, 1, .ro, 0⟩
/-- The fields of `CC_CCR`, lowest bit first. -/
def CC_CCR (n : Nat) : List Fd :=
  [ CC_CCR_STATUS n, CC_CCR_NONFIN n]

/-! `CC_CRED` (R159). -/
def CC_CRED_COUNT (n j : Nat) : Fd := ⟨hartCsr n + 0x520 + 4 * (j % 16), 0, 32, .ro, 0⟩
/-- The fields of `CC_CRED`, lowest bit first. -/
def CC_CRED (n j : Nat) : List Fd :=
  [ CC_CRED_COUNT n j]

/-! `EQ_QSTAT` (R189). -/
def EQ_QSTAT_HELD (n q : Nat) : Fd := ⟨hartCsr n + 0x600 + 4 * (q % 5), 0, 6, .ro, 0⟩
def EQ_QSTAT_ACTIVE (n q : Nat) : Fd := ⟨hartCsr n + 0x600 + 4 * (q % 5), 8, 6, .ro, 0⟩
def EQ_QSTAT_RECS (n q : Nat) : Fd := ⟨hartCsr n + 0x600 + 4 * (q % 5), 16, 6, .ro, 0⟩
def EQ_QSTAT_TWAIT (n q : Nat) : Fd := ⟨hartCsr n + 0x600 + 4 * (q % 5), 24, 1, .ro, 0⟩
def EQ_QSTAT_SBWAIT (n q : Nat) : Fd := ⟨hartCsr n + 0x600 + 4 * (q % 5), 25, 1, .ro, 0⟩
def EQ_QSTAT_LATES (n q : Nat) : Fd := ⟨hartCsr n + 0x600 + 4 * (q % 5), 26, 6, .rc, 0⟩
/-- The fields of `EQ_QSTAT`, lowest bit first. -/
def EQ_QSTAT (n q : Nat) : List Fd :=
  [ EQ_QSTAT_HELD n q, EQ_QSTAT_ACTIVE n q, EQ_QSTAT_RECS n q, EQ_QSTAT_TWAIT n q, EQ_QSTAT_SBWAIT n q, EQ_QSTAT_LATES n q]

/-! `EQ_TMO` (R189). -/
def EQ_TMO_REMOTE_US (n : Nat) : Fd := ⟨hartCsr n + 0x614, 0, 16, .rw, 1000⟩
/-- The fields of `EQ_TMO`, lowest bit first. -/
def EQ_TMO (n : Nat) : List Fd :=
  [ EQ_TMO_REMOTE_US n]

/-! `EQ_TXN` (R189). -/
def EQ_TXN_INUSE (n : Nat) : Fd := ⟨hartCsr n + 0x618, 0, 8, .ro, 0⟩
def EQ_TXN_MV0 (n : Nat) : Fd := ⟨hartCsr n + 0x618, 8, 8, .ro, 0⟩
def EQ_TXN_MV1 (n : Nat) : Fd := ⟨hartCsr n + 0x618, 16, 8, .ro, 0⟩
def EQ_TXN_NQP (n : Nat) : Fd := ⟨hartCsr n + 0x618, 24, 8, .ro, 0⟩
/-- The fields of `EQ_TXN`, lowest bit first. -/
def EQ_TXN (n : Nat) : List Fd :=
  [ EQ_TXN_INUSE n, EQ_TXN_MV0 n, EQ_TXN_MV1 n, EQ_TXN_NQP n]

/-! `MV_STAT` (R216). -/
def MV_STAT_BUSY (n m : Nat) : Fd := ⟨hartCsr n + 0x680 + 4 * (m % 2), 0, 1, .ro, 0⟩
def MV_STAT_SWAIT (n m : Nat) : Fd := ⟨hartCsr n + 0x680 + 4 * (m % 2), 1, 1, .ro, 0⟩
def MV_STAT_AQ_HELD (n m : Nat) : Fd := ⟨hartCsr n + 0x680 + 4 * (m % 2), 3, 9, .ro, 0⟩
def MV_STAT_SKIPS (n m : Nat) : Fd := ⟨hartCsr n + 0x680 + 4 * (m % 2), 16, 16, .rc, 0⟩
/-- The fields of `MV_STAT`, lowest bit first. -/
def MV_STAT (n m : Nat) : List Fd :=
  [ MV_STAT_BUSY n m, MV_STAT_SWAIT n m, MV_STAT_AQ_HELD n m, MV_STAT_SKIPS n m]

/-! `MV_BYTES` (R216). -/
def MV_BYTES_BYTES (n m : Nat) : Fd := ⟨hartCsr n + 0x688 + 4 * (m % 2), 0, 32, .rc, 0⟩
/-- The fields of `MV_BYTES`, lowest bit first. -/
def MV_BYTES (n m : Nat) : List Fd :=
  [ MV_BYTES_BYTES n m]

/-! `AP_BASEL` (R216). -/
def AP_BASEL_BASE_LO (n m a : Nat) : Fd := ⟨hartCsr n + 0x700 + 512 * (m % 2) + 32 * (a % 16), 0, 32, .rw, 0⟩
/-- The fields of `AP_BASEL`, lowest bit first. -/
def AP_BASEL (n m a : Nat) : List Fd :=
  [ AP_BASEL_BASE_LO n m a]

/-! `AP_BASEH` (R216). -/
def AP_BASEH_BASE_HI (n m a : Nat) : Fd := ⟨hartCsr n + 0x704 + 512 * (m % 2) + 32 * (a % 16), 0, 16, .rw, 0⟩
def AP_BASEH_CLS (n m a : Nat) : Fd := ⟨hartCsr n + 0x704 + 512 * (m % 2) + 32 * (a % 16), 16, 4, .rw, 0⟩
/-- The fields of `AP_BASEH`, lowest bit first. -/
def AP_BASEH (n m a : Nat) : List Fd :=
  [ AP_BASEH_BASE_HI n m a, AP_BASEH_CLS n m a]

/-! `AP_LIMIT` (R216). -/
def AP_LIMIT_LIMIT (n m a : Nat) : Fd := ⟨hartCsr n + 0x708 + 512 * (m % 2) + 32 * (a % 16), 0, 32, .rw, 0⟩
/-- The fields of `AP_LIMIT`, lowest bit first. -/
def AP_LIMIT (n m a : Nat) : List Fd :=
  [ AP_LIMIT_LIMIT n m a]

/-! `AP_STEP` (R216). -/
def AP_STEP_STEP (n m a : Nat) : Fd := ⟨hartCsr n + 0x70c + 512 * (m % 2) + 32 * (a % 16), 0, 24, .rw, 0⟩
/-- The fields of `AP_STEP`, lowest bit first. -/
def AP_STEP (n m a : Nat) : List Fd :=
  [ AP_STEP_STEP n m a]

/-! `AP_COMMIT` (R216). -/
def AP_COMMIT_COMMITTED (n m a : Nat) : Fd := ⟨hartCsr n + 0x710 + 512 * (m % 2) + 32 * (a % 16), 0, 32, .rw, 0⟩
/-- The fields of `AP_COMMIT`, lowest bit first. -/
def AP_COMMIT (n m a : Nat) : List Fd :=
  [ AP_COMMIT_COMMITTED n m a]

/-! `AP_PEND` (R216). -/
def AP_PEND_PENDING (n m a : Nat) : Fd := ⟨hartCsr n + 0x714 + 512 * (m % 2) + 32 * (a % 16), 0, 32, .ro, 0⟩
/-- The fields of `AP_PEND`, lowest bit first. -/
def AP_PEND (n m a : Nat) : List Fd :=
  [ AP_PEND_PENDING n m a]

/-! `AP_STAT` (R216). -/
def AP_STAT_OPEN (n m a : Nat) : Fd := ⟨hartCsr n + 0x718 + 512 * (m % 2) + 32 * (a % 16), 0, 1, .ro, 0⟩
def AP_STAT_BUSY (n m a : Nat) : Fd := ⟨hartCsr n + 0x718 + 512 * (m % 2) + 32 * (a % 16), 1, 1, .ro, 0⟩
def AP_STAT_BROKEN (n m a : Nat) : Fd := ⟨hartCsr n + 0x718 + 512 * (m % 2) + 32 * (a % 16), 2, 1, .ro, 0⟩
def AP_STAT_WIGN (n m a : Nat) : Fd := ⟨hartCsr n + 0x718 + 512 * (m % 2) + 32 * (a % 16), 3, 1, .w1c, 0⟩
def AP_STAT_ROLLBACKS (n m a : Nat) : Fd := ⟨hartCsr n + 0x718 + 512 * (m % 2) + 32 * (a % 16), 8, 8, .rc, 0⟩
/-- The fields of `AP_STAT`, lowest bit first. -/
def AP_STAT (n m a : Nat) : List Fd :=
  [ AP_STAT_OPEN n m a, AP_STAT_BUSY n m a, AP_STAT_BROKEN n m a, AP_STAT_WIGN n m a, AP_STAT_ROLLBACKS n m a]

/-! `LOFT_ECC` (R238). -/
def LOFT_ECC_CE (n : Nat) : Fd := ⟨hartCsr n + 0xb00, 0, 16, .rc, 0⟩
def LOFT_ECC_UE (n : Nat) : Fd := ⟨hartCsr n + 0xb00, 16, 16, .rc, 0⟩
/-- The fields of `LOFT_ECC`, lowest bit first. -/
def LOFT_ECC (n : Nat) : List Fd :=
  [ LOFT_ECC_CE n, LOFT_ECC_UE n]

/-! `GRN_STAT` (R239). -/
def GRN_STAT_ABSENT (c : Nat) : Fd := ⟨cluCsr c + 0x100, 0, 1, .ro, 0⟩
def GRN_STAT_BAD_COUNT (c : Nat) : Fd := ⟨cluCsr c + 0x100, 8, 6, .ro, 0⟩
/-- The fields of `GRN_STAT`, lowest bit first. -/
def GRN_STAT (c : Nat) : List Fd :=
  [ GRN_STAT_ABSENT c, GRN_STAT_BAD_COUNT c]

/-! `GRN_SPARE` (R239). -/
def GRN_SPARE_LSLICE (c j : Nat) : Fd := ⟨cluCsr c + 0x104 + 4 * (j % 4), 0, 6, .ro, 0x3F⟩
def GRN_SPARE_BAD (c j : Nat) : Fd := ⟨cluCsr c + 0x104 + 4 * (j % 4), 6, 1, .ro, 0⟩
/-- The fields of `GRN_SPARE`, lowest bit first. -/
def GRN_SPARE (c j : Nat) : List Fd :=
  [ GRN_SPARE_LSLICE c j, GRN_SPARE_BAD c j]

/-! `GRN_BADL` (R239). -/
def GRN_BADL_BAD (c : Nat) : Fd := ⟨cluCsr c + 0x114, 0, 32, .ro, 0⟩
/-- The fields of `GRN_BADL`, lowest bit first. -/
def GRN_BADL (c : Nat) : List Fd :=
  [ GRN_BADL_BAD c]

/-! `GRN_BADH` (R239). -/
def GRN_BADH_BAD (c : Nat) : Fd := ⟨cluCsr c + 0x118, 0, 20, .ro, 0⟩
/-- The fields of `GRN_BADH`, lowest bit first. -/
def GRN_BADH (c : Nat) : List Fd :=
  [ GRN_BADH_BAD c]

/-! `GRN_ECC` (R239). -/
def GRN_ECC_CE (c : Nat) : Fd := ⟨cluCsr c + 0x11c, 0, 16, .rc, 0⟩
def GRN_ECC_UE (c : Nat) : Fd := ⟨cluCsr c + 0x11c, 16, 16, .rc, 0⟩
/-- The fields of `GRN_ECC`, lowest bit first. -/
def GRN_ECC (c : Nat) : List Fd :=
  [ GRN_ECC_CE c, GRN_ECC_UE c]

/-! `GRN_SCRUB` (R239). -/
def GRN_SCRUB_PASS_MS (c : Nat) : Fd := ⟨cluCsr c + 0x120, 0, 14, .rw, 100⟩
def GRN_SCRUB_PASSES (c : Nat) : Fd := ⟨cluCsr c + 0x120, 16, 16, .rc, 0⟩
/-- The fields of `GRN_SCRUB`, lowest bit first. -/
def GRN_SCRUB (c : Nat) : List Fd :=
  [ GRN_SCRUB_PASS_MS c, GRN_SCRUB_PASSES c]

/-! `HBM_MAP` (R240). -/
def HBM_MAP_LOCAL : Fd := ⟨0x100, 0, 6, .ro, 0⟩
def HBM_MAP_RATE : Fd := ⟨0x100, 8, 2, .ro, 2⟩
/-- The fields of `HBM_MAP`, lowest bit first. -/
def HBM_MAP : List Fd :=
  [ HBM_MAP_LOCAL, HBM_MAP_RATE]

/-! `HBM_STAT` (R240). -/
def HBM_STAT_SR (f i : Nat) : Fd := ⟨fldCsr f + 0x1000 + 64 * (i % 2), 0, 1, .ro, 0⟩
def HBM_STAT_THROT (f i : Nat) : Fd := ⟨fldCsr f + 0x1000 + 64 * (i % 2), 1, 1, .ro, 0⟩
def HBM_STAT_HOTREF (f i : Nat) : Fd := ⟨fldCsr f + 0x1000 + 64 * (i % 2), 2, 1, .ro, 0⟩
def HBM_STAT_TEMP_C (f i : Nat) : Fd := ⟨fldCsr f + 0x1000 + 64 * (i % 2), 8, 8, .ro, 0⟩
def HBM_STAT_RFM (f i : Nat) : Fd := ⟨fldCsr f + 0x1000 + 64 * (i % 2), 16, 16, .rc, 0⟩
/-- The fields of `HBM_STAT`, lowest bit first. -/
def HBM_STAT (f i : Nat) : List Fd :=
  [ HBM_STAT_SR f i, HBM_STAT_THROT f i, HBM_STAT_HOTREF f i, HBM_STAT_TEMP_C f i, HBM_STAT_RFM f i]

/-! `HBM_ECC` (R240). -/
def HBM_ECC_CE (f i : Nat) : Fd := ⟨fldCsr f + 0x1004 + 64 * (i % 2), 0, 16, .rc, 0⟩
def HBM_ECC_UE (f i : Nat) : Fd := ⟨fldCsr f + 0x1004 + 64 * (i % 2), 16, 8, .rc, 0⟩
def HBM_ECC_ODECC (f i : Nat) : Fd := ⟨fldCsr f + 0x1004 + 64 * (i % 2), 24, 8, .rc, 0⟩
/-- The fields of `HBM_ECC`, lowest bit first. -/
def HBM_ECC (f i : Nat) : List Fd :=
  [ HBM_ECC_CE f i, HBM_ECC_UE f i, HBM_ECC_ODECC f i]

/-! `MESH_VCW` (R274). -/
def MESH_VCW_W1 : Fd := ⟨0x200, 0, 4, .ro, 4⟩
def MESH_VCW_W2 : Fd := ⟨0x200, 4, 4, .ro, 4⟩
def MESH_VCW_W3 : Fd := ⟨0x200, 8, 4, .ro, 3⟩
def MESH_VCW_W4 : Fd := ⟨0x200, 12, 4, .ro, 4⟩
def MESH_VCW_W5 : Fd := ⟨0x200, 16, 4, .ro, 1⟩
/-- The fields of `MESH_VCW`, lowest bit first. -/
def MESH_VCW : List Fd :=
  [ MESH_VCW_W1, MESH_VCW_W2, MESH_VCW_W3, MESH_VCW_W4, MESH_VCW_W5]

/-! `MESH_STAT` (R274). -/
def MESH_STAT_DOWN : Fd := ⟨0x204, 0, 5, .ro, 31⟩
def MESH_STAT_DRAIN : Fd := ⟨0x204, 5, 1, .ro, 0⟩
def MESH_STAT_ALT : Fd := ⟨0x204, 6, 1, .ro, 0⟩
/-- The fields of `MESH_STAT`, lowest bit first. -/
def MESH_STAT : List Fd :=
  [ MESH_STAT_DOWN, MESH_STAT_DRAIN, MESH_STAT_ALT]

/-! `MESH_RETRY` (R274). -/
def MESH_RETRY_RETRIES (f : Nat) : Fd := ⟨fldCsr f + 0x2000, 0, 16, .rc, 0⟩
def MESH_RETRY_ESC (f : Nat) : Fd := ⟨fldCsr f + 0x2000, 16, 16, .rc, 0⟩
/-- The fields of `MESH_RETRY`, lowest bit first. -/
def MESH_RETRY (f : Nat) : List Fd :=
  [ MESH_RETRY_RETRIES f, MESH_RETRY_ESC f]

/-! `MESH_ABSORB` (R274). -/
def MESH_ABSORB_PACKETS (f : Nat) : Fd := ⟨fldCsr f + 0x2004, 0, 32, .rc, 0⟩
/-- The fields of `MESH_ABSORB`, lowest bit first. -/
def MESH_ABSORB (f : Nat) : List Fd :=
  [ MESH_ABSORB_PACKETS f]

/-! `SHF_DESC` (R274). -/
def SHF_DESC_WORD (c i w : Nat) : Fd := ⟨cluCsr c + 0x20000 + 32 * (i % 256) + 4 * (w % 8), 0, 32, .rw, 0⟩
/-- The fields of `SHF_DESC`, lowest bit first. -/
def SHF_DESC (c i w : Nat) : List Fd :=
  [ SHF_DESC_WORD c i w]

/-! `SHF_CTL` (R274). -/
def SHF_CTL_ARM (c i : Nat) : Fd := ⟨cluCsr c + 0x22000 + 8 * (i % 256), 0, 1, .wo, 0⟩
def SHF_CTL_CANCEL (c i : Nat) : Fd := ⟨cluCsr c + 0x22000 + 8 * (i % 256), 1, 1, .wo, 0⟩
/-- The fields of `SHF_CTL`, lowest bit first. -/
def SHF_CTL (c i : Nat) : List Fd :=
  [ SHF_CTL_ARM c i, SHF_CTL_CANCEL c i]

/-! `SHF_STAT` (R274). -/
def SHF_STAT_STATE (c i : Nat) : Fd := ⟨cluCsr c + 0x22004 + 8 * (i % 256), 0, 2, .ro, 0⟩
def SHF_STAT_STATUS (c i : Nat) : Fd := ⟨cluCsr c + 0x22004 + 8 * (i % 256), 2, 4, .ro, 0⟩
def SHF_STAT_FLAGS (c i : Nat) : Fd := ⟨cluCsr c + 0x22004 + 8 * (i % 256), 6, 4, .ro, 0⟩
def SHF_STAT_CREFUSED (c i : Nat) : Fd := ⟨cluCsr c + 0x22004 + 8 * (i % 256), 10, 1, .ro, 0⟩
def SHF_STAT_ARRIVED (c i : Nat) : Fd := ⟨cluCsr c + 0x22004 + 8 * (i % 256), 16, 16, .ro, 0⟩
/-- The fields of `SHF_STAT`, lowest bit first. -/
def SHF_STAT (c i : Nat) : List Fd :=
  [ SHF_STAT_STATE c i, SHF_STAT_STATUS c i, SHF_STAT_FLAGS c i, SHF_STAT_CREFUSED c i, SHF_STAT_ARRIVED c i]

/-! `TIME_NOWL` (R302). -/
def TIME_NOWL_NOW_LO : Fd := ⟨0x300, 0, 32, .ro, 0⟩
/-- The fields of `TIME_NOWL`, lowest bit first. -/
def TIME_NOWL : List Fd :=
  [ TIME_NOWL_NOW_LO]

/-! `TIME_NOWH` (R302). -/
def TIME_NOWH_NOW_HI : Fd := ⟨0x304, 0, 32, .ro, 0⟩
/-- The fields of `TIME_NOWH`, lowest bit first. -/
def TIME_NOWH : List Fd :=
  [ TIME_NOWH_NOW_HI]

/-! `TIME_STAT` (R302). -/
def TIME_STAT_SRC : Fd := ⟨0x308, 0, 3, .ro, 0⟩
def TIME_STAT_SYSMASTER : Fd := ⟨0x308, 3, 1, .ro, 0⟩
def TIME_STAT_UNSYNC : Fd := ⟨0x308, 4, 1, .ro, 0⟩
def TIME_STAT_REFHOLD : Fd := ⟨0x308, 5, 1, .ro, 0⟩
def TIME_STAT_WRAPSOON : Fd := ⟨0x308, 6, 1, .ro, 0⟩
def TIME_STAT_ERA : Fd := ⟨0x308, 8, 8, .ro, 0⟩
def TIME_STAT_HOLD_S : Fd := ⟨0x308, 16, 16, .ro, 0⟩
/-- The fields of `TIME_STAT`, lowest bit first. -/
def TIME_STAT : List Fd :=
  [ TIME_STAT_SRC, TIME_STAT_SYSMASTER, TIME_STAT_UNSYNC, TIME_STAT_REFHOLD, TIME_STAT_WRAPSOON, TIME_STAT_ERA, TIME_STAT_HOLD_S]

/-! `TIME_OFS` (R302). -/
def TIME_OFS_OFS : Fd := ⟨0x30c, 0, 32, .ro, 0⟩
/-- The fields of `TIME_OFS`, lowest bit first. -/
def TIME_OFS : List Fd :=
  [ TIME_OFS_OFS]

/-! `TIME_RATE` (R302). -/
def TIME_RATE_RATE : Fd := ⟨0x310, 0, 32, .ro, 0⟩
/-- The fields of `TIME_RATE`, lowest bit first. -/
def TIME_RATE : List Fd :=
  [ TIME_RATE_RATE]

/-! `TIME_EPOCH0` (R302). -/
def TIME_EPOCH0_NS : Fd := ⟨0x314, 0, 30, .ro, 0⟩
/-- The fields of `TIME_EPOCH0`, lowest bit first. -/
def TIME_EPOCH0 : List Fd :=
  [ TIME_EPOCH0_NS]

/-! `TIME_EPOCH1` (R302). -/
def TIME_EPOCH1_SEC_LO : Fd := ⟨0x318, 0, 32, .ro, 0⟩
/-- The fields of `TIME_EPOCH1`, lowest bit first. -/
def TIME_EPOCH1 : List Fd :=
  [ TIME_EPOCH1_SEC_LO]

/-! `TIME_EPOCH2` (R302). -/
def TIME_EPOCH2_SEC_HI : Fd := ⟨0x31c, 0, 16, .ro, 0⟩
/-- The fields of `TIME_EPOCH2`, lowest bit first. -/
def TIME_EPOCH2 : List Fd :=
  [ TIME_EPOCH2_SEC_HI]

/-! `PTP_CFG` (R302). -/
def PTP_CFG_EN : Fd := ⟨0x320, 0, 1, .rw, 0⟩
def PTP_CFG_P2P : Fd := ⟨0x320, 1, 1, .rw, 0⟩
def PTP_CFG_TRANSPORT : Fd := ⟨0x320, 2, 2, .rw, 0⟩
def PTP_CFG_DOMAIN : Fd := ⟨0x320, 4, 7, .rw, 0⟩
def PTP_CFG_LOGSYNC : Fd := ⟨0x320, 12, 4, .rw, 12⟩
/-- The fields of `PTP_CFG`, lowest bit first. -/
def PTP_CFG : List Fd :=
  [ PTP_CFG_EN, PTP_CFG_P2P, PTP_CFG_TRANSPORT, PTP_CFG_DOMAIN, PTP_CFG_LOGSYNC]

/-! `CLK_CTL` (R303). -/
def CLK_CTL_FLIM_MHZ (c : Nat) : Fd := ⟨cluCsr c + 0x300, 0, 12, .rw, 1250⟩
/-- The fields of `CLK_CTL`, lowest bit first. -/
def CLK_CTL (c : Nat) : List Fd :=
  [ CLK_CTL_FLIM_MHZ c]

/-! `CLK_STAT` (R303). -/
def CLK_STAT_F_MHZ (c : Nat) : Fd := ⟨cluCsr c + 0x304, 0, 12, .ro, 0⟩
def CLK_STAT_SRC (c : Nat) : Fd := ⟨cluCsr c + 0x304, 12, 1, .ro, 0⟩
def CLK_STAT_LOCK (c : Nat) : Fd := ⟨cluCsr c + 0x304, 13, 1, .ro, 0⟩
def CLK_STAT_GLIDE (c : Nat) : Fd := ⟨cluCsr c + 0x304, 14, 1, .ro, 0⟩
def CLK_STAT_ALERT (c : Nat) : Fd := ⟨cluCsr c + 0x304, 15, 1, .ro, 0⟩
/-- The fields of `CLK_STAT`, lowest bit first. -/
def CLK_STAT (c : Nat) : List Fd :=
  [ CLK_STAT_F_MHZ c, CLK_STAT_SRC c, CLK_STAT_LOCK c, CLK_STAT_GLIDE c, CLK_STAT_ALERT c]

/-! `CLK_STRETCH` (R303). -/
def CLK_STRETCH_EVENTS (c : Nat) : Fd := ⟨cluCsr c + 0x308, 0, 16, .rc, 0⟩
def CLK_STRETCH_FORCED (c : Nat) : Fd := ⟨cluCsr c + 0x308, 16, 8, .rc, 0⟩
/-- The fields of `CLK_STRETCH`, lowest bit first. -/
def CLK_STRETCH (c : Nat) : List Fd :=
  [ CLK_STRETCH_EVENTS c, CLK_STRETCH_FORCED c]

/-! `TIME_ERR` (R303). -/
def TIME_ERR_ERR (c : Nat) : Fd := ⟨cluCsr c + 0x30c, 0, 16, .ro, 0⟩
def TIME_ERR_VALID (c : Nat) : Fd := ⟨cluCsr c + 0x30c, 16, 1, .ro, 0⟩
def TIME_ERR_BIG (c : Nat) : Fd := ⟨cluCsr c + 0x30c, 17, 1, .ro, 0⟩
def TIME_ERR_MISS (c : Nat) : Fd := ⟨cluCsr c + 0x30c, 18, 1, .ro, 0⟩
def TIME_ERR_MISSED (c : Nat) : Fd := ⟨cluCsr c + 0x30c, 24, 8, .rc, 0⟩
/-- The fields of `TIME_ERR`, lowest bit first. -/
def TIME_ERR (c : Nat) : List Fd :=
  [ TIME_ERR_ERR c, TIME_ERR_VALID c, TIME_ERR_BIG c, TIME_ERR_MISS c, TIME_ERR_MISSED c]

/-! `TIME_PATH` (R303). -/
def TIME_PATH_D (c : Nat) : Fd := ⟨cluCsr c + 0x310, 0, 16, .ro, 0⟩
/-- The fields of `TIME_PATH`, lowest bit first. -/
def TIME_PATH (c : Nat) : List Fd :=
  [ TIME_PATH_D c]

/-! `XING_SLIP` (R304). -/
def XING_SLIP_SLIPS (f : Nat) : Fd := ⟨fldCsr f + 0x3000, 0, 16, .rc, 0⟩
def XING_SLIP_FORCED (f : Nat) : Fd := ⟨fldCsr f + 0x3000, 16, 8, .rc, 0⟩
/-- The fields of `XING_SLIP`, lowest bit first. -/
def XING_SLIP (f : Nat) : List Fd :=
  [ XING_SLIP_SLIPS f, XING_SLIP_FORCED f]

/-! `SEQ_CTL` (R331). -/
def SEQ_CTL_ENTRY (c : Nat) : Fd := ⟨cluCsr c + 0x1000, 0, 18, .rw, 0⟩
def SEQ_CTL_START (c : Nat) : Fd := ⟨cluCsr c + 0x1000, 31, 1, .wo, 0⟩
/-- The fields of `SEQ_CTL`, lowest bit first. -/
def SEQ_CTL (c : Nat) : List Fd :=
  [ SEQ_CTL_ENTRY c, SEQ_CTL_START c]

/-! `SEQ_STAT` (R331). -/
def SEQ_STAT_IQ_HELD (c : Nat) : Fd := ⟨cluCsr c + 0x1008, 0, 7, .ro, 0⟩
def SEQ_STAT_TWAIT (c : Nat) : Fd := ⟨cluCsr c + 0x1008, 7, 1, .ro, 0⟩
def SEQ_STAT_RECS (c : Nat) : Fd := ⟨cluCsr c + 0x1008, 8, 8, .ro, 0⟩
def SEQ_STAT_MAIL (c : Nat) : Fd := ⟨cluCsr c + 0x1008, 16, 7, .ro, 0⟩
def SEQ_STAT_RESQ (c : Nat) : Fd := ⟨cluCsr c + 0x1008, 23, 5, .ro, 0⟩
/-- The fields of `SEQ_STAT`, lowest bit first. -/
def SEQ_STAT (c : Nat) : List Fd :=
  [ SEQ_STAT_IQ_HELD c, SEQ_STAT_TWAIT c, SEQ_STAT_RECS c, SEQ_STAT_MAIL c, SEQ_STAT_RESQ c]

/-! `SEQ_DROP` (R331). -/
def SEQ_DROP_CDROP (c : Nat) : Fd := ⟨cluCsr c + 0x100c, 0, 8, .rc, 0⟩
def SEQ_DROP_MDROP (c : Nat) : Fd := ⟨cluCsr c + 0x100c, 8, 8, .rc, 0⟩
def SEQ_DROP_LATES (c : Nat) : Fd := ⟨cluCsr c + 0x100c, 16, 8, .rc, 0⟩
def SEQ_DROP_INBAD (c : Nat) : Fd := ⟨cluCsr c + 0x100c, 24, 8, .rc, 0⟩
/-- The fields of `SEQ_DROP`, lowest bit first. -/
def SEQ_DROP (c : Nat) : List Fd :=
  [ SEQ_DROP_CDROP c, SEQ_DROP_MDROP c, SEQ_DROP_LATES c, SEQ_DROP_INBAD c]

/-! `SEQ_SLACK` (R331). -/
def SEQ_SLACK_DEFAULT (c : Nat) : Fd := ⟨cluCsr c + 0x1010, 0, 8, .rw, 8⟩
/-- The fields of `SEQ_SLACK`, lowest bit first. -/
def SEQ_SLACK (c : Nat) : List Fd :=
  [ SEQ_SLACK_DEFAULT c]

/-! `SEQ_HALTED` (R331). -/
def SEQ_HALTED_HALTED (c : Nat) : Fd := ⟨cluCsr c + 0x1014, 0, 32, .w1c, 0⟩
/-- The fields of `SEQ_HALTED`, lowest bit first. -/
def SEQ_HALTED (c : Nat) : List Fd :=
  [ SEQ_HALTED_HALTED c]

/-! `SEQ_EXCM` (R331). -/
def SEQ_EXCM_EXC (c : Nat) : Fd := ⟨cluCsr c + 0x1018, 0, 32, .w1c, 0⟩
/-- The fields of `SEQ_EXCM`, lowest bit first. -/
def SEQ_EXCM (c : Nat) : List Fd :=
  [ SEQ_EXCM_EXC c]

/-! `KN_STAT` (R331). -/
def KN_STAT_PENDING (c : Nat) : Fd := ⟨cluCsr c + 0x101c, 0, 3, .ro, 0⟩
def KN_STAT_ACTIVE (c : Nat) : Fd := ⟨cluCsr c + 0x101c, 3, 1, .ro, 0⟩
def KN_STAT_NOTICES (c : Nat) : Fd := ⟨cluCsr c + 0x101c, 8, 8, .rc, 0⟩
def KN_STAT_REFUSED (c : Nat) : Fd := ⟨cluCsr c + 0x101c, 16, 8, .rc, 0⟩
def KN_STAT_SHORT (c : Nat) : Fd := ⟨cluCsr c + 0x101c, 24, 8, .rc, 0⟩
/-- The fields of `KN_STAT`, lowest bit first. -/
def KN_STAT (c : Nat) : List Fd :=
  [ KN_STAT_PENDING c, KN_STAT_ACTIVE c, KN_STAT_NOTICES c, KN_STAT_REFUSED c, KN_STAT_SHORT c]

/-! `SEQ_BAR` (R331). -/
def SEQ_BAR_EXPECT (c b : Nat) : Fd := ⟨cluCsr c + 0x1100 + 16 * (b % 8), 0, 7, .rw, 0⟩
def SEQ_BAR_ARRIVED (c b : Nat) : Fd := ⟨cluCsr c + 0x1100 + 16 * (b % 8), 8, 7, .ro, 0⟩
def SEQ_BAR_GEN (c b : Nat) : Fd := ⟨cluCsr c + 0x1100 + 16 * (b % 8), 16, 8, .ro, 0⟩
def SEQ_BAR_ARRIVE (c b : Nat) : Fd := ⟨cluCsr c + 0x1100 + 16 * (b % 8), 31, 1, .wo, 0⟩
/-- The fields of `SEQ_BAR`, lowest bit first. -/
def SEQ_BAR (c b : Nat) : List Fd :=
  [ SEQ_BAR_EXPECT c b, SEQ_BAR_ARRIVED c b, SEQ_BAR_GEN c b, SEQ_BAR_ARRIVE c b]

/-! `SEQ_BRMASK` (R331). -/
def SEQ_BRMASK_MASK (c b : Nat) : Fd := ⟨cluCsr c + 0x1104 + 16 * (b % 8), 0, 32, .rw, 0⟩
/-- The fields of `SEQ_BRMASK`, lowest bit first. -/
def SEQ_BRMASK (c b : Nat) : List Fd :=
  [ SEQ_BRMASK_MASK c b]

/-! `SEQ_BRCTL` (R331). -/
def SEQ_BRCTL_CN (c b : Nat) : Fd := ⟨cluCsr c + 0x1108 + 16 * (b % 8), 0, 4, .rw, 0⟩
def SEQ_BRCTL_CAMT (c b : Nat) : Fd := ⟨cluCsr c + 0x1108 + 16 * (b % 8), 8, 8, .rw, 1⟩
def SEQ_BRCTL_SCN (c b : Nat) : Fd := ⟨cluCsr c + 0x1108 + 16 * (b % 8), 16, 4, .rw, 0⟩
def SEQ_BRCTL_SCEN (c b : Nat) : Fd := ⟨cluCsr c + 0x1108 + 16 * (b % 8), 20, 1, .rw, 0⟩
/-- The fields of `SEQ_BRCTL`, lowest bit first. -/
def SEQ_BRCTL (c b : Nat) : List Fd :=
  [ SEQ_BRCTL_CN c b, SEQ_BRCTL_CAMT c b, SEQ_BRCTL_SCN c b, SEQ_BRCTL_SCEN c b]

/-! `PWR_IN` (R353). -/
def PWR_IN_VIN : Fd := ⟨0x3c000000, 0, 16, .ro, 0⟩
def PWR_IN_PIN_W : Fd := ⟨0x3c000000, 16, 16, .ro, 0⟩
/-- The fields of `PWR_IN`, lowest bit first. -/
def PWR_IN : List Fd :=
  [ PWR_IN_VIN, PWR_IN_PIN_W]

/-! `PWR_ALERT` (R353). -/
def PWR_ALERT_ASSERTED : Fd := ⟨0x3c000004, 0, 1, .ro, 0⟩
def PWR_ALERT_FPEAK : Fd := ⟨0x3c000004, 1, 1, .w1c, 0⟩
def PWR_ALERT_FMEAN : Fd := ⟨0x3c000004, 2, 1, .w1c, 0⟩
def PWR_ALERT_PIN : Fd := ⟨0x3c000004, 3, 1, .w1c, 0⟩
def PWR_ALERT_UV : Fd := ⟨0x3c000004, 4, 1, .w1c, 0⟩
def PWR_ALERT_TEMP : Fd := ⟨0x3c000004, 5, 1, .w1c, 0⟩
def PWR_ALERT_SENSE : Fd := ⟨0x3c000004, 6, 1, .w1c, 0⟩
def PWR_ALERT_COUNT : Fd := ⟨0x3c000004, 16, 16, .rc, 0⟩
/-- The fields of `PWR_ALERT`, lowest bit first. -/
def PWR_ALERT : List Fd :=
  [ PWR_ALERT_ASSERTED, PWR_ALERT_FPEAK, PWR_ALERT_FMEAN, PWR_ALERT_PIN, PWR_ALERT_UV, PWR_ALERT_TEMP, PWR_ALERT_SENSE, PWR_ALERT_COUNT]

/-! `PWR_MARGIN` (R353). -/
def PWR_MARGIN_MARGIN : Fd := ⟨0x3c000008, 0, 5, .rw, 6⟩
def PWR_MARGIN_KN_STEP : Fd := ⟨0x3c000008, 8, 5, .rw, 16⟩
/-- The fields of `PWR_MARGIN`, lowest bit first. -/
def PWR_MARGIN : List Fd :=
  [ PWR_MARGIN_MARGIN, PWR_MARGIN_KN_STEP]

/-! `TEL_RING0` (R353). -/
def TEL_RING0_BASE_LO : Fd := ⟨0x3c000010, 0, 32, .rw, 0⟩
/-- The fields of `TEL_RING0`, lowest bit first. -/
def TEL_RING0 : List Fd :=
  [ TEL_RING0_BASE_LO]

/-! `TEL_RING1` (R353). -/
def TEL_RING1_BASE_HI : Fd := ⟨0x3c000014, 0, 16, .rw, 0⟩
def TEL_RING1_FRAMES : Fd := ⟨0x3c000014, 16, 16, .rw, 0⟩
/-- The fields of `TEL_RING1`, lowest bit first. -/
def TEL_RING1 : List Fd :=
  [ TEL_RING1_BASE_HI, TEL_RING1_FRAMES]

/-! `TEL_STAT` (R353). -/
def TEL_STAT_SEQ : Fd := ⟨0x3c000018, 0, 16, .ro, 0⟩
def TEL_STAT_SKIPPED : Fd := ⟨0x3c000018, 16, 16, .rc, 0⟩
/-- The fields of `TEL_STAT`, lowest bit first. -/
def TEL_STAT : List Fd :=
  [ TEL_STAT_SEQ, TEL_STAT_SKIPPED]

/-! `TEL_LAST` (R353). -/
def TEL_LAST_WORD (i : Nat) : Fd := ⟨0x3c004000 + 4 * (i % 464), 0, 32, .ro, 0⟩
/-- The fields of `TEL_LAST`, lowest bit first. -/
def TEL_LAST (i : Nat) : List Fd :=
  [ TEL_LAST_WORD i]

/-! `VPM_FSTAT` (R353). -/
def VPM_FSTAT_FEED_MV (f : Nat) : Fd := ⟨0x3c001000 + 64 * (f % 16), 0, 10, .ro, 0⟩
def VPM_FSTAT_PHASES (f : Nat) : Fd := ⟨0x3c001000 + 64 * (f % 16), 10, 5, .ro, 0⟩
def VPM_FSTAT_KETTLE (f : Nat) : Fd := ⟨0x3c001000 + 64 * (f % 16), 15, 1, .ro, 0⟩
def VPM_FSTAT_HINT (f : Nat) : Fd := ⟨0x3c001000 + 64 * (f % 16), 16, 1, .ro, 0⟩
/-- The fields of `VPM_FSTAT`, lowest bit first. -/
def VPM_FSTAT (f : Nat) : List Fd :=
  [ VPM_FSTAT_FEED_MV f, VPM_FSTAT_PHASES f, VPM_FSTAT_KETTLE f, VPM_FSTAT_HINT f]

/-! `VPM_FSENSE` (R353). -/
def VPM_FSENSE_HEAD_W (f : Nat) : Fd := ⟨0x3c001004 + 64 * (f % 16), 0, 8, .ro, 0⟩
def VPM_FSENSE_HEAD_E (f : Nat) : Fd := ⟨0x3c001004 + 64 * (f % 16), 8, 8, .ro, 0⟩
def VPM_FSENSE_HEAD_S (f : Nat) : Fd := ⟨0x3c001004 + 64 * (f % 16), 16, 8, .ro, 0⟩
/-- The fields of `VPM_FSENSE`, lowest bit first. -/
def VPM_FSENSE (f : Nat) : List Fd :=
  [ VPM_FSENSE_HEAD_W f, VPM_FSENSE_HEAD_E f, VPM_FSENSE_HEAD_S f]

/-! `REG_STAT` (R354). -/
def REG_STAT_SLICE_OK (c : Nat) : Fd := ⟨cluCsr c + 0x400, 0, 16, .ro, 0xFFFF⟩
def REG_STAT_LPM (c : Nat) : Fd := ⟨cluCsr c + 0x400, 16, 1, .ro, 0⟩
def REG_STAT_DARK (c : Nat) : Fd := ⟨cluCsr c + 0x400, 17, 1, .ro, 0⟩
def REG_STAT_OCGATE (c : Nat) : Fd := ⟨cluCsr c + 0x400, 18, 1, .ro, 0⟩
def REG_STAT_OCHELD (c : Nat) : Fd := ⟨cluCsr c + 0x400, 19, 1, .ro, 0⟩
def REG_STAT_FAILED (c : Nat) : Fd := ⟨cluCsr c + 0x400, 20, 5, .ro, 0⟩
/-- The fields of `REG_STAT`, lowest bit first. -/
def REG_STAT (c : Nat) : List Fd :=
  [ REG_STAT_SLICE_OK c, REG_STAT_LPM c, REG_STAT_DARK c, REG_STAT_OCGATE c, REG_STAT_OCHELD c, REG_STAT_FAILED c]

/-! `REG_OC` (R354). -/
def REG_OC_LIMIT_A (c : Nat) : Fd := ⟨cluCsr c + 0x404, 0, 9, .ro, 384⟩
def REG_OC_TRIPS (c : Nat) : Fd := ⟨cluCsr c + 0x404, 16, 8, .rc, 0⟩
def REG_OC_RELEASE (c : Nat) : Fd := ⟨cluCsr c + 0x404, 31, 1, .wo, 0⟩
/-- The fields of `REG_OC`, lowest bit first. -/
def REG_OC (c : Nat) : List Fd :=
  [ REG_OC_LIMIT_A c, REG_OC_TRIPS c, REG_OC_RELEASE c]

/-! `REG_VT` (R354). -/
def REG_VT_VT_MV (c : Nat) : Fd := ⟨cluCsr c + 0x408, 0, 10, .ro, 0⟩
def REG_VT_TRIM (c : Nat) : Fd := ⟨cluCsr c + 0x408, 10, 5, .ro, 0⟩
def REG_VT_RAISING (c : Nat) : Fd := ⟨cluCsr c + 0x408, 15, 1, .ro, 0⟩
/-- The fields of `REG_VT`, lowest bit first. -/
def REG_VT (c : Nat) : List Fd :=
  [ REG_VT_VT_MV c, REG_VT_TRIM c, REG_VT_RAISING c]

/-! `PST_STAT` (R376). -/
def PST_STAT_STATE (c : Nat) : Fd := ⟨cluCsr c + 0x500, 0, 2, .ro, 0⟩
def PST_STAT_CAUSE (c : Nat) : Fd := ⟨cluCsr c + 0x500, 2, 3, .ro, 0⟩
def PST_STAT_TWAIT (c : Nat) : Fd := ⟨cluCsr c + 0x500, 5, 1, .ro, 0⟩
def PST_STAT_WIGN (c : Nat) : Fd := ⟨cluCsr c + 0x500, 6, 1, .w1c, 0⟩
def PST_STAT_ISSUE (c : Nat) : Fd := ⟨cluCsr c + 0x500, 8, 5, .ro, 16⟩
def PST_STAT_THROTTLED (c : Nat) : Fd := ⟨cluCsr c + 0x500, 13, 1, .ro, 0⟩
def PST_STAT_CEIL_MHZ (c : Nat) : Fd := ⟨cluCsr c + 0x500, 16, 12, .ro, 1250⟩
/-- The fields of `PST_STAT`, lowest bit first. -/
def PST_STAT (c : Nat) : List Fd :=
  [ PST_STAT_STATE c, PST_STAT_CAUSE c, PST_STAT_TWAIT c, PST_STAT_WIGN c, PST_STAT_ISSUE c, PST_STAT_THROTTLED c, PST_STAT_CEIL_MHZ c]

/-! `PST_CTL` (R376). -/
def PST_CTL_WAKE (c : Nat) : Fd := ⟨cluCsr c + 0x504, 0, 1, .wo, 0⟩
def PST_CTL_REST (c : Nat) : Fd := ⟨cluCsr c + 0x504, 1, 1, .wo, 0⟩
def PST_CTL_OFF (c : Nat) : Fd := ⟨cluCsr c + 0x504, 2, 1, .wo, 0⟩
def PST_CTL_ON (c : Nat) : Fd := ⟨cluCsr c + 0x504, 3, 1, .wo, 0⟩
/-- The fields of `PST_CTL`, lowest bit first. -/
def PST_CTL (c : Nat) : List Fd :=
  [ PST_CTL_WAKE c, PST_CTL_REST c, PST_CTL_OFF c, PST_CTL_ON c]

/-! `PST_TMR` (R376). -/
def PST_TMR_STEEP_US (c : Nat) : Fd := ⟨cluCsr c + 0x508, 0, 16, .rw, 50⟩
def PST_TMR_REST_MS (c : Nat) : Fd := ⟨cluCsr c + 0x508, 16, 16, .rw, 10⟩
/-- The fields of `PST_TMR`, lowest bit first. -/
def PST_TMR (c : Nat) : List Fd :=
  [ PST_TMR_STEEP_US c, PST_TMR_REST_MS c]

/-! `PST_CNT` (R376). -/
def PST_CNT_STEEPS (c : Nat) : Fd := ⟨cluCsr c + 0x50c, 0, 16, .rc, 0⟩
def PST_CNT_RESTS (c : Nat) : Fd := ⟨cluCsr c + 0x50c, 16, 8, .rc, 0⟩
def PST_CNT_BROWNOUTS (c : Nat) : Fd := ⟨cluCsr c + 0x50c, 24, 8, .rc, 0⟩
/-- The fields of `PST_CNT`, lowest bit first. -/
def PST_CNT (c : Nat) : List Fd :=
  [ PST_CNT_STEEPS c, PST_CNT_RESTS c, PST_CNT_BROWNOUTS c]

/-! `CLU_THERM` (R376). -/
def CLU_THERM_TEMP_C (c : Nat) : Fd := ⟨cluCsr c + 0x510, 0, 8, .ro, 0⟩
def CLU_THERM_HOT (c : Nat) : Fd := ⟨cluCsr c + 0x510, 8, 1, .ro, 0⟩
/-- The fields of `CLU_THERM`, lowest bit first. -/
def CLU_THERM (c : Nat) : List Fd :=
  [ CLU_THERM_TEMP_C c, CLU_THERM_HOT c]

/-! `PWR_WAKE` (R377). -/
def PWR_WAKE_FIELD_A (f : Nat) : Fd := ⟨fldCsr f + 0x4000, 0, 11, .rw, 750⟩
def PWR_WAKE_RESERVE_A (f : Nat) : Fd := ⟨fldCsr f + 0x4000, 12, 9, .rw, 150⟩
/-- The fields of `PWR_WAKE`, lowest bit first. -/
def PWR_WAKE (f : Nat) : List Fd :=
  [ PWR_WAKE_FIELD_A f, PWR_WAKE_RESERVE_A f]

/-! `PWR_WAKE_CNT` (R377). -/
def PWR_WAKE_CNT_DEFERS (f : Nat) : Fd := ⟨fldCsr f + 0x4004, 0, 16, .rc, 0⟩
def PWR_WAKE_CNT_THROTTLES (f : Nat) : Fd := ⟨fldCsr f + 0x4004, 16, 16, .rc, 0⟩
/-- The fields of `PWR_WAKE_CNT`, lowest bit first. -/
def PWR_WAKE_CNT (f : Nat) : List Fd :=
  [ PWR_WAKE_CNT_DEFERS f, PWR_WAKE_CNT_THROTTLES f]

/-! `FIELD_THERM` (R377). -/
def FIELD_THERM_TEMP_C (f : Nat) : Fd := ⟨fldCsr f + 0x4008, 0, 8, .ro, 0⟩
def FIELD_THERM_TRIP (f : Nat) : Fd := ⟨fldCsr f + 0x4008, 8, 1, .ro, 0⟩
/-- The fields of `FIELD_THERM`, lowest bit first. -/
def FIELD_THERM (f : Nat) : List Fd :=
  [ FIELD_THERM_TEMP_C f, FIELD_THERM_TRIP f]

/-! `CAP_CTL` (R378). -/
def CAP_CTL_ORDER : Fd := ⟨0x3c000100, 0, 6, .rw, 36⟩
/-- The fields of `CAP_CTL`, lowest bit first. -/
def CAP_CTL : List Fd :=
  [ CAP_CTL_ORDER]

/-! `CAP_FLOOR0` (R378). -/
def CAP_FLOOR0_LINK_W : Fd := ⟨0x3c000104, 0, 16, .rw, 150⟩
def CAP_FLOOR0_MEM_W : Fd := ⟨0x3c000104, 16, 16, .rw, 400⟩
/-- The fields of `CAP_FLOOR0`, lowest bit first. -/
def CAP_FLOOR0 : List Fd :=
  [ CAP_FLOOR0_LINK_W, CAP_FLOOR0_MEM_W]

/-! `CAP_FLOOR1` (R378). -/
def CAP_FLOOR1_CMP_W : Fd := ⟨0x3c000108, 0, 16, .rw, 0⟩
/-- The fields of `CAP_FLOOR1`, lowest bit first. -/
def CAP_FLOOR1 : List Fd :=
  [ CAP_FLOOR1_CMP_W]

/-! `CAP_STAT` (R378). -/
def CAP_STAT_UNMET : Fd := ⟨0x3c00010c, 0, 1, .ro, 0⟩
def CAP_STAT_STAGE : Fd := ⟨0x3c00010c, 1, 3, .ro, 0⟩
def CAP_STAT_MEMLIM : Fd := ⟨0x3c00010c, 4, 4, .ro, 0⟩
def CAP_STAT_PARKED : Fd := ⟨0x3c00010c, 8, 6, .ro, 0⟩
def CAP_STAT_FLOORCUT : Fd := ⟨0x3c00010c, 14, 1, .ro, 0⟩
/-- The fields of `CAP_STAT`, lowest bit first. -/
def CAP_STAT : List Fd :=
  [ CAP_STAT_UNMET, CAP_STAT_STAGE, CAP_STAT_MEMLIM, CAP_STAT_PARKED, CAP_STAT_FLOORCUT]

/-! `CAP_ALLOC0` (R378). -/
def CAP_ALLOC0_LINK_W : Fd := ⟨0x3c000110, 0, 16, .ro, 0⟩
def CAP_ALLOC0_MEM_W : Fd := ⟨0x3c000110, 16, 16, .ro, 0⟩
/-- The fields of `CAP_ALLOC0`, lowest bit first. -/
def CAP_ALLOC0 : List Fd :=
  [ CAP_ALLOC0_LINK_W, CAP_ALLOC0_MEM_W]

/-! `CAP_ALLOC1` (R378). -/
def CAP_ALLOC1_CMP_W : Fd := ⟨0x3c000114, 0, 16, .ro, 0⟩
def CAP_ALLOC1_SPARE_W : Fd := ⟨0x3c000114, 16, 16, .ro, 0⟩
/-- The fields of `CAP_ALLOC1`, lowest bit first. -/
def CAP_ALLOC1 : List Fd :=
  [ CAP_ALLOC1_CMP_W, CAP_ALLOC1_SPARE_W]

/-! `KW_CTL` (R378). -/
def KW_CTL_AUTO : Fd := ⟨0x3c000120, 0, 1, .rw, 1⟩
def KW_CTL_ENTER : Fd := ⟨0x3c000120, 1, 1, .wo, 0⟩
def KW_CTL_RESUME : Fd := ⟨0x3c000120, 2, 1, .wo, 0⟩
def KW_CTL_HOLDOFF_MS : Fd := ⟨0x3c000120, 16, 16, .rw, 200⟩
/-- The fields of `KW_CTL`, lowest bit first. -/
def KW_CTL : List Fd :=
  [ KW_CTL_AUTO, KW_CTL_ENTER, KW_CTL_RESUME, KW_CTL_HOLDOFF_MS]

/-! `KW_STAT` (R378). -/
def KW_STAT_STATE : Fd := ⟨0x3c000124, 0, 2, .ro, 0⟩
def KW_STAT_CAUSE : Fd := ⟨0x3c000124, 2, 3, .ro, 0⟩
def KW_STAT_ENTRIES : Fd := ⟨0x3c000124, 16, 16, .rc, 0⟩
/-- The fields of `KW_STAT`, lowest bit first. -/
def KW_STAT : List Fd :=
  [ KW_STAT_STATE, KW_STAT_CAUSE, KW_STAT_ENTRIES]

/-! `STOOK` (R378). -/
def STOOK_FIELD_GAP_US : Fd := ⟨0x3c000128, 0, 10, .rw, 100⟩
def STOOK_CLU_GAP_US : Fd := ⟨0x3c000128, 10, 10, .rw, 20⟩
def STOOK_STACK_GAP_US : Fd := ⟨0x3c000128, 20, 10, .rw, 50⟩
/-- The fields of `STOOK`, lowest bit first. -/
def STOOK : List Fd :=
  [ STOOK_FIELD_GAP_US, STOOK_CLU_GAP_US, STOOK_STACK_GAP_US]

/-! `BOOT_STAT` (R402). -/
def BOOT_STAT_STEP : Fd := ⟨0x400, 0, 5, .ro, 0⟩
def BOOT_STAT_WARM : Fd := ⟨0x400, 5, 1, .ro, 0⟩
def BOOT_STAT_READY : Fd := ⟨0x400, 6, 1, .ro, 0⟩
def BOOT_STAT_MASTER : Fd := ⟨0x400, 7, 2, .ro, 0⟩
def BOOT_STAT_FALLBACK : Fd := ⟨0x400, 9, 1, .ro, 0⟩
def BOOT_STAT_FAIL : Fd := ⟨0x400, 16, 4, .ro, 0⟩
/-- The fields of `BOOT_STAT`, lowest bit first. -/
def BOOT_STAT : List Fd :=
  [ BOOT_STAT_STEP, BOOT_STAT_WARM, BOOT_STAT_READY, BOOT_STAT_MASTER, BOOT_STAT_FALLBACK, BOOT_STAT_FAIL]

/-! `BOOT_TIME` (R402). -/
def BOOT_TIME_LAST_MS : Fd := ⟨0x404, 0, 16, .ro, 0⟩
/-- The fields of `BOOT_TIME`, lowest bit first. -/
def BOOT_TIME : List Fd :=
  [ BOOT_TIME_LAST_MS]

/-! `FUSE_STAT` (R402). -/
def FUSE_STAT_A_OK : Fd := ⟨0x408, 0, 1, .ro, 1⟩
def FUSE_STAT_B_OK : Fd := ⟨0x408, 1, 1, .ro, 1⟩
def FUSE_STAT_DIFFER : Fd := ⟨0x408, 2, 1, .ro, 0⟩
def FUSE_STAT_ENTRIES : Fd := ⟨0x408, 4, 12, .ro, 0⟩
/-- The fields of `FUSE_STAT`, lowest bit first. -/
def FUSE_STAT : List Fd :=
  [ FUSE_STAT_A_OK, FUSE_STAT_B_OK, FUSE_STAT_DIFFER, FUSE_STAT_ENTRIES]

/-! `BOOT_DISC` (R402). -/
def BOOT_DISC_FUSE_ONLY : Fd := ⟨0x40c, 0, 12, .ro, 0⟩
def BOOT_DISC_TEST_ONLY : Fd := ⟨0x40c, 12, 12, .ro, 0⟩
def BOOT_DISC_LISTED : Fd := ⟨0x40c, 24, 8, .ro, 0⟩
/-- The fields of `BOOT_DISC`, lowest bit first. -/
def BOOT_DISC : List Fd :=
  [ BOOT_DISC_FUSE_ONLY, BOOT_DISC_TEST_ONLY, BOOT_DISC_LISTED]

/-! `BOOT_IMGL` (R402). -/
def BOOT_IMGL_BASE_LO : Fd := ⟨0x410, 0, 32, .ro, 0⟩
/-- The fields of `BOOT_IMGL`, lowest bit first. -/
def BOOT_IMGL : List Fd :=
  [ BOOT_IMGL_BASE_LO]

/-! `BOOT_IMGH` (R402). -/
def BOOT_IMGH_BASE_HI : Fd := ⟨0x414, 0, 16, .ro, 0⟩
def BOOT_IMGH_VALID : Fd := ⟨0x414, 16, 1, .ro, 0⟩
/-- The fields of `BOOT_IMGH`, lowest bit first. -/
def BOOT_IMGH : List Fd :=
  [ BOOT_IMGH_BASE_HI, BOOT_IMGH_VALID]

/-! `CDIE_COMMON` (R402). -/
def CDIE_COMMON_LEVEL : Fd := ⟨0x418, 0, 8, .ro, 0⟩
def CDIE_COMMON_COMBO : Fd := ⟨0x418, 8, 8, .ro, 255⟩
def CDIE_COMMON_HELD : Fd := ⟨0x418, 16, 4, .ro, 0⟩
/-- The fields of `CDIE_COMMON`, lowest bit first. -/
def CDIE_COMMON : List Fd :=
  [ CDIE_COMMON_LEVEL, CDIE_COMMON_COMBO, CDIE_COMMON_HELD]

/-! `CDIE_ID` (R403). -/
def CDIE_ID_POS (p : Nat) : Fd := ⟨cdieCsr p + 0x0, 0, 2, .ro, p⟩
def CDIE_ID_ROT (p : Nat) : Fd := ⟨cdieCsr p + 0x0, 2, 2, .ro, p⟩
def CDIE_ID_ROMOK (p : Nat) : Fd := ⟨cdieCsr p + 0x0, 4, 1, .ro, 0⟩
def CDIE_ID_MASTER (p : Nat) : Fd := ⟨cdieCsr p + 0x0, 5, 1, .ro, 0⟩
def CDIE_ID_HELD (p : Nat) : Fd := ⟨cdieCsr p + 0x0, 6, 1, .ro, 0⟩
def CDIE_ID_MINOR (p : Nat) : Fd := ⟨cdieCsr p + 0x0, 8, 4, .ro, 0⟩
def CDIE_ID_MAJOR (p : Nat) : Fd := ⟨cdieCsr p + 0x0, 12, 4, .ro, 1⟩
def CDIE_ID_FEATLVL (p : Nat) : Fd := ⟨cdieCsr p + 0x0, 16, 8, .ro, 1⟩
/-- The fields of `CDIE_ID`, lowest bit first. -/
def CDIE_ID (p : Nat) : List Fd :=
  [ CDIE_ID_POS p, CDIE_ID_ROT p, CDIE_ID_ROMOK p, CDIE_ID_MASTER p, CDIE_ID_HELD p, CDIE_ID_MINOR p, CDIE_ID_MAJOR p, CDIE_ID_FEATLVL p]

/-! `CDIE_LINKQ` (R403). -/
def CDIE_LINKQ_UCIE_REP (p : Nat) : Fd := ⟨cdieCsr p + 0x4, 0, 8, .ro, 0⟩
def CDIE_LINKQ_W0 (p : Nat) : Fd := ⟨cdieCsr p + 0x4, 8, 2, .ro, 0⟩
def CDIE_LINKQ_W1 (p : Nat) : Fd := ⟨cdieCsr p + 0x4, 10, 2, .ro, 0⟩
def CDIE_LINKQ_W2 (p : Nat) : Fd := ⟨cdieCsr p + 0x4, 12, 2, .ro, 0⟩
def CDIE_LINKQ_W3 (p : Nat) : Fd := ⟨cdieCsr p + 0x4, 14, 2, .ro, 0⟩
def CDIE_LINKQ_ETH (p : Nat) : Fd := ⟨cdieCsr p + 0x4, 16, 2, .ro, 3⟩
/-- The fields of `CDIE_LINKQ`, lowest bit first. -/
def CDIE_LINKQ (p : Nat) : List Fd :=
  [ CDIE_LINKQ_UCIE_REP p, CDIE_LINKQ_W0 p, CDIE_LINKQ_W1 p, CDIE_LINKQ_W2 p, CDIE_LINKQ_W3 p, CDIE_LINKQ_ETH p]

/-! `LINK_QUAL` (R404). -/
def LINK_QUAL_WIRES (f : Nat) : Fd := ⟨fldCsr f + 0x5000, 0, 8, .ro, 0⟩
def LINK_QUAL_GROUPS (f : Nat) : Fd := ⟨fldCsr f + 0x5000, 8, 4, .ro, 0⟩
/-- The fields of `LINK_QUAL`, lowest bit first. -/
def LINK_QUAL (f : Nat) : List Fd :=
  [ LINK_QUAL_WIRES f, LINK_QUAL_GROUPS f]

/-! `START_TEST` (R404). -/
def START_TEST_TESTED (c : Nat) : Fd := ⟨cluCsr c + 0x600, 0, 6, .ro, 0⟩
def START_TEST_BAD_TEST (c : Nat) : Fd := ⟨cluCsr c + 0x600, 6, 6, .ro, 0⟩
def START_TEST_SUSPECT (c : Nat) : Fd := ⟨cluCsr c + 0x600, 12, 4, .ro, 0⟩
def START_TEST_SEQ_OK (c : Nat) : Fd := ⟨cluCsr c + 0x600, 16, 1, .ro, 0⟩
def START_TEST_RETRIED (c : Nat) : Fd := ⟨cluCsr c + 0x600, 17, 1, .ro, 0⟩
def START_TEST_SLICES_BAD (c : Nat) : Fd := ⟨cluCsr c + 0x600, 18, 6, .ro, 0⟩
def START_TEST_REG_FAILED (c : Nat) : Fd := ⟨cluCsr c + 0x600, 24, 5, .ro, 0⟩
/-- The fields of `START_TEST`, lowest bit first. -/
def START_TEST (c : Nat) : List Fd :=
  [ START_TEST_TESTED c, START_TEST_BAD_TEST c, START_TEST_SUSPECT c, START_TEST_SEQ_OK c, START_TEST_RETRIED c, START_TEST_SLICES_BAD c, START_TEST_REG_FAILED c]

/-! `PART_CTL` (R434). -/
def PART_CTL_ABORT (b : Nat) : Fd := ⟨b + 0x0, 0, 1, .wo, 0⟩
def PART_CTL_LEDGER_AUDIT (b : Nat) : Fd := ⟨b + 0x0, 1, 1, .wo, 0⟩
/-- The fields of `PART_CTL`, lowest bit first. -/
def PART_CTL (b : Nat) : List Fd :=
  [ PART_CTL_ABORT b, PART_CTL_LEDGER_AUDIT b]

/-! `PART_STAT` (R434). -/
def PART_STAT_ABORT (b : Nat) : Fd := ⟨b + 0x4, 0, 2, .ro, 0⟩
def PART_STAT_AUDIT (b : Nat) : Fd := ⟨b + 0x4, 2, 2, .ro, 0⟩
def PART_STAT_NOTQUIET (b : Nat) : Fd := ⟨b + 0x4, 4, 1, .ro, 0⟩
def PART_STAT_LEDGER_BAD (b : Nat) : Fd := ⟨b + 0x4, 5, 1, .ro, 0⟩
def PART_STAT_EV_OVR (b : Nat) : Fd := ⟨b + 0x4, 8, 8, .rc, 0⟩
def PART_STAT_LAST_ABORT_US (b : Nat) : Fd := ⟨b + 0x4, 16, 16, .ro, 0⟩
/-- The fields of `PART_STAT`, lowest bit first. -/
def PART_STAT (b : Nat) : List Fd :=
  [ PART_STAT_ABORT b, PART_STAT_AUDIT b, PART_STAT_NOTQUIET b, PART_STAT_LEDGER_BAD b, PART_STAT_EV_OVR b, PART_STAT_LAST_ABORT_US b]

/-! `WN_CFG` (R434). -/
def WN_CFG_LOG2F (b : Nat) : Fd := ⟨b + 0x8, 0, 5, .rw, 10⟩
def WN_CFG_AUTOABORT (b : Nat) : Fd := ⟨b + 0x8, 5, 1, .rw, 1⟩
def WN_CFG_GLEAN (b : Nat) : Fd := ⟨b + 0x8, 6, 1, .rw, 0⟩
def WN_CFG_GL_WIN_MS (b : Nat) : Fd := ⟨b + 0x8, 8, 4, .rw, 1⟩
def WN_CFG_GL_PERIOD_S (b : Nat) : Fd := ⟨b + 0x8, 16, 16, .rw, 3600⟩
/-- The fields of `WN_CFG`, lowest bit first. -/
def WN_CFG (b : Nat) : List Fd :=
  [ WN_CFG_LOG2F b, WN_CFG_AUTOABORT b, WN_CFG_GLEAN b, WN_CFG_GL_WIN_MS b, WN_CFG_GL_PERIOD_S b]

/-! `WN_SEED` (R434). -/
def WN_SEED_SEED (b : Nat) : Fd := ⟨b + 0xc, 0, 32, .rw, 1⟩
/-- The fields of `WN_SEED`, lowest bit first. -/
def WN_SEED (b : Nat) : List Fd :=
  [ WN_SEED_SEED b]

/-! `WN_STAT` (R434). -/
def WN_STAT_SAMPLES (b : Nat) : Fd := ⟨b + 0x10, 0, 16, .rc, 0⟩
def WN_STAT_MISMATCH (b : Nat) : Fd := ⟨b + 0x10, 16, 8, .rc, 0⟩
def WN_STAT_SKIPPED (b : Nat) : Fd := ⟨b + 0x10, 24, 8, .rc, 0⟩
/-- The fields of `WN_STAT`, lowest bit first. -/
def WN_STAT (b : Nat) : List Fd :=
  [ WN_STAT_SAMPLES b, WN_STAT_MISMATCH b, WN_STAT_SKIPPED b]

/-! `WN_CLASS` (R434). -/
def WN_CLASS_TRANSIENT (b : Nat) : Fd := ⟨b + 0x14, 0, 8, .rc, 0⟩
def WN_CLASS_PERMANENT (b : Nat) : Fd := ⟨b + 0x14, 8, 8, .rc, 0⟩
def WN_CLASS_INDET (b : Nat) : Fd := ⟨b + 0x14, 16, 8, .rc, 0⟩
def WN_CLASS_RETIRED (b : Nat) : Fd := ⟨b + 0x14, 24, 8, .rc, 0⟩
/-- The fields of `WN_CLASS`, lowest bit first. -/
def WN_CLASS (b : Nat) : List Fd :=
  [ WN_CLASS_TRANSIENT b, WN_CLASS_PERMANENT b, WN_CLASS_INDET b, WN_CLASS_RETIRED b]

/-! `EV_RINGL` (R434). -/
def EV_RINGL_BASE_LO (b : Nat) : Fd := ⟨b + 0x20, 0, 32, .rw, 0⟩
/-- The fields of `EV_RINGL`, lowest bit first. -/
def EV_RINGL (b : Nat) : List Fd :=
  [ EV_RINGL_BASE_LO b]

/-! `EV_RINGH` (R434). -/
def EV_RINGH_BASE_HI (b : Nat) : Fd := ⟨b + 0x24, 0, 16, .rw, 0⟩
def EV_RINGH_SIZE (b : Nat) : Fd := ⟨b + 0x24, 16, 16, .rw, 0⟩
/-- The fields of `EV_RINGH`, lowest bit first. -/
def EV_RINGH (b : Nat) : List Fd :=
  [ EV_RINGH_BASE_HI b, EV_RINGH_SIZE b]

/-! `EV_IDX` (R434). -/
def EV_IDX_HEAD (b : Nat) : Fd := ⟨b + 0x28, 0, 16, .ro, 0⟩
def EV_IDX_TAIL (b : Nat) : Fd := ⟨b + 0x28, 16, 16, .rw, 0⟩
/-- The fields of `EV_IDX`, lowest bit first. -/
def EV_IDX (b : Nat) : List Fd :=
  [ EV_IDX_HEAD b, EV_IDX_TAIL b]

/-! `WN_RETIRE` (R435). -/
def WN_RETIRE_RETIRED (c : Nat) : Fd := ⟨cluCsr c + 0x1900, 0, 32, .w1c, 0⟩
/-- The fields of `WN_RETIRE`, lowest bit first. -/
def WN_RETIRE (c : Nat) : List Fd :=
  [ WN_RETIRE_RETIRED c]

/-! `WN_PEND` (R435). -/
def WN_PEND_PENDING (c : Nat) : Fd := ⟨cluCsr c + 0x1904, 0, 16, .ro, 0⟩
/-- The fields of `WN_PEND`, lowest bit first. -/
def WN_PEND (c : Nat) : List Fd :=
  [ WN_PEND_PENDING c]

/-! `WN_CORE` (R435). -/
def WN_CORE_RETIRE (n : Nat) : Fd := ⟨hartCsr n + 0xc00, 0, 1, .w1s, 0⟩
def WN_CORE_RETIRING (n : Nat) : Fd := ⟨hartCsr n + 0xc00, 1, 1, .ro, 0⟩
def WN_CORE_WIPED (n : Nat) : Fd := ⟨hartCsr n + 0xc00, 2, 1, .rc, 0⟩
def WN_CORE_CHARGES (n : Nat) : Fd := ⟨hartCsr n + 0xc00, 4, 2, .ro, 0⟩
def WN_CORE_WINDOWS (n : Nat) : Fd := ⟨hartCsr n + 0xc00, 8, 8, .rc, 0⟩
/-- The fields of `WN_CORE`, lowest bit first. -/
def WN_CORE (n : Nat) : List Fd :=
  [ WN_CORE_RETIRE n, WN_CORE_RETIRING n, WN_CORE_WIPED n, WN_CORE_CHARGES n, WN_CORE_WINDOWS n]

/-! `EV_ALARM` (R436). -/
def EV_ALARM_PENDING : Fd := ⟨0x500, 0, 1, .w1c, 0⟩
def EV_ALARM_ALARMS : Fd := ⟨0x500, 16, 16, .rc, 0⟩
/-- The fields of `EV_ALARM`, lowest bit first. -/
def EV_ALARM : List Fd :=
  [ EV_ALARM_PENDING, EV_ALARM_ALARMS]

/-! `EV_DROP` (R436). -/
def EV_DROP_TRACE : Fd := ⟨0x504, 0, 16, .rc, 0⟩
def EV_DROP_COAL : Fd := ⟨0x504, 16, 16, .rc, 0⟩
/-- The fields of `EV_DROP`, lowest bit first. -/
def EV_DROP : List Fd :=
  [ EV_DROP_TRACE, EV_DROP_COAL]

/-! `EV_CFG` (R436). -/
def EV_CFG_CMINCLASS : Fd := ⟨0x508, 0, 3, .rw, 3⟩
def EV_CFG_TRACE : Fd := ⟨0x508, 3, 1, .rw, 0⟩
/-- The fields of `EV_CFG`, lowest bit first. -/
def EV_CFG : List Fd :=
  [ EV_CFG_CMINCLASS, EV_CFG_TRACE]

/-! `LEDGER_STAT` (R436). -/
def LEDGER_STAT_LEDGER_AUDIT : Fd := ⟨0x520, 0, 1, .wo, 0⟩
def LEDGER_STAT_RESULT : Fd := ⟨0x520, 1, 2, .ro, 0⟩
def LEDGER_STAT_ITEM : Fd := ⟨0x520, 4, 4, .ro, 0⟩
def LEDGER_STAT_FIXES : Fd := ⟨0x520, 16, 16, .rc, 0⟩
/-- The fields of `LEDGER_STAT`, lowest bit first. -/
def LEDGER_STAT : List Fd :=
  [ LEDGER_STAT_LEDGER_AUDIT, LEDGER_STAT_RESULT, LEDGER_STAT_ITEM, LEDGER_STAT_FIXES]

/-! `ETH_STAT` (R472). -/
def ETH_STAT_WIDTH : Fd := ⟨0x38000000, 0, 2, .ro, 3⟩
def ETH_STAT_UP : Fd := ⟨0x38000000, 2, 1, .ro, 0⟩
def ETH_STAT_FECUNC : Fd := ⟨0x38000000, 16, 16, .rc, 0⟩
/-- The fields of `ETH_STAT`, lowest bit first. -/
def ETH_STAT : List Fd :=
  [ ETH_STAT_WIDTH, ETH_STAT_UP, ETH_STAT_FECUNC]

/-! `ETH_DROP` (R472). -/
def ETH_DROP_NOPORT : Fd := ⟨0x38000004, 0, 16, .rc, 0⟩
def ETH_DROP_RXFULL : Fd := ⟨0x38000004, 16, 16, .rc, 0⟩
/-- The fields of `ETH_DROP`, lowest bit first. -/
def ETH_DROP : List Fd :=
  [ ETH_DROP_NOPORT, ETH_DROP_RXFULL]

/-! `CADDY_STAT` (R472). -/
def CADDY_STAT_PORT : Fd := ⟨0x38000100, 0, 16, .ro, 52189⟩
def CADDY_STAT_SESSIONS : Fd := ⟨0x38000100, 16, 4, .ro, 0⟩
def CADDY_STAT_BADOPEN : Fd := ⟨0x38000100, 24, 4, .rc, 0⟩
def CADDY_STAT_BADTAG : Fd := ⟨0x38000100, 28, 4, .rc, 0⟩
/-- The fields of `CADDY_STAT`, lowest bit first. -/
def CADDY_STAT : List Fd :=
  [ CADDY_STAT_PORT, CADDY_STAT_SESSIONS, CADDY_STAT_BADOPEN, CADDY_STAT_BADTAG]

/-! `OCT_SYS` (R472). -/
def OCT_SYS_MODULE : Fd := ⟨0x34000000, 0, 12, .ro, 0⟩
def OCT_SYS_PARENT : Fd := ⟨0x34000000, 12, 4, .ro, 15⟩
def OCT_SYS_HOPS : Fd := ⟨0x34000000, 16, 8, .ro, 0⟩
/-- The fields of `OCT_SYS`, lowest bit first. -/
def OCT_SYS : List Fd :=
  [ OCT_SYS_MODULE, OCT_SYS_PARENT, OCT_SYS_HOPS]

/-! `OCT_LSTAT` (R472). -/
def OCT_LSTAT_WIDTH (l : Nat) : Fd := ⟨0x34000100 + 256 * (l % 16), 0, 2, .ro, 0⟩
def OCT_LSTAT_UP (l : Nat) : Fd := ⟨0x34000100 + 256 * (l % 16), 2, 1, .ro, 0⟩
def OCT_LSTAT_RETRAIN (l : Nat) : Fd := ⟨0x34000100 + 256 * (l % 16), 3, 1, .ro, 0⟩
def OCT_LSTAT_DIR (l : Nat) : Fd := ⟨0x34000100 + 256 * (l % 16), 4, 3, .ro, 0⟩
def OCT_LSTAT_REPLAYS (l : Nat) : Fd := ⟨0x34000100 + 256 * (l % 16), 16, 16, .rc, 0⟩
/-- The fields of `OCT_LSTAT`, lowest bit first. -/
def OCT_LSTAT (l : Nat) : List Fd :=
  [ OCT_LSTAT_WIDTH l, OCT_LSTAT_UP l, OCT_LSTAT_RETRAIN l, OCT_LSTAT_DIR l, OCT_LSTAT_REPLAYS l]

/-! `OCT_LDELAY` (R472). -/
def OCT_LDELAY_DELAY (l : Nat) : Fd := ⟨0x34000104 + 256 * (l % 16), 0, 16, .ro, 0⟩
/-- The fields of `OCT_LDELAY`, lowest bit first. -/
def OCT_LDELAY (l : Nat) : List Fd :=
  [ OCT_LDELAY_DELAY l]

/-! `OX_DESC` (R473). -/
def OX_DESC_WORD (c s w : Nat) : Fd := ⟨cluCsr c + 0x1a00 + 32 * (s % 16) + 4 * (w % 8), 0, 32, .rw, 0⟩
/-- The fields of `OX_DESC`, lowest bit first. -/
def OX_DESC (c s w : Nat) : List Fd :=
  [ OX_DESC_WORD c s w]

/-! `OX_POST` (R473). -/
def OX_POST_SLOT (c : Nat) : Fd := ⟨cluCsr c + 0x1c00, 0, 4, .wo, 0⟩
/-- The fields of `OX_POST`, lowest bit first. -/
def OX_POST (c : Nat) : List Fd :=
  [ OX_POST_SLOT c]

/-! `OX_SLOT` (R473). -/
def OX_SLOT_BUSY (c s : Nat) : Fd := ⟨cluCsr c + 0x1c40 + 4 * (s % 16), 0, 1, .ro, 0⟩
def OX_SLOT_STATUS (c s : Nat) : Fd := ⟨cluCsr c + 0x1c40 + 4 * (s % 16), 1, 4, .ro, 0⟩
def OX_SLOT_WIGN (c s : Nat) : Fd := ⟨cluCsr c + 0x1c40 + 4 * (s % 16), 5, 1, .w1c, 0⟩
/-- The fields of `OX_SLOT`, lowest bit first. -/
def OX_SLOT (c s : Nat) : List Fd :=
  [ OX_SLOT_BUSY c s, OX_SLOT_STATUS c s, OX_SLOT_WIGN c s]

/-! `RX_IDX` (R473). -/
def RX_IDX_HEAD (c : Nat) : Fd := ⟨cluCsr c + 0x1d00, 0, 16, .ro, 0⟩
def RX_IDX_TAIL (c : Nat) : Fd := ⟨cluCsr c + 0x1d00, 16, 16, .rw, 0⟩
/-- The fields of `RX_IDX`, lowest bit first. -/
def RX_IDX (c : Nat) : List Fd :=
  [ RX_IDX_HEAD c, RX_IDX_TAIL c]

/-! `TX_IDX` (R473). -/
def TX_IDX_HEAD (c : Nat) : Fd := ⟨cluCsr c + 0x1d04, 0, 16, .rw, 0⟩
def TX_IDX_DONE (c : Nat) : Fd := ⟨cluCsr c + 0x1d04, 16, 16, .ro, 0⟩
/-- The fields of `TX_IDX`, lowest bit first. -/
def TX_IDX (c : Nat) : List Fd :=
  [ TX_IDX_HEAD c, TX_IDX_DONE c]

/-! `BARN_STAT` (R500). -/
def BARN_STAT_STATE : Fd := ⟨0x30000000, 0, 2, .ro, 0⟩
def BARN_STAT_IDLE : Fd := ⟨0x30000000, 2, 1, .ro, 0⟩
def BARN_STAT_REBUILD : Fd := ⟨0x30000000, 3, 1, .ro, 0⟩
def BARN_STAT_CH_OUT : Fd := ⟨0x30000000, 8, 8, .ro, 0⟩
/-- The fields of `BARN_STAT`, lowest bit first. -/
def BARN_STAT : List Fd :=
  [ BARN_STAT_STATE, BARN_STAT_IDLE, BARN_STAT_REBUILD, BARN_STAT_CH_OUT]

/-! `BARN_BALES` (R500). -/
def BARN_BALES_BALES : Fd := ⟨0x30000004, 0, 17, .ro, 0⟩
/-- The fields of `BARN_BALES`, lowest bit first. -/
def BARN_BALES : List Fd :=
  [ BARN_BALES_BALES]

/-! `BARN_BLK` (R500). -/
def BARN_BLK_BLOCKS (i : Nat) : Fd := ⟨0x30000010 + 4 * (i % 5), 0, 32, .ro, 0⟩
/-- The fields of `BARN_BLK`, lowest bit first. -/
def BARN_BLK (i : Nat) : List Fd :=
  [ BARN_BLK_BLOCKS i]

/-! `BARN_ECC` (R500). -/
def BARN_ECC_RETRIES : Fd := ⟨0x30000030, 0, 16, .rc, 0⟩
def BARN_ECC_UE : Fd := ⟨0x30000030, 16, 16, .rc, 0⟩
/-- The fields of `BARN_ECC`, lowest bit first. -/
def BARN_ECC : List Fd :=
  [ BARN_ECC_RETRIES, BARN_ECC_UE]

/-! `BARN_SCRUB` (R500). -/
def BARN_SCRUB_MARGIN : Fd := ⟨0x30000034, 0, 8, .rw, 60⟩
def BARN_SCRUB_SHARE : Fd := ⟨0x30000034, 8, 4, .rw, 1⟩
def BARN_SCRUB_RELOCS : Fd := ⟨0x30000034, 16, 16, .rc, 0⟩
/-- The fields of `BARN_SCRUB`, lowest bit first. -/
def BARN_SCRUB : List Fd :=
  [ BARN_SCRUB_MARGIN, BARN_SCRUB_SHARE, BARN_SCRUB_RELOCS]

/-! `BARN_WEAR` (R500). -/
def BARN_WEAR_SPREAD : Fd := ⟨0x30000038, 0, 16, .rw, 500⟩
def BARN_WEAR_MOVES : Fd := ⟨0x30000038, 16, 16, .rc, 0⟩
/-- The fields of `BARN_WEAR`, lowest bit first. -/
def BARN_WEAR : List Fd :=
  [ BARN_WEAR_SPREAD, BARN_WEAR_MOVES]

/-! `BARN_CTL` (R500). -/
def BARN_CTL_REBUILD : Fd := ⟨0x30000040, 0, 1, .wo, 0⟩
/-- The fields of `BARN_CTL`, lowest bit first. -/
def BARN_CTL : List Fd :=
  [ BARN_CTL_REBUILD]

/-! `BARN_CH` (R500). -/
def BARN_CH_STATE (ch : Nat) : Fd := ⟨0x30001000 + 4 * (ch % 128), 0, 2, .ro, 0⟩
def BARN_CH_MODE (ch : Nat) : Fd := ⟨0x30001000 + 4 * (ch % 128), 2, 1, .ro, 0⟩
def BARN_CH_TARGETS (ch : Nat) : Fd := ⟨0x30001000 + 4 * (ch % 128), 3, 4, .ro, 0⟩
def BARN_CH_RATE_MTS (ch : Nat) : Fd := ⟨0x30001000 + 4 * (ch % 128), 8, 12, .ro, 0⟩
def BARN_CH_CAUSE (ch : Nat) : Fd := ⟨0x30001000 + 4 * (ch % 128), 20, 4, .ro, 0⟩
/-- The fields of `BARN_CH`, lowest bit first. -/
def BARN_CH (ch : Nat) : List Fd :=
  [ BARN_CH_STATE ch, BARN_CH_MODE ch, BARN_CH_TARGETS ch, BARN_CH_RATE_MTS ch, BARN_CH_CAUSE ch]

/-! `BARN_HDESC` (R500). -/
def BARN_HDESC_WORD (s w : Nat) : Fd := ⟨0x30000400 + 32 * (s % 8) + 4 * (w % 8), 0, 32, .rw, 0⟩
/-- The fields of `BARN_HDESC`, lowest bit first. -/
def BARN_HDESC (s w : Nat) : List Fd :=
  [ BARN_HDESC_WORD s w]

/-! `BARN_HPOST` (R500). -/
def BARN_HPOST_SLOT : Fd := ⟨0x30000500, 0, 3, .wo, 0⟩
/-- The fields of `BARN_HPOST`, lowest bit first. -/
def BARN_HPOST : List Fd :=
  [ BARN_HPOST_SLOT]

/-! `BARN_HSLOT` (R500). -/
def BARN_HSLOT_BUSY (s : Nat) : Fd := ⟨0x30000540 + 4 * (s % 8), 0, 1, .ro, 0⟩
def BARN_HSLOT_STATUS (s : Nat) : Fd := ⟨0x30000540 + 4 * (s % 8), 1, 4, .ro, 0⟩
def BARN_HSLOT_WIGN (s : Nat) : Fd := ⟨0x30000540 + 4 * (s % 8), 5, 1, .w1c, 0⟩
/-- The fields of `BARN_HSLOT`, lowest bit first. -/
def BARN_HSLOT (s : Nat) : List Fd :=
  [ BARN_HSLOT_BUSY s, BARN_HSLOT_STATUS s, BARN_HSLOT_WIGN s]

/-! `BN_DESC` (R501). -/
def BN_DESC_WORD (c s w : Nat) : Fd := ⟨cluCsr c + 0x1e00 + 32 * (s % 8) + 4 * (w % 8), 0, 32, .rw, 0⟩
/-- The fields of `BN_DESC`, lowest bit first. -/
def BN_DESC (c s w : Nat) : List Fd :=
  [ BN_DESC_WORD c s w]

/-! `BN_POST` (R501). -/
def BN_POST_SLOT (c : Nat) : Fd := ⟨cluCsr c + 0x1f00, 0, 3, .wo, 0⟩
/-- The fields of `BN_POST`, lowest bit first. -/
def BN_POST (c : Nat) : List Fd :=
  [ BN_POST_SLOT c]

/-! `BN_SLOT` (R501). -/
def BN_SLOT_BUSY (c s : Nat) : Fd := ⟨cluCsr c + 0x1f40 + 4 * (s % 8), 0, 1, .ro, 0⟩
def BN_SLOT_STATUS (c s : Nat) : Fd := ⟨cluCsr c + 0x1f40 + 4 * (s % 8), 1, 4, .ro, 0⟩
def BN_SLOT_WIGN (c s : Nat) : Fd := ⟨cluCsr c + 0x1f40 + 4 * (s % 8), 5, 1, .w1c, 0⟩
/-- The fields of `BN_SLOT`, lowest bit first. -/
def BN_SLOT (c s : Nat) : List Fd :=
  [ BN_SLOT_BUSY c s, BN_SLOT_STATUS c s, BN_SLOT_WIGN c s]

/-! `IMG_STAT` (R524). -/
def IMG_STAT_SRC : Fd := ⟨0x600, 0, 2, .ro, 0⟩
def IMG_STAT_VERIFIED : Fd := ⟨0x600, 2, 1, .ro, 0⟩
def IMG_STAT_ENROLLED : Fd := ⟨0x600, 3, 1, .ro, 0⟩
def IMG_STAT_REASON : Fd := ⟨0x600, 4, 4, .ro, 0⟩
def IMG_STAT_SECTIONS : Fd := ⟨0x600, 8, 8, .ro, 0⟩
def IMG_STAT_BADSECT : Fd := ⟨0x600, 16, 8, .ro, 0⟩
/-- The fields of `IMG_STAT`, lowest bit first. -/
def IMG_STAT : List Fd :=
  [ IMG_STAT_SRC, IMG_STAT_VERIFIED, IMG_STAT_ENROLLED, IMG_STAT_REASON, IMG_STAT_SECTIONS, IMG_STAT_BADSECT]

/-! `IMG_VER` (R524). -/
def IMG_VER_IMGVER : Fd := ⟨0x604, 0, 32, .ro, 0⟩
/-- The fields of `IMG_VER`, lowest bit first. -/
def IMG_VER : List Fd :=
  [ IMG_VER_IMGVER]

/-! `IMG_LEN` (R524). -/
def IMG_LEN_LEN : Fd := ⟨0x608, 0, 32, .ro, 0⟩
/-- The fields of `IMG_LEN`, lowest bit first. -/
def IMG_LEN : List Fd :=
  [ IMG_LEN_LEN]

/-! `IMG_DIGEST` (R524). -/
def IMG_DIGEST_WORD (i : Nat) : Fd := ⟨0x610 + 4 * (i % 16), 0, 32, .ro, 0⟩
/-- The fields of `IMG_DIGEST`, lowest bit first. -/
def IMG_DIGEST (i : Nat) : List Fd :=
  [ IMG_DIGEST_WORD i]

/-! `OWN_STAT` (R524). -/
def OWN_STAT_PROG : Fd := ⟨0x650, 0, 4, .ro, 0⟩
def OWN_STAT_COMMIT : Fd := ⟨0x650, 4, 4, .ro, 0⟩
def OWN_STAT_REVOKED : Fd := ⟨0x650, 8, 4, .ro, 0⟩
def OWN_STAT_INFORCE : Fd := ⟨0x650, 12, 2, .ro, 0⟩
def OWN_STAT_NOOWNER : Fd := ⟨0x650, 14, 1, .ro, 1⟩
/-- The fields of `OWN_STAT`, lowest bit first. -/
def OWN_STAT : List Fd :=
  [ OWN_STAT_PROG, OWN_STAT_COMMIT, OWN_STAT_REVOKED, OWN_STAT_INFORCE, OWN_STAT_NOOWNER]

/-! `OWN_HASH` (R524). -/
def OWN_HASH_WORD (i : Nat) : Fd := ⟨0x660 + 4 * (i % 8), 0, 32, .ro, 0⟩
/-- The fields of `OWN_HASH`, lowest bit first. -/
def OWN_HASH (i : Nat) : List Fd :=
  [ OWN_HASH_WORD i]

/-! `ID_DIGEST` (R524). -/
def ID_DIGEST_WORD (i : Nat) : Fd := ⟨0x680 + 4 * (i % 8), 0, 32, .ro, 0⟩
/-- The fields of `ID_DIGEST`, lowest bit first. -/
def ID_DIGEST (i : Nat) : List Fd :=
  [ ID_DIGEST_WORD i]

/-! `IMG_XFER` (R524). -/
def IMG_XFER_STATE : Fd := ⟨0x6a0, 0, 2, .ro, 0⟩
def IMG_XFER_KIB : Fd := ⟨0x6a0, 8, 24, .ro, 0⟩
/-- The fields of `IMG_XFER`, lowest bit first. -/
def IMG_XFER : List Fd :=
  [ IMG_XFER_STATE, IMG_XFER_KIB]

/-! `MAN_STAT` (R524). -/
def MAN_STAT_POSTED : Fd := ⟨0x6a4, 0, 16, .ro, 0⟩
def MAN_STAT_MISSING : Fd := ⟨0x6a4, 16, 8, .ro, 0⟩
def MAN_STAT_MISMATCH : Fd := ⟨0x6a4, 24, 8, .ro, 0⟩
/-- The fields of `MAN_STAT`, lowest bit first. -/
def MAN_STAT : List Fd :=
  [ MAN_STAT_POSTED, MAN_STAT_MISSING, MAN_STAT_MISMATCH]

/-! `PWR_IIN` (R540). -/
def PWR_IIN_IIN : Fd := ⟨0x3c00000c, 0, 12, .ro, 0⟩
def PWR_IIN_IPEAK : Fd := ⟨0x3c00000c, 16, 12, .rc, 0⟩
def PWR_IIN_OVER : Fd := ⟨0x3c00000c, 28, 4, .rc, 0⟩
/-- The fields of `PWR_IIN`, lowest bit first. -/
def PWR_IIN : List Fd :=
  [ PWR_IIN_IIN, PWR_IIN_IPEAK, PWR_IIN_OVER]

/-! `MOD_PINS` (R540). -/
def MOD_PINS_PWRWARN : Fd := ⟨0x700, 0, 1, .ro, 1⟩
def MOD_PINS_REFOK : Fd := ⟨0x700, 1, 1, .ro, 0⟩
def MOD_PINS_PPSIN : Fd := ⟨0x700, 2, 1, .ro, 0⟩
def MOD_PINS_FAULT : Fd := ⟨0x700, 3, 1, .ro, 0⟩
def MOD_PINS_I3C_DA : Fd := ⟨0x700, 4, 7, .ro, 0⟩
/-- The fields of `MOD_PINS`, lowest bit first. -/
def MOD_PINS : List Fd :=
  [ MOD_PINS_PWRWARN, MOD_PINS_REFOK, MOD_PINS_PPSIN, MOD_PINS_FAULT, MOD_PINS_I3C_DA]

/-! `I3C_CFG` (R540). -/
def I3C_CFG_IBI : Fd := ⟨0x704, 0, 1, .rw, 1⟩
def I3C_CFG_CMD : Fd := ⟨0x704, 1, 1, .rw, 1⟩
/-- The fields of `I3C_CFG`, lowest bit first. -/
def I3C_CFG : List Fd :=
  [ I3C_CFG_IBI, I3C_CFG_CMD]

/-- The fields at offset `o` of the block of logical core `n`. -/
def coreFields (n : Nat) (o : Nat) : List Fd :=
  if o = 0x0 then CORE_MAP n else
  if 0x200 ≤ o ∧ o < 0x240 ∧ (o - 0x200) % 4 = 0 then GSTAT n ((o - 0x200) / 4) else
  if o = 0x300 then ARRAY_COLS n else
  if o = 0x310 then ARRAY_VALID n else
  if o = 0x314 then ARRAY_BUBBLE n else
  if o = 0x318 then ARRAY_STATE n else
  if o = 0x400 then VEC_STAT n else
  if o = 0x404 then VEC_RESV n else
  if o = 0x408 then VEC_PRESV n else
  if o = 0x500 then CC_STAT n else
  if o = 0x504 then CC_EPC n else
  if o = 0x508 then CC_FSUM n else
  if o = 0x50c then CC_WDOG n else
  if o = 0x510 then CC_IHOLD n else
  if o = 0x514 then CC_CLK n else
  if o = 0x518 then CC_CCR n else
  if 0x520 ≤ o ∧ o < 0x560 ∧ (o - 0x520) % 4 = 0 then CC_CRED n ((o - 0x520) / 4) else
  if 0x600 ≤ o ∧ o < 0x614 ∧ (o - 0x600) % 4 = 0 then EQ_QSTAT n ((o - 0x600) / 4) else
  if o = 0x614 then EQ_TMO n else
  if o = 0x618 then EQ_TXN n else
  if 0x680 ≤ o ∧ o < 0x688 ∧ (o - 0x680) % 4 = 0 then MV_STAT n ((o - 0x680) / 4) else
  if 0x688 ≤ o ∧ o < 0x690 ∧ (o - 0x688) % 4 = 0 then MV_BYTES n ((o - 0x688) / 4) else
  if 0x700 ≤ o ∧ o < 0xb00 ∧ (o - 0x700) % 512 % 32 = 0 ∧ (o - 0x700) % 512 / 32 < 16 then AP_BASEL n ((o - 0x700) / 512) ((o - 0x700) % 512 / 32) else
  if 0x704 ≤ o ∧ o < 0xb04 ∧ (o - 0x704) % 512 % 32 = 0 ∧ (o - 0x704) % 512 / 32 < 16 then AP_BASEH n ((o - 0x704) / 512) ((o - 0x704) % 512 / 32) else
  if 0x708 ≤ o ∧ o < 0xb08 ∧ (o - 0x708) % 512 % 32 = 0 ∧ (o - 0x708) % 512 / 32 < 16 then AP_LIMIT n ((o - 0x708) / 512) ((o - 0x708) % 512 / 32) else
  if 0x70c ≤ o ∧ o < 0xb0c ∧ (o - 0x70c) % 512 % 32 = 0 ∧ (o - 0x70c) % 512 / 32 < 16 then AP_STEP n ((o - 0x70c) / 512) ((o - 0x70c) % 512 / 32) else
  if 0x710 ≤ o ∧ o < 0xb10 ∧ (o - 0x710) % 512 % 32 = 0 ∧ (o - 0x710) % 512 / 32 < 16 then AP_COMMIT n ((o - 0x710) / 512) ((o - 0x710) % 512 / 32) else
  if 0x714 ≤ o ∧ o < 0xb14 ∧ (o - 0x714) % 512 % 32 = 0 ∧ (o - 0x714) % 512 / 32 < 16 then AP_PEND n ((o - 0x714) / 512) ((o - 0x714) % 512 / 32) else
  if 0x718 ≤ o ∧ o < 0xb18 ∧ (o - 0x718) % 512 % 32 = 0 ∧ (o - 0x718) % 512 / 32 < 16 then AP_STAT n ((o - 0x718) / 512) ((o - 0x718) % 512 / 32) else
  if o = 0xb00 then LOFT_ECC n else
  if o = 0xc00 then WN_CORE n else
  []

/-- R308: the sequencer's copies of the control-core registers, at offset `o` of its block. -/
def seqCcFields (h o : Nat) : List Fd :=
  if o = 0x500 then CC_STAT h else
  if o = 0x504 then CC_EPC h else
  if o = 0x508 then CC_FSUM h else
  if o = 0x50c then CC_WDOG h else
  if o = 0x510 then CC_IHOLD h else
  if o = 0x514 then CC_CLK h else
  if o = 0x518 then CC_CCR h else
  if 0x520 ≤ o ∧ o < 0x560 ∧ (o - 0x520) % 4 = 0 then CC_CRED h ((o - 0x520) / 4) else
  []

/-- The fields at offset `o` from base `b` of a partition's registers (R434). -/
def partFields (b : Nat) (o : Nat) : List Fd :=
  if o = 0x0 then PART_CTL b else
  if o = 0x4 then PART_STAT b else
  if o = 0x8 then WN_CFG b else
  if o = 0xc then WN_SEED b else
  if o = 0x10 then WN_STAT b else
  if o = 0x14 then WN_CLASS b else
  if o = 0x20 then EV_RINGL b else
  if o = 0x24 then EV_RINGH b else
  if o = 0x28 then EV_IDX b else
  []

/-- The fields at offset `o` of the block of cluster `c`, its sequencer copies and its partition's registers apart. -/
def cluFields0 (c : Nat) (o : Nat) : List Fd :=
  if o = 0x0 then CLU_INFO c else
  if o = 0x100 then GRN_STAT c else
  if 0x104 ≤ o ∧ o < 0x114 ∧ (o - 0x104) % 4 = 0 then GRN_SPARE c ((o - 0x104) / 4) else
  if o = 0x114 then GRN_BADL c else
  if o = 0x118 then GRN_BADH c else
  if o = 0x11c then GRN_ECC c else
  if o = 0x120 then GRN_SCRUB c else
  if 0x20000 ≤ o ∧ o < 0x22000 ∧ (o - 0x20000) % 32 % 4 = 0 ∧ (o - 0x20000) % 32 / 4 < 8 then SHF_DESC c ((o - 0x20000) / 32) ((o - 0x20000) % 32 / 4) else
  if 0x22000 ≤ o ∧ o < 0x22800 ∧ (o - 0x22000) % 8 = 0 then SHF_CTL c ((o - 0x22000) / 8) else
  if 0x22004 ≤ o ∧ o < 0x22804 ∧ (o - 0x22004) % 8 = 0 then SHF_STAT c ((o - 0x22004) / 8) else
  if o = 0x300 then CLK_CTL c else
  if o = 0x304 then CLK_STAT c else
  if o = 0x308 then CLK_STRETCH c else
  if o = 0x30c then TIME_ERR c else
  if o = 0x310 then TIME_PATH c else
  if o = 0x1000 then SEQ_CTL c else
  if o = 0x1008 then SEQ_STAT c else
  if o = 0x100c then SEQ_DROP c else
  if o = 0x1010 then SEQ_SLACK c else
  if o = 0x1014 then SEQ_HALTED c else
  if o = 0x1018 then SEQ_EXCM c else
  if o = 0x101c then KN_STAT c else
  if 0x1100 ≤ o ∧ o < 0x1180 ∧ (o - 0x1100) % 16 = 0 then SEQ_BAR c ((o - 0x1100) / 16) else
  if 0x1104 ≤ o ∧ o < 0x1184 ∧ (o - 0x1104) % 16 = 0 then SEQ_BRMASK c ((o - 0x1104) / 16) else
  if 0x1108 ≤ o ∧ o < 0x1188 ∧ (o - 0x1108) % 16 = 0 then SEQ_BRCTL c ((o - 0x1108) / 16) else
  if o = 0x400 then REG_STAT c else
  if o = 0x404 then REG_OC c else
  if o = 0x408 then REG_VT c else
  if o = 0x500 then PST_STAT c else
  if o = 0x504 then PST_CTL c else
  if o = 0x508 then PST_TMR c else
  if o = 0x50c then PST_CNT c else
  if o = 0x510 then CLU_THERM c else
  if o = 0x600 then START_TEST c else
  if o = 0x1900 then WN_RETIRE c else
  if o = 0x1904 then WN_PEND c else
  if 0x1a00 ≤ o ∧ o < 0x1c00 ∧ (o - 0x1a00) % 32 % 4 = 0 ∧ (o - 0x1a00) % 32 / 4 < 8 then OX_DESC c ((o - 0x1a00) / 32) ((o - 0x1a00) % 32 / 4) else
  if o = 0x1c00 then OX_POST c else
  if 0x1c40 ≤ o ∧ o < 0x1c80 ∧ (o - 0x1c40) % 4 = 0 then OX_SLOT c ((o - 0x1c40) / 4) else
  if o = 0x1d00 then RX_IDX c else
  if o = 0x1d04 then TX_IDX c else
  if 0x1e00 ≤ o ∧ o < 0x1f00 ∧ (o - 0x1e00) % 32 % 4 = 0 ∧ (o - 0x1e00) % 32 / 4 < 8 then BN_DESC c ((o - 0x1e00) / 32) ((o - 0x1e00) % 32 / 4) else
  if o = 0x1f00 then BN_POST c else
  if 0x1f40 ≤ o ∧ o < 0x1f60 ∧ (o - 0x1f40) % 4 = 0 then BN_SLOT c ((o - 0x1f40) / 4) else
  []

/-- The fields at offset `o` of the block of field `f`. -/
def fldFields (f : Nat) (o : Nat) : List Fd :=
  if o = 0x0 then FIELD_INFO f else
  if 0x1000 ≤ o ∧ o < 0x1080 ∧ (o - 0x1000) % 64 = 0 then HBM_STAT f ((o - 0x1000) / 64) else
  if 0x1004 ≤ o ∧ o < 0x1084 ∧ (o - 0x1004) % 64 = 0 then HBM_ECC f ((o - 0x1004) / 64) else
  if o = 0x2000 then MESH_RETRY f else
  if o = 0x2004 then MESH_ABSORB f else
  if o = 0x3000 then XING_SLIP f else
  if o = 0x4000 then PWR_WAKE f else
  if o = 0x4004 then PWR_WAKE_CNT f else
  if o = 0x4008 then FIELD_THERM f else
  if o = 0x5000 then LINK_QUAL f else
  []

/-- The fields at offset `o` of the block of corner die position `p`. -/
def cdieFields (p : Nat) (o : Nat) : List Fd :=
  if o = 0x0 then CDIE_ID p else
  if o = 0x4 then CDIE_LINKQ p else
  []

/-- The fields at offset `o` of the device and management block, the rings and the partitions apart. -/
def mgmtFields (o : Nat) : List Fd :=
  if o = 0x40 then DEV_GRADE else
  if o = 0x44 then DEV_PLIMIT else
  if o = 0x100 then HBM_MAP else
  if o = 0x200 then MESH_VCW else
  if o = 0x204 then MESH_STAT else
  if o = 0x300 then TIME_NOWL else
  if o = 0x304 then TIME_NOWH else
  if o = 0x308 then TIME_STAT else
  if o = 0x30c then TIME_OFS else
  if o = 0x310 then TIME_RATE else
  if o = 0x314 then TIME_EPOCH0 else
  if o = 0x318 then TIME_EPOCH1 else
  if o = 0x31c then TIME_EPOCH2 else
  if o = 0x320 then PTP_CFG else
  if o = 0x400 then BOOT_STAT else
  if o = 0x404 then BOOT_TIME else
  if o = 0x408 then FUSE_STAT else
  if o = 0x40c then BOOT_DISC else
  if o = 0x410 then BOOT_IMGL else
  if o = 0x414 then BOOT_IMGH else
  if o = 0x418 then CDIE_COMMON else
  if o = 0x500 then EV_ALARM else
  if o = 0x504 then EV_DROP else
  if o = 0x508 then EV_CFG else
  if o = 0x520 then LEDGER_STAT else
  if o = 0x600 then IMG_STAT else
  if o = 0x604 then IMG_VER else
  if o = 0x608 then IMG_LEN else
  if 0x610 ≤ o ∧ o < 0x650 ∧ (o - 0x610) % 4 = 0 then IMG_DIGEST ((o - 0x610) / 4) else
  if o = 0x650 then OWN_STAT else
  if 0x660 ≤ o ∧ o < 0x680 ∧ (o - 0x660) % 4 = 0 then OWN_HASH ((o - 0x660) / 4) else
  if 0x680 ≤ o ∧ o < 0x6a0 ∧ (o - 0x680) % 4 = 0 then ID_DIGEST ((o - 0x680) / 4) else
  if o = 0x6a0 then IMG_XFER else
  if o = 0x6a4 then MAN_STAT else
  if o = 0x700 then MOD_PINS else
  if o = 0x704 then I3C_CFG else
  []

/-- The fields of the barn, Octoon, Ethernet and power blocks, at CSR offset `o`. -/
def topFields (o : Nat) : List Fd :=
  if o = 0x3c000000 then PWR_IN else
  if o = 0x3c000004 then PWR_ALERT else
  if o = 0x3c000008 then PWR_MARGIN else
  if o = 0x3c000010 then TEL_RING0 else
  if o = 0x3c000014 then TEL_RING1 else
  if o = 0x3c000018 then TEL_STAT else
  if 0x3c004000 ≤ o ∧ o < 0x3c004740 ∧ (o - 0x3c004000) % 4 = 0 then TEL_LAST ((o - 0x3c004000) / 4) else
  if 0x3c001000 ≤ o ∧ o < 0x3c001400 ∧ (o - 0x3c001000) % 64 = 0 then VPM_FSTAT ((o - 0x3c001000) / 64) else
  if 0x3c001004 ≤ o ∧ o < 0x3c001404 ∧ (o - 0x3c001004) % 64 = 0 then VPM_FSENSE ((o - 0x3c001004) / 64) else
  if o = 0x3c000100 then CAP_CTL else
  if o = 0x3c000104 then CAP_FLOOR0 else
  if o = 0x3c000108 then CAP_FLOOR1 else
  if o = 0x3c00010c then CAP_STAT else
  if o = 0x3c000110 then CAP_ALLOC0 else
  if o = 0x3c000114 then CAP_ALLOC1 else
  if o = 0x3c000120 then KW_CTL else
  if o = 0x3c000124 then KW_STAT else
  if o = 0x3c000128 then STOOK else
  if o = 0x38000000 then ETH_STAT else
  if o = 0x38000004 then ETH_DROP else
  if o = 0x38000100 then CADDY_STAT else
  if o = 0x34000000 then OCT_SYS else
  if 0x34000100 ≤ o ∧ o < 0x34001100 ∧ (o - 0x34000100) % 256 = 0 then OCT_LSTAT ((o - 0x34000100) / 256) else
  if 0x34000104 ≤ o ∧ o < 0x34001104 ∧ (o - 0x34000104) % 256 = 0 then OCT_LDELAY ((o - 0x34000104) / 256) else
  if o = 0x30000000 then BARN_STAT else
  if o = 0x30000004 then BARN_BALES else
  if 0x30000010 ≤ o ∧ o < 0x30000024 ∧ (o - 0x30000010) % 4 = 0 then BARN_BLK ((o - 0x30000010) / 4) else
  if o = 0x30000030 then BARN_ECC else
  if o = 0x30000034 then BARN_SCRUB else
  if o = 0x30000038 then BARN_WEAR else
  if o = 0x30000040 then BARN_CTL else
  if 0x30001000 ≤ o ∧ o < 0x30001200 ∧ (o - 0x30001000) % 4 = 0 then BARN_CH ((o - 0x30001000) / 4) else
  if 0x30000400 ≤ o ∧ o < 0x30000500 ∧ (o - 0x30000400) % 32 % 4 = 0 ∧ (o - 0x30000400) % 32 / 4 < 8 then BARN_HDESC ((o - 0x30000400) / 32) ((o - 0x30000400) % 32 / 4) else
  if o = 0x30000500 then BARN_HPOST else
  if 0x30000540 ≤ o ∧ o < 0x30000560 ∧ (o - 0x30000540) % 4 = 0 then BARN_HSLOT ((o - 0x30000540) / 4) else
  if o = 0x3c00000c then PWR_IIN else
  []

/-- R30–R31: the fields of the register at CSR offset `off`; none where no register lies. A cluster's window on
its partition's registers is not followed here (`State.homeOff` does that). -/
def fieldsAt (off : Nat) : List Fd :=
  if off < 0x1000000 then
    if off = 0x510 then EV_RINGL devRing else if off = 0x514 then EV_RINGH devRing
    else if off = 0x518 then EV_IDX devRing
    else if 0x10000 ≤ off ∧ off < 0x12000 then partFields (partCsr ((off - 0x10000) / 0x100)) (off % 0x100)
    else mgmtFields off
  else if off < 0x2000000 then fldFields (off / 0x100000 % 16) (off % 0x100000)
  else if 0x10000000 ≤ off ∧ off < 0x12000000 then
    let c := (off - 0x10000000) / 0x100000
    let o := off % 0x100000
    if 0x80000 ≤ o ∧ o < 0xA0000 then coreFields (32 * c + (o - 0x80000) / 0x1000) (o % 0x1000)
    else if 0x1500 ≤ o ∧ o < 0x1560 then seqCcFields (1024 + c) (o - 0x1000)
    else cluFields0 c o
  else if 0x20000000 ≤ off ∧ off < 0x24000000 then cdieFields (off / 0x1000000 % 4) (off % 0x1000000)
  else if 0x30000000 ≤ off then topFields off
  else []

/-- R30, R32: the CSR offset lies in some block. -/
def csrInBlock (off : Nat) : Bool :=
  off < 0x2000000 || (0x10000000 ≤ off && off < 0x12000000) || (0x20000000 ≤ off && off < 0x24000000)
    || (0x30000000 ≤ off && off < 0x40000000)

end Sys2Proof.Machine
end

