-- ==== Sys2Proof/Machine/Store.lean ====
section
/-!
DEFINITION. Sparse storage: a list of keys and values, keys rising, where an unlisted key reads as a default.
Memories, register files and tables of units are all held this way, so that a state is plain data.
-/

namespace Sys2Proof.Machine

/-- A table from numbers to values; an unlisted key holds the default its reader names. -/
abbrev Store (α : Type) := List (Nat × α)

/-- The value at key `j`, or `d` where none is listed. -/
def Store.get {α : Type} (d : α) : Store α → Nat → α
  | [], _ => d
  | (k, v) :: r, j => if j = k then v else Store.get d r j

/-- The table without key `j`. -/
def Store.del {α : Type} : Store α → Nat → Store α
  | [], _ => []
  | (k, v) :: r, j => if j = k then Store.del r j else (k, v) :: Store.del r j

/-- The table with `w` at key `j`, in its place in rising order. -/
def Store.put {α : Type} : Store α → Nat → α → Store α
  | [], j, w => [(j, w)]
  | (k, v) :: r, j, w =>
    if j < k then (j, w) :: (k, v) :: r
    else if j = k then (k, w) :: r
    else (k, v) :: Store.put r j w

/-- Writing the default removes the entry, so that equal tables are equal lists. -/
def Store.set {α : Type} [DecidableEq α] (d : α) (m : Store α) (j : Nat) (w : α) : Store α :=
  if w = d then Store.del m j else Store.put m j w

/-- The table without the keys for which `p` holds. -/
def Store.drop {α : Type} (m : Store α) (p : Nat → Bool) : Store α := m.filter fun e => !p e.1

/-- Keys strictly rising and no entry equal to the default: the one form of a table. -/
def Store.canon {α : Type} [DecidableEq α] (d : α) : Store α → Bool
  | [] => true
  | (_, v) :: [] => v ≠ d
  | (k, v) :: (k', v') :: r => (v ≠ d) && (k < k') && Store.canon d ((k', v') :: r)

end Sys2Proof.Machine
end

