-- ==== Sys2Proof/Machine/State.lean ====
section
/-!
DEFINITION. The state of the part: plain data, holding every register (as fields, see Machine/Regs.lean), every
memory, queue, buffer, table and pin the spec gives it, the packets and flits on their way, the queue of commands
that wait, and the model's own counter of free values. State.reset is the machine right after reset.
-/

namespace Sys2Proof.Machine

/-- The part never stops with a fault: every case the spec names ends in a status, an event or a refusal of the
operation by the part itself, which is a next state. -/
inductive Fault where
deriving DecidableEq, Repr

/-- Why the model gives a command no meaning. -/
inductive Refusal where
  /-- Raised by `exec` for a row whose meaning is not written yet; safe, since the run stops. -/
  | notModelled (mnemonic : String)
deriving DecidableEq, Repr

/-- Completion statuses of R173, in the numbering of R134. -/
inductive Status where
  | ok | absent | state | ecc | aborted | late | timeout | range | sat
deriving DecidableEq, Repr

/-- R134: the number of a status. -/
def Status.code : Status → Nat
  | .ok => 0 | .absent => 1 | .state => 2 | .ecc => 3 | .aborted => 4
  | .late => 5 | .timeout => 6 | .range => 7 | .sat => 8

/-- How far a command has come (R139, R161, R171): pushed; issued; its effects done, its record still to be
written. A command whose record is written leaves the list. -/
inductive Phase where
  | waiting | issued | ran
deriving DecidableEq, Repr

/-- The sticky flags of R51, as a command reports them (R169). -/
structure Flags where
  sat : Bool
  nonfin : Bool
  guard : Bool
  lost : Bool
deriving DecidableEq, Repr

/-- A command held in an engine queue or in a sequencer's issue queue (R139, R162, R310). -/
structure Cmd where
  id : Nat               -- push order over all queues of the agent
  q : Nat                -- queue 0–4 (R134), or target tq 0–11 of a sequencer (R310)
  words : List Word      -- the eight words, X and Y already applied (R139)
  xy : Bool              -- pushed with X or Y set
  launch : Nat           -- launch time captured when PUSH retired (R162), in ns of DTIME × 2^16
  sb : Word              -- captured scalar of operand B (R181)
  sx : Word              -- captured scalar of the predicate comparison
  sy : Word              -- captured second scalar operand
  phase : Phase
  sts : List Status      -- statuses that apply so far (R174)
  flags : Flags
  clkint : Bool          -- issued while the cluster ran from the oscillator (R169)
  result : Nat           -- RESULT (R170)
  extS : Option (Nat × Nat) -- narrowed extent of a source tile or region run (R544): first and last unit
  extD : Option (Nat × Nat) -- the same of a destination tile run
  wait : Nat             -- held IMEM writes of this command not yet written (R152)
  fixed : Bool           -- a stream command whose status is fixed and which only takes its entries (R545)
  since : Nat            -- DTIME of its issue
  pos : Nat              -- position of a stream's consecutive side (R200); PENDING at the issue of an APPEND (R204)
deriving DecidableEq, Repr

/-- A completion record waiting to be popped (R169); `q` is its queue, 15 for a record copy of a core (R312). -/
structure Rec where
  q : Nat
  w0 : Word
  w1 : Word
  w2 : Word
  w3 : Word
deriving DecidableEq, Repr

/-- An entry of an address queue (R143, R199): mover, offset, byte length, LAST. -/
structure AqEntry where
  m : Nat
  off : Nat
  len : Nat
  last : Bool
deriving DecidableEq, Repr

/-- A packet of the mesh on its way (R246, R247): TYPE, sender's partition, ADDR, CLS, TXID, sending core (0x3FF for
any other endpoint), GID, STATUS, SEG, CCOUNT, SCALE, FLAGS, SOP, VOID, LASTP and the payload, as grains in a SHEAF packet.
`src` is the sending control core, `dst` the unit it goes to, `addr` a device address; in a MCAST packet `seg` numbers
the member, in a SHEAF packet `txid` is the arming its port's entry names. `num` numbers the packet in the mesh, 0 for none;
`sp` and `dp` are the source and destination router and local port (R241), as 16 × router + port with router 16 × y + x. -/
structure Pkt where
  num : Nat
  sp : Nat
  dp : Nat
  typ : Nat
  part : Nat
  src : Nat
  dst : Nat
  addr : Nat
  len : Nat
  txid : Nat
  gid : Nat
  status : Status
  seg : Nat
  ccount : Nat
  scale : Int
  flags : Flags
  sop : Nat
  void : Bool
  lastp : Bool
  data : List Byte
  grains : List Int
deriving DecidableEq, Repr

/-- An Octoon packet (R461): its header words 0–6 and its payload. -/
structure OPkt where
  hdr : List Word
  data : List Byte
deriving DecidableEq, Repr

/-- Who waits for a held write (R152): nobody; a later write of the same packet, with which it is acknowledged; a mover's
command, by agent and id; the sender of a WRITE or MGMT packet; the source of a MCAST packet (R263); sheaf `i` rooted at
cluster `c` (R267); a packet at a corner die (R468), which goes on as one of link `l`. -/
inductive HeldBy where
  | none
  | more
  | cmd (h id : Nat)
  | req (p : Pkt)
  | landing (p : Pkt)
  | sheaf (c i : Nat)
  | octoon (l : Nat) (p : OPkt)
deriving DecidableEq, Repr

/-- A write held for the IMEM of a running core (R152): where, what, since when, and who waits for it. -/
structure HeldWrite where
  addr : Nat
  bytes : List Byte
  since : Nat
  by_ : HeldBy
deriving DecidableEq, Repr

/-- A weight set in the array (R72–R76): OP and weight format of its pass, and its lines' bytes and scales. -/
structure WeightSet where
  op : Nat
  fmt : Nat
  bytes : Store Byte
  scales : Store Byte
deriving DecidableEq, Repr

/-- A winnow sample (R405, R408): its source, witness and third core, the words of its pass, the region and rows
it covers, its operands, and the drained rows and flags of the source. -/
structure Sample where
  src : Nat
  wit : Nat
  third : Nat
  words : List Word
  region : Nat
  nrows : Nat
  act : Store Byte
  actScale : Store Byte
  wts : WeightSet
  rows : List Int
  flags : Flags
  landed : Nat
deriving DecidableEq, Repr

/-- A VC0 flit on its way or waiting at its port (R147, R171, R247). -/
inductive Flit where
  /-- `amt` credits for counter `cn` of logical core `core`, sent by partition `part`. -/
  | credit (part core cn amt : Nat)
  /-- An inbox word for the sequencer of cluster `clu`, with the source word of R324. -/
  | inbox (part clu : Nat) (w src : Word)
  /-- A record copy for the sequencer of cluster `clu` (R171). -/
  | copy (clu : Nat) (r : Rec)
  /-- The HALT report of core `n` with its code (R149). -/
  | halt (n code : Nat)
  /-- The exception report of core `n` with its cause (R150). -/
  | exc (n cause : Nat)
deriving DecidableEq, Repr

/-- A VC0 flit in the mesh: its number there, 0 on a sequencer bus (R313), and where it was injected, as 16 × router + port,
or 2,048 + cluster for that bus. -/
structure Flight where
  num : Nat
  src : Nat
  fl : Flit
deriving DecidableEq, Repr

/-- The VC0 side of a local port (R251): flits its endpoint may still inject, 0–2, and those that wait in order. -/
structure VPort where
  bucket : Nat
  queue : List Flit
deriving DecidableEq, Repr

def VPort.reset : VPort := ⟨2, []⟩

/-- The rest of a packet's route (R253, R273): the routers still to enter, each with the class of its buffer, ALT or normal, and
the port it is bound for. -/
structure Route where
  path : List (Nat × Bool)
  dp : Nat
deriving DecidableEq, Repr

/-- A flit of the mesh (R244) where it waits. -/
structure NFlit where
  num : Nat              -- its packet
  k : Nat                -- its number in the packet; 0 is the header flit
  last : Bool            -- the last bit of the sideband; the first bit is set where `k` is 0
  vc : Nat
  sheaf : Bool           -- of VC3: of a SHEAF packet, not of a MCAST
  words : List Word      -- its 64 bytes
  crc : Nat              -- CRC-16 over these and the sideband bits
  tos : List Route       -- its route, or those of the branches a MCAST still has to take
  node : Nat             -- the router
  inp : Nat              -- the input: 0 north, 1 east, 2 south, 3 west, 4 + p local port p
  alt : Bool             -- it waits in a buffer of the ALT class
  ready : Nat            -- the cycle from which it is there
  since : Nat            -- the cycle from which it waits there
  esc : Bool             -- escalated (R257)
deriving DecidableEq, Repr

/-- The routers of the mesh (R241–R257): cycles counted, the number of the next packet, the flits in order of arrival where they
wait; of each output the slots left to each VC (R250) and to each input (R256), the local port served last, and the packet whose
flits it passes on; and the field that the route tables in force avoid (R272). -/
structure Net where
  mc : Nat
  next : Nat
  flits : List NFlit
  quota : Store Nat      -- key (20 × router + output) × 6 + VC
  share : Store Nat      -- key ((20 × router + output) × 6 + VC) × 5 + input, 4 for the local one
  turn : Store Nat       -- key (20 × router + output) × 6 + VC
  lock : Store Nat       -- key (20 × router + output) × 24 + buffer class
  table : Option Nat
deriving DecidableEq, Repr

def Net.reset : Net := ⟨0, 1, [], [], [], [], [], none⟩

/-- What a control core holds beside its registers in the register file: one per logical core and sequencer. -/
structure Hart where
  sregs : Store Word             -- S0–S31 (R123)
  aregs : Store Off48            -- A0–A15
  preds : BitVec 8               -- P0–P7; P0 reads 1 whatever bit 0 holds
  pc : Nat                       -- byte address of the next instruction
  stall : Option Instr           -- the instruction that waits (R137)
  nextId : Nat                   -- push order counter
  cmds : List Cmd                -- commands held and not completed, in push order
  recs : List Rec                -- records waiting for CPOP or SPOP, oldest first
  aq : List AqEntry              -- address queues, oldest first
  ihold : List HeldWrite         -- held IMEM writes, oldest first (R152)
  active : Option WeightSet      -- the array's active weight set (R76)
  standby : Option WeightSet     -- the loaded next weight set (R72)
  standbyFor : Nat               -- the pass it was loaded for, by command id
  lastSlot : Nat                 -- DTIME of the last row slot admitted (R84)
  rampAt : Nat                   -- DTIME t0 of the ramp in progress (R85)
  gen : Word                     -- winnow generator G (R406)
  slotO : Option Sample          -- winnow buffer slots (R408)
  slotW : Option Sample
  slotC : Option Sample
  witRows : List Int             -- first result of the witness in slot W (R409): rows
  witFlags : Option Flags        -- and flags; none until the witness has run
  charges : List Nat             -- DTIMEs of transient charges (R412)
  wdogEnd : Nat                  -- DTIME at which the running watchdog reaches zero (R151)
  wdogLeft : Nat                 -- what it held when its cluster left Run, in 2^-16 ns
  gleanAt : Nat                  -- DTIME of the last glean window or start (R415)
  gleanPos : Nat                 -- next kernel of the pack (R415)
  gleanEnd : Option Nat          -- DTIME at which the window in progress ends
  gleanSteep : Bool              -- the window woke the cluster from Steep
  remap : Option Nat             -- DTIME at which the remap in progress began (R413)
  txn : Store Nat                -- tracked transactions granted to each mover (R210, R215)
  txnTurn : Nat                  -- the engine that took the last shared transaction
deriving DecidableEq, Repr

/-- R125: a control core at device start. The generator's value before the first seeding (R406) and the weight
set of an array that has run nothing are the model's (log entry 2). -/
def Hart.reset : Hart where
  sregs := []
  aregs := []
  preds := 1
  pc := 0
  stall := none
  nextId := 0
  cmds := []
  recs := []
  aq := []
  ihold := []
  active := none
  standby := none
  standbyFor := 0
  lastSlot := 0
  rampAt := 0
  gen := 1
  slotO := none
  slotW := none
  slotC := none
  witRows := []
  witFlags := none
  charges := []
  wdogEnd := 0
  wdogLeft := 0
  gleanAt := 0
  gleanPos := 0
  gleanEnd := none
  gleanSteep := false
  remap := none
  txn := []
  txnTurn := 0

/-- An event record (R427); FIRST and LAST in 2^-16 ns of DTIME. -/
structure EvRec where
  first : Nat
  code : Nat
  cls : Nat
  coal : Bool
  part : Nat
  kind : Nat
  unit : Nat
  count : Nat
  data : Nat
  last : Nat
deriving DecidableEq, Repr

/-- One stage of the event path (R430): records not yet forwarded and its coalescing table. -/
structure Stage where
  queue : List EvRec
  table : List EvRec
deriving DecidableEq, Repr

def Stage.reset : Stage := ⟨[], []⟩

/-- A sheaf result for the sequencer (R327). -/
structure SheafRes where
  lo : Word
  hi : Word
  id : Nat
  status : Status
  flags : Flags
deriving DecidableEq, Repr

/-- A sheaf at its root (R264, R267): when it was armed and as which arming of its root, the command that waits for
it to open (R321), the CCOUNT sum of each segment, which segments hold grains, the grains, the flags, VOID, and whether
its result is being written (R267). -/
structure Sheaf where
  armedAt : Nat
  gen : Nat
  cmd : Option Nat
  sums : Store Nat
  got : Store Nat
  grains : Store Int
  flags : Flags
  void : Bool
  closing : Bool
deriving DecidableEq, Repr

/-- A multicast message at a member port (R263): the command that sends it, the member, whether its packets are discarded
from now on, and the statuses met. -/
structure Landing where
  txid : Nat
  member : Nat
  drop : Bool
  sts : List Status
deriving DecidableEq, Repr

/-- A multicast group of a partition (R261): source core, member entries of four words, whether a GCLR has issued, and the
messages of which a member port has something to remember. -/
structure Group where
  src : Nat
  members : List (List Word)
  clearing : Bool
  landings : List Landing
deriving DecidableEq, Repr

/-- A kettle window (R328): start and end in 2^-16 ns of DTIME, and when its notice was issued. -/
structure Kettle where
  start : Nat
  stop : Nat
  issued : Nat
deriving DecidableEq, Repr

/-- A keeper of DTIME (R285–R290): its value less the master's DTIME at the time `since`, in 2^-16 ns, the error ε it removes from
then on, the RATE, SRC and ERA of the last beacon, and the master's `State.phase` at that time. -/
structure Keeper where
  ofs : Int
  since : Nat
  eps : Int
  rate : Int
  phase : Int
  src : Nat
  era : Nat
deriving DecidableEq, Repr

def Keeper.reset : Keeper := ⟨0, 0, 0, 0, 0, 0, 0⟩

/-- What a cluster holds beside its registers. -/
structure Clu where
  mail : List (Word × Word)        -- mailbox: payload and source word (R324)
  resq : List SheafRes             -- sheaf results for SRES (R327), 16 at most
  resWait : List (SheafRes × List Flit) -- results waiting at the sheaf engine, with their credits
  sheaves : Store (Option Sheaf)   -- open sheaves of this root, by id (R267)
  kettle : List Kettle             -- windows pending or active (R328)
  notices : List Kettle            -- notices on their way to the VPM (R328)
  hints : List (Nat × Nat × Nat)   -- hints: start, end, LEVEL (R322)
  hres : List (Nat × Nat × Nat)    -- HRES reservations: stack place, share, end (R320)
  shGen : Nat                      -- armings of sheaves rooted here
  idleAt : Nat                     -- DTIME at which an instruction last issued or a command completed (R356)
  steepAt : Nat                    -- DTIME of its last entry to Steep
  restWant : Bool                  -- a write of PST_CTL.REST waits for the cluster to be idle
  offWant : Bool                   -- a write of PST_CTL.OFF waits for the cluster to be idle
  wake : Nat                       -- 0 no wake, 1 a ticket is awaited, 2 granted (R359, R362)
  refusals : Nat                   -- refusals of the ticket awaited (R363)
  grantAt : Nat                    -- DTIME of the last ticket granted
  throttleEnd : Nat                -- DTIME at which its neighbour throttle ends (R363)
  capCut : Nat                     -- 25 MHz steps the cap has taken off its ceiling (R370)
  heatCut : Nat                    -- and heat (R373)
  issueCut : Nat                   -- sixteenths the cap has taken off its issue fraction (R370)
  capParked : Bool                 -- parked for the cap (R372)
  heatParked : Bool                -- parked for heat
  hotN : Nat                       -- consecutive samples at 110 °C or above
  coolN : Nat                      -- consecutive samples below 90 °C
  drawW : Nat                      -- its draw in its last millisecond of running, W (R371)
  highN : Nat                      -- consecutive evaluations above the high threshold (R281)
  raiseTo : Nat                    -- operating point of a raise that awaits confirmation (R336); 0 none
  raiseAt : Nat                    -- DTIME at which that raise was asked for
  checkAt : Nat                    -- DTIME of the last ticket check (R363)
  vlog : Int                       -- level of VLOG, in 0.5 mV (R339)
  glideTo : Nat                    -- operating point at the end of the glide in progress (R281); 0 none
  mainMHz : Nat                    -- point of the PLL's main output while on the 800 MHz output (R282)
  stretchN : Nat                   -- stretch events in the present evaluation window (R283)
  overN : Nat                      -- consecutive current samples over the limit (R346)
  trips : List Nat                 -- DTIMEs of trips (R347)
  gateAt : Nat                     -- DTIME at which the over-current gate closed
  keeper : Keeper                  -- its keeper (R285)
  heard : Nat                      -- number of the last beacon received
  tOfs : Int                       -- the DTIME copy less the master's DTIME when it last looked at its keeper, in 2^-16 ns (R290)
  tSince : Nat                     -- when that was
  tEps : Int                       -- and the difference it removes from then on
  evalAt : Nat                     -- the DTIME before which its frequency is not evaluated again (R281)
  glideAt : Nat                    -- when the last glide step began (R281)
  forceDue : Bool                  -- a forced step waits for a glide to end (R283)
  txReady : Nat                    -- end of the egress slots ready to send (R444)
  seqStarted : Bool                -- the sequencer has been started since start (R406, R421)
deriving DecidableEq, Repr

def Clu.reset : Clu where
  mail := []
  resq := []
  resWait := []
  sheaves := []
  kettle := []
  notices := []
  hints := []
  hres := []
  shGen := 0
  idleAt := 0
  steepAt := 0
  restWant := false
  offWant := false
  wake := 0
  refusals := 0
  grantAt := 0
  throttleEnd := 0
  capCut := 0
  heatCut := 0
  issueCut := 0
  capParked := false
  heatParked := false
  hotN := 0
  coolN := 0
  drawW := 0
  highN := 0
  raiseTo := 0
  raiseAt := 0
  checkAt := 0
  vlog := 0
  glideTo := 0
  mainMHz := 0
  stretchN := 0
  overN := 0
  trips := []
  gateAt := 0
  keeper := Keeper.reset
  heard := 0
  tOfs := 0
  tSince := 0
  tEps := 0
  evalAt := 0
  glideAt := 0
  forceDue := false
  txReady := 0
  seqStarted := false

/-- What a partition holds beside its registers (R16, R261, R264, R419, R424). -/
structure Part where
  held : Bool                      -- the partition plan holds this number
  hbm : List (Nat × Nat)           -- its HBM ranges: first byte, last byte (R227)
  groups : Store (Option Group)    -- multicast groups 0–255
  nGroups : Nat                    -- multicast groups the plan allocates to it (R261, R511)
  sheafAt : Store Nat              -- sheaf id → root cluster + 1 while an entry is at the ports; 0 none (R264)
  ledger : Store Nat               -- accounts of R419: key 4 × term + copy (R420)
  abortAt : Nat                    -- DTIME of the trigger of the abort in progress (R424)
  auditAt : Nat                    -- DTIME at which the audit in progress was asked for (R422)
  resetting : Bool                 -- a partition reset is in progress (R271)
  opened : Bool                    -- its accounts are open (R421)
deriving DecidableEq, Repr

def Part.reset : Part where
  held := false
  hbm := []
  groups := []
  nGroups := 0
  sheafAt := []
  ledger := []
  abortAt := 0
  auditAt := 0
  resetting := false
  opened := false

/-- What a field and its controller in the VPM hold beside their registers (R338–R345, R373, R374). -/
structure Fld where
  notices : List (Nat × Kettle)    -- notices arrived, with their cluster, whose action is still to come
  raised : List (Nat × Kettle)     -- windows the field is raised for
  lastWin : Nat                    -- start of the latest window acted on
  hintEnd : Nat                    -- DTIME at which the hint in force ends
  senseLost : Bool                 -- no sense minimum arrives (R340)
  steerMv : Nat                    -- steered level of the feed, in 0.5 mV
  vsramMv : Nat                    -- level of VSRAM, in 0.5 mV
  iAvg : Nat                       -- I_AVG of the feed in the last telemetry frame, mA (R362)
  tripN : Nat                      -- consecutive samples at 120 °C or above
  coolN : Nat                      -- consecutive samples below 100 °C while tripped
  selfRefresh : Bool               -- the field's stacks are in self refresh
  senseAt : Nat                    -- the DTIME before which no further sense minima come (R338)
  heldMv : Nat                     -- level at which a lost sense link holds the feed, in 0.5 mV (R340)
deriving DecidableEq, Repr

def Fld.reset : Fld := ⟨[], [], 0, 0, false, 0, 0, 0, 0, 0, false, 0, 0⟩

/-- What the VPM and the power management hold beside their registers (R332, R348, R365–R371, R528, R529). -/
structure Vpm where
  vaon : Bool                      -- VAON is on
  good : Bool                      -- power-good has been marked and the rails are on
  resetLow : Bool                  -- RESET# is asserted
  uv : Bool                        -- the undervoltage cause holds
  causes : Nat                     -- alert causes that hold, bits as in PWR_ALERT
  warnLow : Bool                   -- PWR_WARN# has been low for 10 µs
  kwAt : Nat                       -- DTIME of the keep-warm entry in progress
  devAbort : Bool                  -- a device abort is in progress (R425)
  okN : Nat                        -- consecutive evaluations at 97% of PSET_W or below (R371)
  govOff : Bool                    -- the cap governor is stopped (R367)
  stackRefresh : Bool              -- every stack is in self refresh (R367)
  overSince : Nat                  -- DTIME since which the input current has been above 160 A
  frameAlerts : Nat                -- alert assertions in the present telemetry window
  warnHighAt : Nat                 -- DTIME at which PWR_WARN# returned high (R368)
  vsramSet : Nat                   -- VSRAM's set value, in 0.5 mV (R334)
  rebuild : Bool                   -- the governor rebuilds its allocation from the floors (R422)
  capAt : Nat                      -- the DTIME before which the cap is not evaluated again (R369)
  heatAt : Nat                     -- the same of thermal samples (R373)
  telAt : Nat                      -- and of telemetry frames (R349)
  telPos : Nat                     -- frames written to the telemetry ring since it was set (R349)
deriving DecidableEq, Repr

def Vpm.reset : Vpm := ⟨false, false, false, false, 0, false, 0, false, 0, false, false, 0, 0, 0, 1500, false, 0, 0, 0, 0⟩

/-- The event path (R430–R433). -/
structure Events where
  stages : Store Stage         -- collectors 0–15 of the fields, 16–19 of the corner dies, 20 the management processor
  alarms : List EvRec          -- alarms at the management processor, 64 places (R430)
  alarmTab : List EvRec        -- and their 16 coalescing entries
  vaon : List EvRec            -- the buffer on VAON used in keep-warm (R433)
  faultPin : Bool              -- FAULT# asserted (R432)
deriving DecidableEq, Repr

def Events.reset : Events := ⟨[], [], [], [], false⟩

/-- A bale of the barn (R478): state 0 CREATING, 1 SEALED, 2 UNREADABLE, 3 BROKEN (R482); the channels in service at
its creation (R479); its bytes, and the units of it that no read can decode (R477). -/
structure Bale where
  id : Nat
  size : Nat
  owner : Nat
  parity : Bool
  state : Nat
  wpos : Nat
  digest : List Word
  chans : List Nat
  data : Store Byte
  bad : List Nat
deriving DecidableEq, Repr

/-- An erase block of a target in service (R490): channel, target, number; term 1 FREE, 2 ALLOCATED, 3 BAD, 4 PENDING as
in `BARN_BLK`; its erase count; its bale, 0 for journal, checkpoints and bad-block tables; when it was last scrubbed, in DTIME,
below 0 for a time before DTIME's start, and the highest temperature its target has reported since (R494, R495). -/
structure Block where
  ch : Nat
  tgt : Nat
  blk : Nat
  term : Nat
  erases : Nat
  bale : Nat
  scrubAt : Int
  hot : Nat
deriving DecidableEq, Repr

/-- A posted barn command (R481): a host slot, or a slot of cluster `clu`, and its descriptor. -/
structure BarnOp where
  host : Bool
  clu : Nat
  slot : Nat
  words : List Word
deriving DecidableEq, Repr

/-- What the barn controller holds beside its registers (R478–R495): bales, blocks, pages a block, codewords a page and bytes a page
with its spare area of each channel, whether the blocks' ages are in this start's DTIME (0), were
kept as EPOCH + DTIME (1) or are lost (2), posted commands, when the last checkpoint was written and the records journalled since, channels to be
mapped out at the next mount (R485), and AUTOLOAD entries still to be posted (R513). -/
structure Barn where
  bales : List Bale
  blocks : List Block
  pages : Store Nat
  cwords : Store Nat
  pbytes : Store Nat
  ages : Nat
  ops : List BarnOp
  checkAt : Nat
  records : Nat
  outNext : List Nat
  autoload : List (List Word)
  readOnly : Bool
  formatted : Bool
deriving DecidableEq, Repr

def Barn.reset : Barn := ⟨[], [], [], [], [], 0, [], 0, 0, [], [], false, false⟩

/-- A packet queued for an Octoon link: the flits of it still to be sent, since when it waits, and whether it is escalated
(R460). -/
structure OWait where
  pkt : OPkt
  left : Nat
  since : Nat
  esc : Bool
deriving DecidableEq, Repr

/-- A block sent and not acknowledged (R458, R459): SEQ, ACK, NACK, the credits it returns for the 12 classes (class 2 × VC + 1
for the dateline), the class of each slot, and the packets whose last flit it brings. -/
structure OBlock where
  seq : Nat
  ack : Nat
  nack : Bool
  credits : List Nat
  slots : List Nat
  pkts : List OPkt
deriving DecidableEq, Repr

/-- What a corner die holds for an Octoon link beside its registers (R458–R460, R470, R471): the last block received in order,
consecutive failed replays, since when it is unavailable, the packets queued, the blocks not acknowledged, the last one sent and
the last one acknowledged, when it was sent, whether a NACK is due; by class the flits in the far end's buffers, in the buffers
here, and the credits to return; what each VC may still send in its turn; the timestamps of the TSYNC exchange in progress and
the last offset, and the election key last received. -/
structure OLink where
  rxSeq : Nat
  fails : Nat
  unavail : Bool
  downAt : Nat
  queue : List OWait
  blocks : List OBlock
  txSeq : Nat
  ackSeq : Nat
  sentAt : Nat
  nack : Bool
  spent : Store Nat
  held : Store Nat
  owe : Store Nat
  quota : Store Nat
  t1 : Nat
  t2 : Nat
  t3 : Nat
  t4 : Nat
  heardAt : Nat
  far : Nat
  offset : Int
  keyClass : Nat
  keyHold : Nat
  keySys : Nat
  keyHops : Nat
  keyValid : Bool
deriving DecidableEq, Repr

def OLink.reset : OLink where
  rxSeq := 0
  fails := 0
  unavail := false
  downAt := 0
  queue := []
  blocks := []
  txSeq := 0
  ackSeq := 0
  sentAt := 0
  nack := false
  spent := []
  held := []
  owe := []
  quota := []
  t1 := 0
  t2 := 0
  t3 := 0
  t4 := 0
  heardAt := 0
  far := 0
  offset := 0
  keyClass := 0
  keyHold := 0
  keySys := 0
  keyHops := 0
  keyValid := false

/-- A remote operation in progress (R467, R468): requests without a response, when it was issued, and the worst status
met. -/
structure Remote where
  open_ : Nat
  since : Nat
  sts : List Status
deriving DecidableEq, Repr

/-- A ring of datagrams (R442, R444): 2^`log2n` slots of 2^`log2s` bytes at a device address. -/
structure Ring where
  port : Nat
  clu : Nat
  log2n : Nat
  log2s : Nat
  base : Nat
  dscp : Nat
deriving DecidableEq, Repr

/-- A Caddy session (R451–R453, R456): the last SEQ executed with its cached RSP, when the last valid CMD came, the event
class and telemetry subscribed, the device's own SEQ, and the 64 key bytes of R452. -/
structure Session where
  id : Nat
  seq : Nat
  rsp : List Nat
  heardAt : Nat
  cls : Nat
  tel : Bool
  out : Nat
  keys : List Byte
deriving DecidableEq, Repr

/-- A RoCEv2 queue pair (R445): its number, path MTU, the rate of its read responses in 2^-16 of line rate, and
whether it is in the error state (R448). -/
structure QPair where
  qpn : Nat
  mtu : Nat
  rate : Nat
  err : Bool
deriving DecidableEq, Repr

/-- A memory region (R446): key, HBM range and rights. -/
structure MReg where
  key : Nat
  base : Nat
  len : Nat
  rd : Bool
  wr : Bool
deriving DecidableEq, Repr

/-- What the Ethernet port, Caddy and the management of the device hold beside their registers (R437–R456, R518). -/
structure Eth where
  lanes : List Bool              -- lanes that passed qualification (R394, R437)
  trained : Bool                 -- the far end has trained (R438)
  iface : Nat                    -- interface tried or in use (R509, R520)
  tagged : Bool                  -- the link plan names a VID (R439)
  vid : Nat
  ip4 : Nat
  ip6 : Nat
  gw4 : Nat                      -- gateways and prefix lengths (R440)
  gw6 : Nat
  pfx4 : Nat
  pfx6 : Nat
  prio : Nat                     -- the priority given to RoCEv2 (R439)
  dscp : List Nat                -- DSCP of PTP, Caddy and RoCEv2 (R441)
  masters : List (List Nat)      -- unicast PTP masters (R296)
  mac : Nat
  bindings : List Ring           -- request bindings (R442)
  egress : List Ring             -- egress rings, one for a cluster (R444)
  sessions : List Session
  opens : List Nat               -- DTIMEs of the OPENs of the last second (R451)
  quotes : List Nat              -- DTIMEs of the QUOTEs of the last second (R521)
  echoes : List Nat              -- DTIMEs of the echoes of the last second (R440)
  qps : List QPair
  mrs : List MReg
  txq : List (Nat × List Nat)    -- frames that wait to leave, oldest first, with their priority of R441
  turn : Bool                    -- request-ring egress was served last of its two (R441)
  pauseEnd : Nat                 -- DTIME up to which the far end pauses RoCEv2's priority (R439)
  sent : List (List Nat)         -- frames sent, newest last, as numbers of what they carry
  telemetry : List Nat           -- the last telemetry frame
  xferLen : Nat                  -- LEN of the open image transfer (R518)
  xferAt : Nat                   -- its next offset
  xferBy : Nat                   -- its session
  xferTime : Nat                 -- DTIME of its last DATA
  flash : Store Byte             -- the flash (R505)
  stream : Store Byte            -- the image of a streamed restart
  pack : List Byte               -- segments of a pack received over Caddy (R414)
deriving DecidableEq, Repr

def Eth.reset : Eth where
  lanes := []
  trained := false
  iface := 0
  tagged := false
  vid := 0
  ip4 := 0
  ip6 := 0
  gw4 := 0
  gw6 := 0
  pfx4 := 0
  pfx6 := 0
  prio := 0
  dscp := []
  masters := []
  mac := 0
  bindings := []
  egress := []
  sessions := []
  opens := []
  quotes := []
  echoes := []
  qps := []
  mrs := []
  txq := []
  turn := false
  pauseEnd := 0
  sent := []
  telemetry := []
  xferLen := 0
  xferAt := 0
  xferBy := 0
  xferTime := 0
  flash := []
  stream := []
  pack := []

/-- The keeper of a corner die (R285, R290); VALID; MISS; the number of the last beacon received; its path delay D in 2^-8 ns
(R289). -/
structure Keep where
  keeper : Keeper
  valid : Bool
  miss : Bool
  heard : Nat
  path : Nat
deriving DecidableEq, Repr

def Keep.reset : Keep := ⟨Keeper.reset, false, false, 0, 0⟩

/-- A PTP Announce data set (R296): priority 1, clock quality as three numbers, priority 2, identity, steps removed; when
it was last heard. -/
structure Announce where
  p1 : Nat
  cls : Nat
  acc : Nat
  var : Nat
  p2 : Nat
  id : Nat
  steps : Nat
  heardAt : Nat
deriving DecidableEq, Repr

/-- What the time master holds beside its registers (R275–R301, R449), and the crossings that have slipped. Times are in
2^-16 ns. -/
structure Tim where
  frac : Nat                     -- the 24 bits of the master's count below 2^-16 ns (R286)
  phase : Int                    -- what RATE has added to DTIME up to `phaseAt`, in 2^-56 ns
  phaseAt : Nat
  wraps : Nat                    -- wraps of DTIME since it was 0 (R284)
  own : Nat                      -- the best source of the module's own (R295, R299)
  bT : Nat                       -- T of the last beacon (R287)
  bSeq : Nat                     -- beacons sent
  bNum : Nat                     -- its number in the mesh
  bRate : Int                    -- its RATE, SRC and ERA
  bSrc : Nat
  bEra : Nat
  beat : Store Nat               -- DTIME of the last beacon received, by keeper: cluster, or 32 + corner die
  stale : List Nat               -- keepers whose beacon path has changed and is not recalibrated (R289)
  cdie : Store Keep              -- keepers of corner dies 1–3
  refBack : Bool                 -- the reference has returned and the PLLs relock (R276)
  foreign : List Announce        -- masters heard by Announce
  gm : Option Announce           -- the grandmaster selected
  ptpUp : Bool                   -- Sync is received from it
  syncAt : Nat                   -- DTIME of the last valid Sync
  syncT1 : Int                   -- its origin time, in the grandmaster's timescale
  syncT2 : Int                   -- its arrival in the same timescale, by EPOCH + DTIME
  twoStep : Option (Nat × Nat)   -- a Sync that awaits its Follow_Up: sequence number, arrival in DTIME
  delay : Int                    -- path or link delay measured
  locked : Bool                  -- PTP has locked since the last start (R297)
  ppsAt : Nat                    -- DTIME of the last PPS_IN edge, to 1 ns
  todNext : Option (Nat × Nat)   -- time of day for the next PPS_IN edge: seconds, ns
  todSet : Bool                  -- a time of day has been set since the last start
  ppsOutAt : Option Nat          -- DTIME of the last rise of PPS_OUT
  acquired : Bool                -- a source has been acquired since the last start
  lostAt : Nat                   -- DTIME at which the source was lost
  keySent : List Nat             -- the election key last sent on every link: class, holdover s, system master, hops (R471)
  master : Nat                   -- module number of the system master (R299)
  slips : List (Nat × Nat × Nat) -- crossings in full handshake: field, crossing, DTIME of the slip (R279)
deriving DecidableEq, Repr

def Tim.reset : Tim where
  frac := 0
  phase := 0
  phaseAt := 0
  wraps := 0
  own := 0
  bT := 0
  bSeq := 0
  bNum := 0
  bRate := 0
  bSrc := 0
  bEra := 0
  beat := []
  stale := []
  cdie := []
  refBack := false
  foreign := []
  gm := none
  ptpUp := false
  syncAt := 0
  syncT1 := 0
  syncT2 := 0
  twoStep := none
  delay := 0
  locked := false
  ppsAt := 0
  todNext := none
  todSet := false
  ppsOutAt := none
  acquired := false
  lostAt := 0
  keySent := []
  master := 0
  slips := []

/-- An owner slot of the fuses (R503). -/
structure OwnSlot where
  digest : List Word
  prog : Bool
  commit : Bool
  revoked : Bool
deriving DecidableEq, Repr

/-- What the fuses and the boot master hold (R379–R401, R414, R502–R517, R534). -/
structure Boot where
  owners : List OwnSlot          -- the four owner slots, slot 0 first (R503)
  vendor : List Word             -- the vendor hash
  seed : List Byte               -- the identity seed
  identity : List Word           -- the identity digest, rebuilt at each start (R520)
  mapA : List Word               -- repair map, copy A and copy B (R386)
  mapB : List Word
  romOk : List Nat               -- positions whose ROM checks have passed (R381)
  claim : Option Nat             -- the boot master
  powerAt : Nat                  -- DTIME of P, or of the resumption decision
  badTest : List (Nat × Nat)     -- physical cores out of use in this start, by map, test or retirement: cluster, core (R24, R390)
  imgLen : Nat                   -- LEN of the image in force
  digest : List Word             -- D of the image in force; kept through keep-warm
  inForce : Bool                 -- an image is in force
  streamed : Bool
  colMaps : Store Nat            -- bypassed columns of each physical core (R97), key 36 × cluster + core: lower + 128 × higher
  darkMap : Store Nat            -- cores that became ABSENT with their cluster going dark: 1 + physical core (R341, R398)
  maps14 : Bool                  -- step 14 of the last cold start has completed (R401)
  readyOnce : Bool
  packVer : Nat                  -- version of the active glean pack (R414)
  packKernels : Nat              -- its kernels
  packWin : List Nat             -- the kernels with WINDOW (R514)
  system : Nat × Nat × Nat       -- torus sizes (R462)
  far : Store Nat                -- far module of a shortcut link (R462)
  peers : List (Nat × Nat × Nat) -- system peers: partition, module, its partition (R466)
  packBytes : List Byte          -- the active pack
  retry : List (List Word)       -- read-retry tables (R474)
  staged : Store Byte            -- the image as staged in the granaries of a cold start (R396)
  testFails : List (Nat × Nat × Nat) -- verdicts failed by a kernel's timeout (R389): cluster, tester, target
  restart : Nat                  -- a restart follows the device abort (R518): 0 none, 1 from flash, 2 from a stream
  manifest : List (List Word)    -- entries of the bale manifest, 16 words each (R513)
  manDone : Bool                 -- the manifest has been checked this start
  halted : Bool                  -- no die has claimed: nothing further happens (R381)
  lastAlarm : List Word          -- the latest Alarm record (R535)
  i3cOff : Nat                   -- the offset written over I3C (R534)
  i3cIbi : Nat                   -- In-Band Interrupts raised
  i3cData : List Byte            -- the bytes last read over I3C
deriving DecidableEq, Repr

/-- R97, R99: a column map without bypassed columns. -/
def noCols : Nat := 0x7F + 128 * 0x7F

/-- R386: the END entry of a copy without entries, whose CRC is the initial value. -/
def emptyMap : List Word := [ 0x0000FFFF]

/-- Both copies of the repair map are valid and empty (log entry 2). -/
def Boot.reset : Boot where
  owners := []
  vendor := []
  seed := []
  identity := []
  mapA := emptyMap
  mapB := emptyMap
  romOk := []
  claim := none
  powerAt := 0
  badTest := []
  imgLen := 0
  digest := []
  inForce := false
  streamed := false
  colMaps := []
  darkMap := []
  maps14 := false
  readyOnce := false
  packVer := 0
  packKernels := 0
  packWin := []
  system := (1, 1, 1)
  far := []
  peers := []
  packBytes := []
  retry := []
  staged := []
  testFails := []
  restart := 0
  manifest := []
  manDone := false
  halted := false
  lastAlarm := []
  i3cOff := 0
  i3cIbi := 0
  i3cData := []

/-- The state of the part. -/
structure State where
  pending : List Instr         -- commands waiting, first in, first out
  regs : Store Nat             -- register fields by `Fd.key`; unlisted: the Before-image value
  mem : List Host.Cell         -- bytes by 52-bit device address (R28); unlisted: 0
  poison : List Nat            -- first addresses of the memory words with an uncorrectable error (R228, R417)
  tiles : Store Byte           -- tile registers: key (core × 64 + tile) × 4,096 + byte (R43)
  planes : Store Byte          -- scale planes: key (core × 64 + tile) × 256 + byte
  grains : Store Int           -- accumulator: key (core × 16 + region) × 4,096 + row × 64 + column (R88)
  harts : Store Hart           -- control cores by `Agent.hart`
  clus : Store Clu             -- clusters
  parts : Store Part           -- partitions
  flds : Store Fld             -- fields and their controllers
  vpm : Vpm
  flits : List Flight          -- VC0 flits on their way
  pkts : List Pkt              -- packets in the mesh
  net : Net                    -- its routers
  vports : Store VPort         -- VC0 at the local ports (R251), key 16 × router + port
  rbucket : Store Nat          -- routers' VC0 buckets (R251), key 16 × y + x
  rturn : Store Nat            -- the local port each bucket served last
  dtime : Nat                  -- master DTIME, in 2^-16 ns (R284)
  ev : Events
  tim : Tim
  barn : Barn
  olinks : Store OLink         -- Octoon links 0–15
  octWait : List (Nat × OPkt)  -- packets of the corner dies that wait for a register access (R31), by transaction
  octIn : List (Nat × OPkt)    -- packets at a corner die to be routed, with the link they came by (16: from the mesh; 17: an answer; 18: resumed)
  remotes : Store (Option Remote) -- remote operations, key 16 × cluster + slot
  eth : Eth
  boot : Boot
  free : Nat                   -- the model's own counter of free values
deriving DecidableEq, Repr

/-- The machine right after reset. -/
def State.reset : State where
  pending := []
  regs := []
  mem := []
  poison := []
  tiles := []
  planes := []
  grains := []
  harts := []
  clus := []
  parts := []
  flds := []
  vpm := Vpm.reset
  flits := []
  pkts := []
  net := Net.reset
  vports := []
  rbucket := []
  rturn := []
  dtime := 0
  ev := Events.reset
  tim := Tim.reset
  barn := Barn.reset
  olinks := []
  octWait := []
  octIn := []
  remotes := []
  eth := Eth.reset
  boot := Boot.reset
  free := 0

end Sys2Proof.Machine
end

