-- ==== Sys2Proof/Machine/Ops.lean ====
section
/-!
DEFINITION. The named operations over the state: register fields, control cores, clusters and partitions, memory
by device address, the checks of an address (R31, R32, R175, R227, R259), the DTIME copy, and raising an event.
-/

namespace Sys2Proof.Machine

/-- What a command answers. -/
abbrev Out := Host.Outcome State Fault Refusal

/-! ### Register fields -/

/-- The value of a register field, within its width; the Before-image value where nothing has written it (R12). -/
def State.f (s : State) (d : Fd) : Nat := s.regs.get d.rst d.key % 2 ^ d.wid

/-- Give a register field a value, cut to its width. -/
def State.setF (s : State) (d : Fd) (v : Nat) : State :=
  { s with regs := s.regs.set d.rst d.key (v % 2 ^ d.wid) }

/-- A one-bit field is set. -/
def State.on (s : State) (d : Fd) : Bool := s.f d ≠ 0

/-- Add to a counter that holds at its largest value. -/
def State.bump (s : State) (d : Fd) (n : Nat) : State :=
  s.setF d (min (s.f d + n) (2 ^ d.wid - 1))

/-- The value of a field read as a signed number. -/
def State.fInt (s : State) (d : Fd) : Int :=
  if s.f d < 2 ^ (d.wid - 1) then (s.f d : Int) else (s.f d : Int) - (2 ^ d.wid : Nat)

/-- Give a signed field a value, cut to its width. -/
def State.setInt (s : State) (d : Fd) (v : Int) : State := s.setF d (v % (2 ^ d.wid : Nat)).toNat

/-- OR bits into a field. -/
def State.orF (s : State) (d : Fd) (v : Nat) : State := s.setF d (s.f d ||| v)

/-- Set or clear bit `i` of a field. -/
def State.setBit (s : State) (d : Fd) (i : Nat) (b : Bool) : State :=
  s.setF d (if b then s.f d ||| 2 ^ i else s.f d - (s.f d &&& 2 ^ i))

/-! ### Units -/

/-- Control core `h` (`Agent.hart`). -/
def State.hart (s : State) (h : Nat) : Hart := s.harts.get Hart.reset h
def State.setHart (s : State) (h : Nat) (x : Hart) : State := { s with harts := s.harts.set Hart.reset h x }
def State.modHart (s : State) (h : Nat) (g : Hart → Hart) : State := s.setHart h (g (s.hart h))

/-- Cluster `c`. -/
def State.clu (s : State) (c : Nat) : Clu := s.clus.get Clu.reset c
def State.setClu (s : State) (c : Nat) (x : Clu) : State := { s with clus := s.clus.set Clu.reset c x }
def State.modClu (s : State) (c : Nat) (g : Clu → Clu) : State := s.setClu c (g (s.clu c))

/-- Partition `p`. -/
def State.part (s : State) (p : Nat) : Part := s.parts.get Part.reset p
def State.setPart (s : State) (p : Nat) (x : Part) : State := { s with parts := s.parts.set Part.reset p x }
def State.modPart (s : State) (p : Nat) (g : Part → Part) : State := s.setPart p (g (s.part p))

/-- Field `f`. -/
def State.fld (s : State) (f : Nat) : Fld := s.flds.get Fld.reset f
def State.setFld (s : State) (f : Nat) (x : Fld) : State := { s with flds := s.flds.set Fld.reset f x }
def State.modFld (s : State) (f : Nat) (g : Fld → Fld) : State := s.setFld f (g (s.fld f))

/-- The cluster of control core `h`. -/
def hartClu (h : Nat) : Nat := if h < 1024 then h / 32 else h - 1024

/-- The partition that holds cluster `c`, or 0xFF (R16, R25). -/
def State.partOf (s : State) (c : Nat) : Nat := s.f (CLU_INFO_PARTITION c)

/-- The logical core is ABSENT (R24, R25). -/
def State.absent (s : State) (n : Nat) : Bool := s.on (CORE_MAP_ABSENT n)

/-- The core is retiring or its remap is in progress (R413). -/
def State.retiring (s : State) (n : Nat) : Bool := s.on (WN_CORE_RETIRING n)

/-- R27: the retirement remap of the core is in progress. -/
def State.remapping (s : State) (n : Nat) : Bool := (s.hart n).remap.isSome

/-! ### Scalar, address and predicate registers (R123, R124) -/

/-- S0 reads 0. -/
def State.sreg (s : State) (h r : Nat) : Word := if r = 0 then 0 else (s.hart h).sregs.get 0 r
/-- Writes to S0 are discarded. -/
def State.setS (s : State) (h r : Nat) (v : Word) : State :=
  if r = 0 then s else s.modHart h fun x => { x with sregs := x.sregs.set 0 r v }
def State.areg (s : State) (h r : Nat) : Off48 := (s.hart h).aregs.get 0 r
def State.setA (s : State) (h r : Nat) (v : Off48) : State :=
  s.modHart h fun x => { x with aregs := x.aregs.set 0 r v }
/-- P0 reads 1. -/
def State.pred (s : State) (h r : Nat) : Bool := r = 0 || (s.hart h).preds.getLsbD r
/-- A predicate word with bit `r` given. -/
def setPredBit (w : BitVec 8) (r : Nat) (b : Bool) : BitVec 8 :=
  if b then w ||| (1#8 <<< r) else w &&& ~~~(1#8 <<< r)
/-- Writes to P0 are discarded. -/
def State.setP (s : State) (h r : Nat) (b : Bool) : State :=
  if r = 0 then s else s.modHart h fun x => { x with preds := setPredBit x.preds r b }

/-! ### Time -/

/-- Units of DTIME in one ns (R284). -/
def nsU : Nat := 65536
/-- R290: how much of an error `e` is gone after `d` units of DTIME, at no more than 1 ns per 1,000 ns. -/
def slewBy (e : Int) (d : Nat) : Int := max (-((d / 1000 : Nat) : Int)) (min ((d / 1000 : Nat) : Int) e)

/-- R290: the DTIME copy of a cluster less the master's DTIME, at DTIME `t`. -/
def Clu.copyOfs (x : Clu) (t : Nat) : Int := x.tOfs + slewBy x.tEps (t - x.tSince)

/-- The DTIME copy of cluster `c` (R290), modulo 2^80 as the 64-bit ns count with its 16 fraction bits is. -/
def State.copyU (s : State) (c : Nat) : Nat := ((s.dtime : Int) + (s.clu c).copyOfs s.dtime).toNat

/-- The 64-bit DTIME value of cluster `c`: whole units of 2^-16 ns modulo 2^64 (R284). -/
def State.copy (s : State) (c : Nat) : Nat := s.copyU c % 2 ^ 64
/-- The master's DTIME as a 64-bit value. -/
def State.now (s : State) : Nat := s.dtime % 2 ^ 64
/-- An event the spec places at DTIME `t` or later happens no earlier than `t` (log entry 4). -/
def State.advanceTo (s : State) (t : Nat) : State := { s with dtime := max s.dtime t }

/-- R290: the DTIME at which the copy of a cluster comes to `t`: it slews until its error is gone. -/
def Clu.timeOf (x : Clu) (t : Nat) : Nat :=
  let u := ((t : Int) - x.tOfs - x.tSince).toNat
  let n := x.tEps.natAbs
  if (t : Int) ≤ x.tOfs + x.tSince then ((t : Int) - x.tOfs).toNat
  else if 0 ≤ x.tEps then
    if 1001 * n ≤ u then x.tSince + (u - n) else x.tSince + (1000 * (u + 1) + 1000) / 1001
  else if 999 * n ≤ u then x.tSince + (u + n) else x.tSince + (1000 * u + 998) / 999

/-- Bring a cluster's DTIME copy to at least `t`. -/
def State.advanceCopy (s : State) (c t : Nat) : State := s.advanceTo ((s.clu c).timeOf t)

/-! ### Free values -/

/-- Take the next number of a free value (log entry 3). -/
def State.takeFree (s : State) : Nat × State := (s.free, { s with free := s.free + 1 })

/-! ### Device addresses (R28–R32) -/

/-- What a device address names. -/
inductive Tgt where
  | hbm (off : Nat)
  | granary (c off : Nat)
  | loft (n off : Nat)
  | imem (n off : Nat)
  | dmem (n off : Nat)
  | sdmem (c off : Nat)
  | simem (c off : Nat)
  | csr (off : Nat)
  | bad
deriving DecidableEq, Repr

/-- Base of a class (R28). -/
def clsBase (cls : Nat) : Nat := cls * 0x1000000000000
def devAddr (cls off : Nat) : Nat := clsBase cls + off
def loftAddr (n off : Nat) : Nat := clsBase 2 + n * 0x1000000 + off
def imemAddr (n off : Nat) : Nat := clsBase 2 + n * 0x1000000 + 0x800000 + off
def dmemAddr (n off : Nat) : Nat := clsBase 2 + n * 0x1000000 + 0x900000 + off
/-- R306: the sequencer's memories lie in its cluster's CSR block. -/
def sdmemAddr (c off : Nat) : Nat := clsBase 0xF + cluCsr c + 0x30000 + off
def simemAddr (c off : Nat) : Nat := clsBase 0xF + cluCsr c + 0x40000 + off
def granaryAddr (c off : Nat) : Nat := clsBase 1 + c * 0x100000000 + off
/-- Data memory and instruction memory of control core `h` (R123, R305). -/
def hartDmem (h off : Nat) : Nat := if h < 1024 then dmemAddr h off else sdmemAddr (h - 1024) off
def hartImem (h off : Nat) : Nat := if h < 1024 then imemAddr h off else simemAddr (h - 1024) off

/-- R28–R30, R306: the target of a device address. -/
def target (a : Nat) : Tgt :=
  let cls := a / 0x1000000000000
  let off := a % 0x1000000000000
  if cls = 0 then if off ≤ 0x2FFFFFFFFFF then .hbm off else .bad
  else if cls = 1 then
    if off / 0x100000000 < 32 ∧ off % 0x100000000 ≤ 0xBFFFFFF then
      .granary (off / 0x100000000) (off % 0x100000000) else .bad
  else if cls = 2 then
    let n := off / 0x1000000
    let o := off % 0x1000000
    if 1024 ≤ n then .bad
    else if o < 0x100000 then .loft n o
    else if 0x800000 ≤ o ∧ o < 0x810000 then .imem n (o - 0x800000)
    else if 0x900000 ≤ o ∧ o < 0x908000 then .dmem n (o - 0x900000)
    else .bad
  else if cls = 15 then
    if csrInBlock off then
      if 0x10000000 ≤ off ∧ off < 0x12000000 then
        let c := (off - 0x10000000) / 0x100000
        let o := off % 0x100000
        if 0x30000 ≤ o ∧ o < 0x40000 then .sdmem c (o - 0x30000)
        else if 0x40000 ≤ o ∧ o < 0x80000 then .simem c (o - 0x40000)
        else .csr off
      else .csr off
    else .bad
  else .bad

/-! ### The address maps of the memories -/

/-- R217: bank and row of a loft offset. -/
def loftBank (off : Nat) : Nat × Nat :=
  let w := off / 32
  ((w % 16) ^^^ (w / 16 % 16) ^^^ (w / 256 % 16) ^^^ (w / 4096 % 8), w / 16)

/-- R221: logical slice and line of a granary offset. -/
def granarySlice (off : Nat) : Nat × Nat :=
  let l := off / 128
  let a := l % 16
  let q := l / 16
  let fold := (q % 16) ^^^ (q / 16 % 16) ^^^ (q / 256 % 16) ^^^ (q / 4096 % 16) ^^^ (q / 65536)
  (16 * (q % 3) + (a ^^^ fold), q / 3)

/-- R231: the stacks of a pair, in pair order. -/
def pairStack (p i : Nat) : Nat :=
  match p with
  | 0 => i % 4 + 1 | 1 => i % 4 + 5 | 2 => i % 4 + 9 | 3 => i % 4 + 13 | 4 => i % 4 + 17
  | _ => if i % 4 = 3 then 0 else i % 4 + 21

/-- R231, R232: stack, channel, pseudo-channel and byte address of an HBM offset. -/
def hbmPlace (localBits off : Nat) : Nat × Nat × Nat × Nat :=
  let p := off / 0x8000000000
  if localBits / 2 ^ p % 2 = 0 then
    let u := off % 0x8000000000 / 256
    let z := (u % 256) ^^^ (u / 256 % 256) ^^^ (u / 65536 % 256) ^^^ (u / 16777216 % 128)
    (pairStack p (z / 64), z / 2 % 32, z % 2, u / 256 * 256 + off % 256)
  else
    let h := off / 0x4000000000 % 2
    let v := off % 0x4000000000 / 256
    let z := (v % 128) ^^^ (v / 128 % 128) ^^^ (v / 16384 % 128) ^^^ (v / 2097152 % 128) ^^^ (v / 268435456)
    (pairStack p (2 * h + z / 64), z / 2 % 32, z % 2, v / 128 * 256 + off % 256)

/-- The field that carries a stack and its place there, 0 for STACK_A and 1 for STACK_B (R17). -/
def stackField (st : Nat) : Nat × Nat :=
  match (List.range 16).find? fun f => stackA f = st ∨ stackB f = st with
  | some f => (f, if stackA f = st then 0 else 1)
  | none => (0, 0)

/-- The stack in place `i` of field `f`, or 0x1F (R240). -/
def stackAt (f i : Nat) : Nat := if i = 0 then stackA f else stackB f

/-- R17, R233: the stack has trained and is in service. -/
def State.stackOk (s : State) (st : Nat) : Bool :=
  let (f, i) := stackField st
  st < 24 && (if i = 0 then s.on (FIELD_INFO_STACK_A_OK f) else s.on (FIELD_INFO_STACK_B_OK f))

/-- R272: the field's mesh is out of service. -/
def State.meshDown (s : State) (f : Nat) : Bool := s.on (FIELD_INFO_MESH_DOWN f)

/-- R219, R355: the ports on a cluster's VLOG serve nobody: the cluster is in Rest or Off, parks included. -/
def State.portsDown (s : State) (c : Nat) : Bool := 2 ≤ s.f (PST_STAT_STATE c)

/-- R32, R175, R27, R219, R224, R233, R272, R355: the status with which an access to one byte completes. -/
def State.byteStatus (s : State) (a : Nat) : Status :=
  match target a with
  | .bad => .range
  | .hbm off =>
    let st := (hbmPlace (s.f HBM_MAP_LOCAL) off).1
    if s.stackOk st && !s.meshDown (stackField st).1 then .ok else .absent
  | .granary c _ =>
    if s.on (GRN_STAT_ABSENT c) || s.meshDown (c / 2) then .absent else .ok
  | .loft n _ | .imem n _ | .dmem n _ =>
    if s.absent n || s.meshDown (n / 64) then .absent
    else if s.remapping n then .state
    else if s.portsDown (n / 32) then .state else .ok
  | .sdmem c _ | .simem c _ => if s.meshDown (c / 2) then .absent else if s.portsDown c then .state else .ok
  | .csr _ => .ok

/-- The offsets at which a run of `len` bytes from `a` must be looked at: its granules of 256 bytes and its ends.
Within one granule every byte has one status. -/
def runProbes (a len : Nat) : List Nat :=
  if len = 0 then []
  else (a + len - 1) :: (List.range ((a + len - 1) / 256 - a / 256 + 1)).map fun i => max a ((a / 256 + i) * 256)

/-- The worst status of a list under the order of R174: ABSENT, RANGE, STATE. -/
def worst (l : List Status) : Status :=
  if l.contains .absent then .absent else if l.contains .range then .range
  else if l.contains .state then .state else .ok

/-- R32: a run that leaves the populated offsets is refused with RANGE before anything else; then R175, R27. -/
def State.runStatus (s : State) (a len : Nat) : Status :=
  let l := (runProbes a len).map s.byteStatus
  if l.contains .range then .range else worst l

/-- R227, R259: the byte at device address `a` lies inside partition `p`. -/
def State.byteIn (s : State) (p a : Nat) : Bool :=
  match target a with
  | .hbm off => (s.part p).hbm.any fun r => r.1 ≤ off && off ≤ r.2
  | .granary c _ => s.partOf c = p
  | .loft n _ | .imem n _ | .dmem n _ => s.partOf (n / 32) = p
  | .sdmem c _ | .simem c _ => s.partOf c = p
  | .csr off => 0x10000000 ≤ off && off < 0x12000000 && s.partOf ((off - 0x10000000) / 0x100000) = p
  | .bad => false

/-- R227, R259: a run of `len` bytes lies inside partition `p`: every granule of it does, so that its HBM may span
adjoining ranges (they are multiples of 1 GiB, R511). -/
def State.inPart (s : State) (p a len : Nat) : Bool := p ≠ 0xFF && (a :: runProbes a len).all (s.byteIn p)

def bool1 (b : Bool) : Nat := if b then 1 else 0

/-! ### Bytes of memory -/

/-- One byte of memory; a byte nothing has written reads as 0 (log entry 1). -/
def State.rd (s : State) (a : Nat) : Byte := Store.get 0 s.mem a
def State.wr (s : State) (a : Nat) (b : Byte) : State := { s with mem := Store.set 0 s.mem a b }

/-- `k` bytes from `a`, lowest address first. -/
def State.rdN (s : State) (a : Nat) : Nat → List Byte
  | 0 => []
  | k + 1 => s.rd a :: s.rdN (a + 1) k

/-- Bytes stored from `a` on, first byte lowest. -/
def State.wrN (s : State) (a : Nat) : List Byte → State
  | [] => s
  | b :: r => (s.wr a b).wrN (a + 1) r

/-- R8: the value of little-endian bytes. -/
def leVal : List Byte → Nat
  | [] => 0
  | b :: r => b.toNat + 256 * leVal r

/-- R8: `k` little-endian bytes of a value. -/
def leBytes : Nat → Nat → List Byte
  | 0, _ => []
  | k + 1, v => BitVec.ofNat 8 v :: leBytes k (v / 256)

def State.rd32 (s : State) (a : Nat) : Word := BitVec.ofNat 32 (leVal (s.rdN a 4))
def State.wr32 (s : State) (a : Nat) (v : Word) : State := s.wrN a (leBytes 4 v.toNat)

/-- The size of the protected word that begins at `w`: 32 bytes in the loft, the granary and HBM (R228), 4 bytes in
instruction and data memories (log entry 7). -/
def eccSize (w : Nat) : Nat :=
  match target w with
  | .imem .. | .dmem .. | .sdmem .. | .simem .. => 4
  | _ => 32
/-- The run of `len` bytes from `a` touches the word that begins at `w`. -/
def touches (a len w : Nat) : Bool := a < w + eccSize w && w < a + len
/-- The run covers the word entirely. -/
def covers (a len w : Nat) : Bool := a ≤ w && w + eccSize w ≤ a + len
/-- R228: some word of the run holds an uncorrectable error. -/
def State.poisoned (s : State) (a len : Nat) : Bool := s.poison.any (touches a len)

/-- R226, R228: write a run. A word with an uncorrectable error that the run covers only in part is left unchanged;
the Bool says that one was met, so that the write completes with ECC. A word covered entirely is whole again. -/
def State.store (s : State) (a : Nat) (d : List Byte) : State × Bool :=
  let bad := s.poison.filter fun w => touches a d.length w && !covers a d.length w
  let s' := d.zipIdx.foldl (fun t (b, i) => if bad.any fun w => touches (a + i) 1 w then t else t.wr (a + i) b) s
  ({ s' with poison := s.poison.filter fun w => !covers a d.length w }, !bad.isEmpty)

/-! ### Events (R427–R432) -/

/-- Event classes of R427. -/
def clsAlarm : Nat := 0
def clsError : Nat := 1
def clsWarning : Nat := 2
def clsNote : Nat := 3
def clsTrace : Nat := 4

/-- The collector that takes a unit's records (R430): its field's, its corner die's, or the management processor. -/
def stageOf (kind unit : Nat) : Nat :=
  match kind with
  | 0 => unit / 64 % 16
  | 1 => unit / 2 % 16
  | 2 => unit % 16
  | 3 => 16 + unit % 4
  | 4 => (stackField unit).1
  | 7 => unit % 16
  | 10 => 16 + unit / 4 % 4
  | 9 => 16
  | _ => 20

/-- Merge a record into a table of coalescing entries keyed by (KIND, UNIT, CODE, CLASS), of at most `cap` entries;
a new key that meets a full table goes to the overflow entry of its class (R430). -/
def coalesce (cap stage : Nat) (tab : List EvRec) (e : EvRec) : List EvRec :=
  if tab.any fun x => x.kind = e.kind ∧ x.unit = e.unit ∧ x.code = e.code ∧ x.cls = e.cls then
    tab.map fun x => if x.kind = e.kind ∧ x.unit = e.unit ∧ x.code = e.code ∧ x.cls = e.cls then
      { x with count := min (x.count + e.count) 0xFFFFFFFF, data := e.data, last := e.last, coal := true } else x
  else if (tab.filter fun x => x.code ≠ 0xFFF).length < cap then tab ++ [e]
  else if tab.any fun x => x.code = 0xFFF ∧ x.cls = e.cls then
    tab.map fun x => if x.code = 0xFFF ∧ x.cls = e.cls then
      { x with count := min (x.count + e.count) 0xFFFFFFFF, data := x.data + 1, last := e.last } else x
  else tab ++ [{ e with code := 0xFFF, kind := 12, unit := stage, coal := true, data := 1 }]

/-- R427: the eight words of a record. -/
def EvRec.words (e : EvRec) : List Word :=
  [ BitVec.ofNat 32 e.first, BitVec.ofNat 32 (e.first / 2 ^ 32),
    BitVec.ofNat 32 (e.code % 4096 + 4096 * (e.cls % 8) + (if e.coal then 32768 else 0) + 65536 * (e.part % 256)),
    BitVec.ofNat 32 (e.unit % 2 ^ 28 + 2 ^ 28 * (e.kind % 16)), BitVec.ofNat 32 (min e.count 0xFFFFFFFF), BitVec.ofNat 32 e.data,
    BitVec.ofNat 32 e.last, BitVec.ofNat 32 (e.last / 2 ^ 32)]

/-- FAULT# follows `EV_ALARM.PENDING` (R432); the I3C port shows the latest Alarm and raises an In-Band Interrupt when PENDING
rises (R534, R535). -/
def State.alarmIn (s : State) (e : EvRec) : State :=
  let ibi := !s.on EV_ALARM_PENDING && s.on I3C_CFG_IBI && s.on MOD_PINS_I3C_DA
  let s := (s.setF EV_ALARM_PENDING 1).bump EV_ALARM_ALARMS 1
  let s := { s with boot := { s.boot with lastAlarm := e.words, i3cIbi := s.boot.i3cIbi + (if ibi then 1 else 0) } }
  let s := if s.ev.alarms.length < 64 then s else s.bump EV_DROP_COAL 1
  let ev := s.ev
  let ev := if ev.alarms.length < 64 then { ev with alarms := ev.alarms ++ [e] }
    else { ev with alarmTab := coalesce 16 20 ev.alarmTab e }
  { s with ev := { ev with faultPin := true } }

/-- R427–R430: raise a record. An Alarm reaches the management processor at once; any other class enters the
stage of its unit, or in keep-warm the management processor (R433). A Trace is produced only with `EV_CFG.TRACE` set (R428). -/
def State.raise (s : State) (cls code part kind unit data : Nat) : State :=
  let e : EvRec := ⟨s.now, code, cls, false, part, kind, unit, 1, data % 2 ^ 32, s.now⟩
  if cls = clsAlarm then s.alarmIn e
  else if cls = clsTrace ∧ s.f EV_CFG_TRACE = 0 then s
  else
    let k := if s.f KW_STAT_STATE = 2 then 20 else stageOf kind unit
    let g := s.ev.stages.get Stage.reset k
    { s with ev := { s.ev with stages := s.ev.stages.set Stage.reset k { g with queue := g.queue ++ [e] } } }

/-- An event of a logical core, with its partition. -/
def State.raiseCore (s : State) (cls code n data : Nat) : State :=
  s.raise cls code (s.partOf (n / 32)) 0 n data
/-- An event of a cluster, with its partition. -/
def State.raiseClu (s : State) (cls code c data : Nat) : State :=
  s.raise cls code (s.partOf c) 1 c data
/-- An event of control core `h`. -/
def State.raiseHart (s : State) (cls code h data : Nat) : State :=
  if h < 1024 then s.raiseCore cls code h data else s.raiseClu cls code (h - 1024) data

/-- The unit a MEM_UE names for an address: kind, unit and DATA, its offset [47:16] (R429). -/
def State.raiseMemUe (s : State) (a : Nat) : State :=
  let d := a % 0x1000000000000 / 65536
  match target a with
  | .hbm off => s.raise clsError 0x020 0xFF 4 (hbmPlace (s.f HBM_MAP_LOCAL) off).1 d
  | .granary c _ | .sdmem c _ | .simem c _ => s.raiseClu clsError 0x020 c d
  | .loft n _ | .imem n _ | .dmem n _ => s.raiseCore clsError 0x020 n d
  | _ => s

/-! ### The ledger (R419, R420) -/

/-- Terms of a partition's accounts (R419). -/
def lSent : Nat := 0
def lTaken : Nat := 1
def lRefused : Nat := 2
def lReclaimed : Nat := 3
def lPushed : Nat := 4
def lPopped : Nat := 5
def lInjected : Nat := 6
def lCounted : Nat := 7
def lAbsorbed : Nat := 8
def lPlanned : Nat := 9
def lWritten : Nat := 10
def lMRefused : Nat := 11
def lCancelled : Nat := 12

/-- R420: the majority of the three copies of a term; none where all three differ. -/
def ledgerRead (l : Store Nat) (t : Nat) : Option Nat :=
  let a := l.get 0 (4 * t)
  let b := l.get 0 (4 * t + 1)
  let c := l.get 0 (4 * t + 2)
  if a = b ∨ a = c then some a else if b = c then some b else none

/-- R420: an update writes all three copies of a term. -/
def ledgerWrite (l : Store Nat) (t v : Nat) : Store Nat :=
  ((l.set 0 (4 * t) v).set 0 (4 * t + 1) v).set 0 (4 * t + 2) v

/-- Copies of the term that disagree with the majority: a read rewrites each of them (R420). -/
def ledgerBad (l : Store Nat) (t : Nat) : Nat :=
  match ledgerRead l t with
  | none => 0
  | some v => ((List.range 3).filter fun i => l.get 0 (4 * t + i) ≠ v).length

/-- Read a term of partition `p`; copies that disagree are rewritten, counted and reported by a Note (R420). -/
def State.ledgerFix (s : State) (p t : Nat) : State :=
  let l := (s.part p).ledger
  match ledgerRead l t with
  | none => s
  | some v =>
    if ledgerBad l t = 0 then s
    else ((s.modPart p fun x => { x with ledger := ledgerWrite x.ledger t v }).bump LEDGER_STAT_FIXES
      (ledgerBad l t)).raise clsNote 0x081 p 11 0 (t / 4)

/-- Add to a term of a partition's account; nothing is kept for a cluster of no partition. -/
def State.ledgerAdd (s : State) (p t n : Nat) : State :=
  if p = 0xFF ∨ n = 0 then s
  else
    let s := s.ledgerFix p t
    s.modPart p fun x => { x with ledger := ledgerWrite x.ledger t ((ledgerRead x.ledger t).getD 0 + n) }

end Sys2Proof.Machine
end

