-- ==== Sys2Proof/Machine/Flags.lean ====
section
/-!
DEFINITION. Flags and statuses: the sticky flags of regions and tiles (R51, R52), the core's fault summary (R142),
the order of statuses (R174), and the comparisons of CMP, CMPI, BCMP and of the vector engine's predicates.
-/

namespace Sys2Proof.Machine

/-! ### The four flags of R51 -/

def Flags.zero : Flags := ⟨false, false, false, false⟩
/-- R51: flags of a sum are the OR of its operands' flags. -/
def Flags.or (a b : Flags) : Flags := ⟨a.sat || b.sat, a.nonfin || b.nonfin, a.guard || b.guard, a.lost || b.lost⟩
/-- R51: bit 0 SAT, bit 1 NONFIN, bit 2 GUARD, bit 3 LOST. -/
def Flags.bits (a : Flags) : Nat :=
  (if a.sat then 1 else 0) + (if a.nonfin then 2 else 0) + (if a.guard then 4 else 0) + (if a.lost then 8 else 0)
def Flags.ofBits (n : Nat) : Flags := ⟨n % 2 = 1, n / 2 % 2 = 1, n / 4 % 2 = 1, n / 8 % 2 = 1⟩
def Flags.any (l : List Flags) : Flags := l.foldl Flags.or Flags.zero

/-- The flags of region `i` of core `n` (R52). -/
def State.regionFlags (s : State) (n i : Nat) : Flags :=
  ⟨s.on (GSTAT_SAT n i), s.on (GSTAT_NONFIN n i), s.on (GSTAT_GUARD n i), s.on (GSTAT_LOST n i)⟩

/-- Set sticky flags of a region; SAT and NONFIN also set the core's fault summary (R51, R142). -/
def State.orRegionFlags (s : State) (n i : Nat) (g : Flags) : State :=
  let s := if g.sat then (s.setF (GSTAT_SAT n i) 1).setF (CC_FSUM_SAT n) 1 else s
  let s := if g.nonfin then (s.setF (GSTAT_NONFIN n i) 1).setF (CC_FSUM_NONFIN n) 1 else s
  let s := if g.guard then s.setF (GSTAT_GUARD n i) 1 else s
  if g.lost then s.setF (GSTAT_LOST n i) 1 else s

/-- Clear the flags and the saturation count of a region, and give it a scale and a guard (R52, R89). -/
def State.openClear (s : State) (n i : Nat) (scale : Int) (hb : Nat) : State :=
  (((((((s.setInt (GSTAT_SCALE n i) scale).setF (GSTAT_GUARD_HB n i) hb).setF (GSTAT_SAT n i) 0).setF
    (GSTAT_NONFIN n i) 0).setF (GSTAT_GUARD n i) 0).setF (GSTAT_LOST n i) 0).setF (GSTAT_SAT_COUNT n i) 0)

/-- R64: the grain's magnitude reaches the guard threshold 2^(63 − GUARD_HB); 0 turns the check off. -/
def guardHit (hb : Nat) (g : Int) : Bool := hb ≠ 0 && 2 ^ (63 - hb) ≤ g.natAbs

/-! ### Statuses -/

/-- R174: the order in which a status is chosen. -/
def statusOrder : List Status := [.aborted, .absent, .range, .state, .ecc, .timeout, .sat, .late]

/-- R174: the status shown. -/
def pickStatus (l : List Status) : Status := (statusOrder.find? fun x => l.contains x).getD .ok

/-- R174: more than one status applied. -/
def multiStatus (l : List Status) : Bool := 1 < (statusOrder.filter fun x => l.contains x).length

/-- R142: the bit of `CC_FSUM` named after a status. -/
def fsumOf (h : Nat) (st : Status) : Option Fd :=
  match st with
  | .ok => none
  | .sat => some (CC_FSUM_SAT h)
  | .ecc => some (CC_FSUM_ECC h)
  | .absent => some (CC_FSUM_ABSENT h)
  | .state => some (CC_FSUM_STATE h)
  | .late => some (CC_FSUM_LATE h)
  | .timeout => some (CC_FSUM_TIMEOUT h)
  | .range => some (CC_FSUM_RANGE h)
  | .aborted => some (CC_FSUM_ABORTED h)

/-- R142: record a status in the fault summary. -/
def State.fsumStatus (s : State) (h : Nat) (st : Status) : State :=
  match fsumOf h st with
  | some d => s.setF d 1
  | none => s

/-- The bits of `CC_FSUM` as one number (R134). -/
def State.fsum (s : State) (h : Nat) : Nat :=
  (CC_FSUM h).foldl (fun a d => a + s.f d * 2 ^ d.lo) 0

/-! ### Comparisons -/

/-- R132: the comparison codes of CMP; none where the code is ILLEGAL. -/
def cmpCode (c : Nat) (a b : Word) : Option Bool :=
  match c with
  | 0 => some (a = b)
  | 1 => some (a ≠ b)
  | 2 => some (a.slt b)
  | 3 => some (!a.slt b)
  | 4 => some (a.ult b)
  | 5 => some (!a.ult b)
  | 6 => some (valEq (fval a) (fval b))
  | 7 => some (valLt (fval a) (fval b))
  | 8 => some (valLt (fval a) (fval b) || valEq (fval a) (fval b))
  | 9 => some (isNan32 a || isNan32 b)
  | _ => none

/-- R128: the conditions of BCMP. -/
def bcmpCode (c : Nat) (a b : Word) : Bool :=
  match c with
  | 0 => a = b
  | 1 => a ≠ b
  | 2 => a.slt b
  | _ => !a.slt b

/-- R181: PCOND and COND, on an order given by "less" and "equal"; false for the refused codes 6 and 7. -/
def pcond (c : Nat) (lt eq : Bool) : Bool :=
  match c with
  | 0 => !lt && !eq
  | 1 => !lt
  | 2 => eq
  | 3 => !eq
  | 4 => lt
  | 5 => lt || eq
  | _ => false

/-- R119: a comparison with a NaN is false; else on FP32 values. -/
def pcondF (c : Nat) (a b : Word) : Bool :=
  !(isNan32 a || isNan32 b) && pcond c (valLt (fval a) (fval b)) (valEq (fval a) (fval b))
/-- On unsigned 32-bit integers (R182). -/
def pcondU (c : Nat) (a b : Nat) : Bool := pcond c (a < b) (a = b)
/-- On signed integers (R182). -/
def pcondI (c : Nat) (a b : Int) : Bool := pcond c (a < b) (a = b)

end Sys2Proof.Machine
end

