-- ==== Sys2Proof/Machine/Operands.lean ====
section
/-!
DEFINITION. Operands: the bit fields of commands (R162, R179–R186), the elements, blocks and grains of tile
registers and accumulator regions (R42, R43, R67, R88, R196), and the runs a command names.
-/

namespace Sys2Proof.Machine

/-- Bits `lo` to `lo + wid − 1` of a word (R8). -/
def wbits (w : Word) (lo wid : Nat) : Nat := w.toNat / 2 ^ lo % 2 ^ wid
/-- The same, read as a signed number. -/
def wsigned (w : Word) (lo wid : Nat) : Int := sxNat wid (wbits w lo wid)

/-- Word `i` of a command (R9). -/
def Cmd.word (k : Cmd) (i : Nat) : Word := k.words.getD i 0
def Cmd.fld (k : Cmd) (i lo wid : Nat) : Nat := wbits (k.word i) lo wid

/-! ### The header of R162 -/

def Cmd.op (k : Cmd) : Nat := k.fld 0 0 8
def Cmd.timed (k : Cmd) : Bool := k.fld 0 8 1 = 1
def Cmd.treg (k : Cmd) : Nat := k.fld 0 9 5
def Cmd.quiet (k : Cmd) : Bool := k.fld 0 14 1 = 1
def Cmd.fence (k : Cmd) : Bool := k.fld 0 15 1 = 1
def Cmd.tag (k : Cmd) : Nat := k.fld 0 16 16
def Cmd.cn (k : Cmd) : Nat := k.fld 1 0 4
def Cmd.ccore (k : Cmd) : Nat := k.fld 1 4 10
def Cmd.cen (k : Cmd) : Bool := k.fld 1 14 1 = 1
def Cmd.seqb (k : Cmd) : Bool := k.fld 1 15 1 = 1
def Cmd.camt (k : Cmd) : Nat := k.fld 1 16 8
def Cmd.slack (k : Cmd) : Nat := k.fld 1 24 8

/-- R163: the header's own checks. -/
def Cmd.headerOk (k : Cmd) : Bool :=
  (k.timed || (k.treg = 0 && k.slack = 0)) && k.treg % 2 = 0
    && (if k.cen then k.camt ≠ 0 else k.cn = 0 && k.ccore = 0 && k.camt = 0)

/-! ### Endpoints (R183) -/

/-- A mover or mesh-port endpoint. -/
structure Endpoint where
  addr : Nat
  cls : Nat
  kind : Nat
  zero : Nat
deriving DecidableEq, Repr

/-- The endpoint in words `i` and `i + 1`. -/
def Cmd.endpoint (k : Cmd) (i : Nat) : Endpoint :=
  ⟨(k.word i).toNat + 2 ^ 32 * k.fld (i + 1) 0 16, k.fld (i + 1) 16 4, k.fld (i + 1) 20 2, k.fld (i + 1) 22 10⟩

/-- R183: the endpoint's fields are in range: no reserved bits, KIND 3 reserved, and for tile and region runs CLS
and the unused ADDR bits 0. -/
def Endpoint.formOk (e : Endpoint) : Bool :=
  e.zero = 0 &&
  match e.kind with
  | 0 => true
  | 1 => e.cls = 0 && e.addr < 64
  | 2 => e.cls = 0 && e.addr < 16
  | _ => false

/-- The endpoint with every bit 0. -/
def Endpoint.isZero (e : Endpoint) : Bool := e.zero = 0 && e.kind = 0 && e.cls = 0 && e.addr = 0
/-- The endpoint of a stream: class in CLS, KIND 0, ADDR 0 (R184). -/
def Endpoint.streamForm (e : Endpoint) : Bool := e.zero = 0 && e.kind = 0 && e.addr = 0
def Endpoint.dev (e : Endpoint) : Nat := devAddr e.cls e.addr

/-! ### Tile registers and scale planes (R43) -/

def tileKey (n t o : Nat) : Nat := (n * 64 + t) * 4096 + o
def planeKey (n t o : Nat) : Nat := (n * 64 + t) * 256 + o
def State.tile (s : State) (n t o : Nat) : Byte := Store.get 0 s.tiles (tileKey n t o)
def State.setTile (s : State) (n t o : Nat) (b : Byte) : State :=
  { s with tiles := Store.set 0 s.tiles (tileKey n t o) b }
def State.plane (s : State) (n t o : Nat) : Byte := Store.get 0 s.planes (planeKey n t o)
def State.setPlane (s : State) (n t o : Nat) (b : Byte) : State :=
  { s with planes := Store.set 0 s.planes (planeKey n t o) b }

/-- Little-endian value of `k` bytes of a tile register. -/
def State.tileLe (s : State) (n t o : Nat) : Nat → Nat
  | 0 => 0
  | k + 1 => (s.tile n t o).toNat + 256 * s.tileLe n t (o + 1) k

def State.setTileLe (s : State) (n t o v : Nat) : Nat → State
  | 0 => s
  | k + 1 => (s.setTile n t o (BitVec.ofNat 8 v)).setTileLe n t (o + 1) (v / 256) k

/-- The bits of element `i`, counted in row-major order, of a tile register (R42). -/
def State.elem (s : State) (f : Fmt) (n t i : Nat) : Nat :=
  if f.bits < 8 then (s.tile n t (i * f.bits / 8)).toNat / 2 ^ (i * f.bits % 8) % 2 ^ f.bits
  else s.tileLe n t (i * (f.bits / 8)) (f.bits / 8)

/-- Write element `i`; 6-bit elements take a byte with bits [7:6] 0 (R42). -/
def State.setElem (s : State) (f : Fmt) (n t i v : Nat) : State :=
  if f.bits < 8 then
    let o := i * f.bits / 8
    let sh := i * f.bits % 8
    let b := (s.tile n t o).toNat
    s.setTile n t o (BitVec.ofNat 8 (b - b / 2 ^ sh % 2 ^ f.bits * 2 ^ sh + v % 2 ^ f.bits * 2 ^ sh))
  else s.setTileLe n t (i * (f.bits / 8)) v (f.bits / 8)

/-- The number of the tile and of the element within it, for element `j` of a run from tile `t0`. -/
def runElem (f : Fmt) (t0 j : Nat) : Nat × Nat := (t0 + j / (64 * f.rows), j % (64 * f.rows))

/-- R40, R43: the block scale of element `i` of a tile; the exponent 0 for formats without scales, none for 0xFF. -/
def State.elemScale (s : State) (f : Fmt) (n t i : Nat) : Option Int :=
  if f.isMx then scaleExp (s.plane n t (i / 32)) else some 0

/-- The exact value of element `j` of a run, block scale included; a block with scale 0xFF reads as NaN (R104). -/
def State.runVal (s : State) (f : Fmt) (n t0 j : Nat) : Val :=
  let (t, i) := runElem f t0 j
  match s.elemScale f n t i with
  | none => .nan
  | some k =>
    match f.val (s.elem f n t i) with
    | .fin g m e => .fin g m (e + k)
    | v => v

/-- The raw bits of element `j` of a run. -/
def State.runBits (s : State) (f : Fmt) (n t0 j : Nat) : Nat :=
  let (t, i) := runElem f t0 j
  s.elem f n t i

def State.setRunBits (s : State) (f : Fmt) (n t0 j v : Nat) : State :=
  let (t, i) := runElem f t0 j
  s.setElem f n t i v

/-- Tiles a run of `rows` element rows covers. -/
def runTiles (f : Fmt) (rows : Nat) : Nat := (rows + f.rows - 1) / f.rows

/-- R43, R51: scale and flags of a grain tile. -/
def State.tileScale (s : State) (n t : Nat) : Int := sxNat 8 (s.plane n t 0).toNat
def State.tileFlags (s : State) (n t : Nat) : Flags := Flags.ofBits (s.plane n t 1).toNat
/-- R43, R105: write a grain tile's scale and flags; the remaining bytes of its scale plane read as 0. -/
def State.setGrainPlane (s : State) (n t : Nat) (e : Int) (g : Flags) : State :=
  let s := { s with planes := Store.drop s.planes fun k => k / 256 = n * 64 + t }
  let s := (s.setPlane n t 0 (BitVec.ofInt 8 e)).setPlane n t 1 (BitVec.ofNat 8 g.bits)
  let s := if g.sat then s.setF (CC_FSUM_SAT n) 1 else s
  if g.nonfin then s.setF (CC_FSUM_NONFIN n) 1 else s

/-! ### The grain accumulator (R88) -/

def grainKey (n g i : Nat) : Nat := (n * 16 + g) * 4096 + i
/-- Grain `i` (row × 64 + column) of region `g`. -/
def State.grain (s : State) (n g i : Nat) : Int := Store.get 0 s.grains (grainKey n g i)
def State.setGrain (s : State) (n g i : Nat) (v : Int) : State :=
  { s with grains := Store.set 0 s.grains (grainKey n g i) v }
/-- All rows of a region become zero (R89). -/
def State.clearRegion (s : State) (n g : Nat) : State :=
  { s with grains := Store.drop s.grains fun k => k / 4096 = n * 16 + g }

/-- Byte `b` of a region run from region `g0` (R196). -/
def State.regionByte (s : State) (n g0 b : Nat) : Byte :=
  let v := s.grain n (g0 + b / 32768) (b % 32768 / 8)
  BitVec.ofNat 8 ((v % (2 ^ 64 : Nat)).toNat / 256 ^ (b % 8))

/-- Grain `j` of a tile run or, with `reg`, of a region run (R102). -/
def State.grainAt (s : State) (reg : Bool) (n t0 j : Nat) : Int :=
  if reg then s.grain n (t0 + j / 4096) (j % 4096)
  else sxNat 64 (s.runBits .grain n t0 j)

/-- Scale of the `u`-th tile or region of a grain run. -/
def State.unitScale (s : State) (reg : Bool) (n u : Nat) : Int :=
  if reg then s.fInt (GSTAT_SCALE n u) else s.tileScale n u
def State.unitFlags (s : State) (reg : Bool) (n u : Nat) : Flags :=
  if reg then s.regionFlags n u else s.tileFlags n u

/-- How many tiles or regions `rows` element rows of grains cover (R43, R88). -/
def grainUnits (reg : Bool) (rows : Nat) : Nat := if reg then (rows + 63) / 64 else (rows + 7) / 8

/-- The units of a grain run, first to last. -/
def unitList (u0 k : Nat) : List Nat := (List.range k).map (u0 + ·)

end Sys2Proof.Machine
end

