-- ==== Sys2Proof/Machine/Net.lean ====
section
/-!
DEFINITION. The mesh: its endpoints and the routers and ports they attach to (R23, R222, R241–R243), packets and their flits
(R244–R247), routes (R253, R273), and what the routers do in a cycle (R249, R250, R256, R257, R262, R272; log entry 75).
-/

namespace Sys2Proof.Machine

/-! ### Packets -/

/-- Packet types of R247. -/
def tRead : Nat := 1
def tWrite : Nat := 2
def tRdata : Nat := 3
def tWack : Nat := 4
def tMcast : Nat := 5
def tMack : Nat := 6
def tSheaf : Nat := 7
def tMgmt : Nat := 8
def tMrsp : Nat := 9

/-- R247: the virtual channel of a packet type. -/
def pktVc (typ : Nat) : Nat :=
  match typ with
  | 1 => 1 | 2 => 4 | 3 | 4 | 6 => 2 | 5 | 7 => 3 | 8 | 9 => 5 | _ => 0

/-- A packet with every field 0 but those named. -/
def pkt0 (typ part src dst : Nat) : Pkt :=
  ⟨0, 0, 0, typ, part, src, dst, 0, 0, 0, 0, .ok, 0, 0, 0, Flags.zero, 0, false, false, [], []⟩

/-- The unit at which a device address is served: a core's port, a granary slice, a stack's controller, a CSR block. -/
def State.epOf (s : State) (a : Nat) : Nat :=
  match target a with
  | .loft n _ | .imem n _ | .dmem n _ => n
  | .granary c off => 2000 + 64 * c + (granarySlice off).1
  | .hbm off => 6000 + (hbmPlace (s.f HBM_MAP_LOCAL) off).1
  | .sdmem c _ | .simem c _ => 7000 + c
  | .csr off => 8000 + off / 0x100000
  | .bad => 20000

/-- The sheaf engine of cluster `c`. -/
def sheafEp (c : Nat) : Nat := 5000 + c

/-- The field in which a unit lies, or 16 for none. -/
def epField (e : Nat) : Nat :=
  if e < 1024 then e / 64
  else if e < 1056 then (e - 1024) / 2
  else if 2000 ≤ e ∧ e < 5000 then (e - 2000) / 128
  else if 5000 ≤ e ∧ e < 6000 then (e - 5000) / 2
  else if 6000 ≤ e ∧ e < 6024 then (stackField (e - 6000)).1
  else if 7000 ≤ e ∧ e < 7032 then (e - 7000) / 2
  else if 8016 ≤ e ∧ e < 8032 then e - 8016
  else if 8256 ≤ e ∧ e < 8288 then (e - 8256) / 2
  else 16

/-- The cluster a unit belongs to, for the ports that a partition reset holds (R271). -/
def epClu (e : Nat) : Option Nat :=
  if e < 1024 then some (e / 32)
  else if e < 1056 then some (e - 1024)
  else if 2000 ≤ e ∧ e < 5000 then some ((e - 2000) / 64)
  else if 5000 ≤ e ∧ e < 6000 then some (e - 5000)
  else if 7000 ≤ e ∧ e < 7032 then some (e - 7000)
  else if 8256 ≤ e ∧ e < 8288 then some (e - 8256)
  else none

/-! ### Routers and ports (R23, R214, R222, R241–R243) -/

/-- The router an endpoint's control core attaches to: its physical core's quadrant, or quadrant 0 for the
sequencer (R23, R25, R305). -/
def State.router (s : State) (h : Nat) : Nat × Nat :=
  if h < 1024 then (s.f (CORE_MAP_RX h), s.f (CORE_MAP_RY h))
  else (routerX (h - 1024) 0, routerY (h - 1024) 0)

def routerKey (xy : Nat × Nat) : Nat := 16 * xy.2 + xy.1

/-- R242: the router an HBM stack's controller attaches to. -/
def stackRouter (st : Nat) : Nat × Nat :=
  [ (2, 0), (5, 0), (6, 0), (9, 0), (10, 0), (13, 0), (15, 1), (15, 2), (15, 3), (15, 4), (15, 5), (15, 6),
    (13, 7), (10, 7), (9, 7), (6, 7), (5, 7), (2, 7), (0, 6), (0, 5), (0, 4), (0, 3), (0, 2), (0, 1)].getD st (0, 0)

/-- Hops between two routers (R36). -/
def hops (a b : Nat × Nat) : Nat := ((a.1 : Int) - b.1).natAbs + ((a.2 : Int) - b.2).natAbs

/-- R222: the quadrant router of cluster `c` with the fewest hops from a router, the lowest-numbered of several. -/
def granaryRouter (c : Nat) (from_ : Nat × Nat) : Nat × Nat :=
  let d (q : Nat) : Nat := hops (routerX c q, routerY c q) from_
  let q := (List.range 4).foldl (fun a b => if d b < d a then b else a) 0
  (routerX c q, routerY c q)

/-- The coordinates of a router. -/
def nodeXY (k : Nat) : Nat × Nat := (k % 16, k / 16)
/-- The field and the cluster of a router. -/
def nodeField (k : Nat) : Nat := 4 * (k / 32) + k % 16 / 4
def nodeClu (k : Nat) : Nat := 2 * nodeField k + k % 4 / 2

/-- Local port `p` of quadrant `q` of cluster `c`, as 16 × router + port. -/
def cluPlace (c q p : Nat) : Nat := 16 * routerKey (routerX c q, routerY c q) + p

/-- R241: the corner die of position `i`, by the nearer of its two attach routers (log entry 75). -/
def cornerPlace (i : Nat) (from_ : Nat × Nat) : Nat :=
  let a : (Nat × Nat) × (Nat × Nat) :=
    match i with
    | 0 => ((0, 0), (1, 0)) | 1 => ((15, 0), (14, 0)) | 2 => ((15, 7), (14, 7)) | _ => ((0, 7), (1, 7))
  16 * routerKey (if hops a.2 from_ < hops a.1 from_ then a.2 else a.1) + 14

/-- R214: cluster mover `m` of cluster `c`. -/
def moverPlace (c m : Nat) : Nat := cluPlace c (m / 2) (9 + m % 2)

/-- R241, R242, R243: the router and local port of a unit, for requests of a sender at router `from_`. A granary is reached by
the quadrant of R222; corner die `i` is unit 1,056 + i; a cluster's registers and its sequencer's memories are reached at the
sequencer, and every other register in corner die 0 (log entry 75). -/
def State.place (s : State) (e : Nat) (from_ : Nat × Nat) : Nat :=
  if e < 1024 then 16 * routerKey (s.router e) + s.f (CORE_MAP_PCORE e) % 9
  else if e < 1056 then cluPlace (e - 1024) 0 11
  else if e < 1060 then cornerPlace (e - 1056) from_
  else if 2000 ≤ e ∧ e < 5000 then 16 * routerKey (granaryRouter ((e - 2000) / 64) from_) + 12
  else if 5000 ≤ e ∧ e < 6000 then cluPlace (e - 5000) 1 11
  else if 6000 ≤ e ∧ e < 6024 then 16 * routerKey (stackRouter (e - 6000)) + 13
  else if 7000 ≤ e ∧ e < 7032 then cluPlace (e - 7000) 0 11
  else if 8256 ≤ e ∧ e < 8288 then cluPlace (e - 8256) 0 11
  else cornerPlace 0 from_

/-- R222, R261: where the landings of a multicast member enter: a granary through quadrant 0. -/
def State.landPlace (s : State) (e : Nat) : Nat :=
  if 2000 ≤ e ∧ e < 5000 then cluPlace ((e - 2000) / 64) 0 12 else s.place e (0, 0)

/-! ### Flits (R244–R246) -/

/-- R246: the header of a packet. SEG is 0 but in a SHEAF packet, where TXID is 0. -/
def Pkt.words (p : Pkt) : List Word :=
  let b (x : Bool) (i : Nat) : Nat := if x then 2 ^ i else 0
  let sheaf := p.typ = tSheaf
  ([ pktVc p.typ + 8 * p.typ + b p.lastp 7 + 256 * (p.part % 256) + 65536 * (p.len % 1024) + b p.void 27,
    p.dp / 16 % 16 + 16 * (p.dp / 256) + 256 * (p.dp % 16) + 4096 * (p.sp / 16 % 16) + 65536 * (p.sp / 256)
      + 2 ^ 20 * (p.sp % 16),
    p.addr % 2 ^ 32,
    p.addr / 2 ^ 32 % 65536 + 65536 * (p.addr / 2 ^ 48 % 16),
    (if sheaf then 0 else p.txid % 65536) + 65536 * (if p.src < 1024 then p.src else 0x3FF),
    p.gid % 256 + 256 * p.status.code + (if sheaf then 4096 * (p.seg % 8) else 0) + 65536 * (p.ccount % 65536),
    (p.scale % 256).toNat + 256 * p.flags.bits + 4096 * (p.sop % 4),
    0]).map (BitVec.ofNat 32)

/-- `n` words of little-endian bytes, zeros after the last. -/
def byteWords (n : Nat) (l : List Byte) : List Word :=
  (List.range n).map fun i => BitVec.ofNat 32 (leVal ((l.drop (4 * i)).take 4))

/-- The payload of a packet. -/
def Pkt.payload (p : Pkt) : List Byte := p.data ++ p.grains.flatMap fun (v : Int) => leBytes 8 (v % ((2 ^ 64 : Nat) : Int)).toNat

/-- R245: the flits of a packet: a payload of at most 32 bytes lies in the header flit. -/
def Pkt.contents (p : Pkt) : List (List Word) :=
  let d := p.payload
  if d.length ≤ 32 then [ p.words ++ byteWords 8 d]
  else (p.words ++ byteWords 8 []) :: (List.range ((d.length + 63) / 64)).map fun i => byteWords 16 (d.drop (64 * i))

/-- R244, R386: one step of the CRC over a bit. -/
def crcBit (c : Nat) : Nat := if c / 32768 = 1 then (c * 2 % 65536) ^^^ 0x1021 else c * 2
/-- R244, R386: CRC-16 of polynomial 0x1021 over a byte. -/
def crcByte (c : Nat) (b : Byte) : Nat := (List.range 8).foldl (fun x _ => crcBit x) (c ^^^ b.toNat * 256)
/-- R244: the CRC of a flit's 64 bytes and its sideband bits, VC, first and last (log entry 75). -/
def flitCrc (words : List Word) (vc : Nat) (first last : Bool) : Nat :=
  ((words.flatMap fun w => leBytes 4 w.toNat) ++ [ BitVec.ofNat 8 (vc + 8 * bool1 first + 16 * bool1 last)]).foldl crcByte
    (Config.flitCrcInit % 65536)

/-! ### Routes (R253, R273) -/

/-- The routers of a straight line from `a` to `b`, without `a`. -/
def leg (a b : Nat × Nat) : List Nat :=
  let go (u v i : Nat) : Nat := if u < v then u + 1 + i else u - 1 - i
  (List.range (max a.1 b.1 - min a.1 b.1)).map (fun i => routerKey (go a.1 b.1 i, a.2)) ++
    (List.range (max a.2 b.2 - min a.2 b.2)).map fun i => routerKey (b.1, go a.2 b.2 i)

/-- The legs through some corners in turn. -/
def legs (a : Nat × Nat) : List (Nat × Nat) → List (List Nat)
  | [] => []
  | b :: r => leg a b :: legs b r

/-- R253, R273: the route from router `a` to router `b` by the tables that avoid a field: first in x, then in y, or on one of
the two detours, in buffers of the ALT class from the first turn on. A route whose both phases would enter the field takes
both (log entry 75). To a router of the field the route ends at the boundary (R272). -/
def pathOf (table : Option Nat) (a b : Nat × Nat) : List (Nat × Bool) :=
  let plain := leg a b
  match table with
  | none => plain.map fun k => (k, false)
  | some f =>
    let into (k : Nat) : Bool := nodeField k = f
    if into (routerKey b) then (plain.takeWhile fun k => !into k).map fun k => (k, false)
    else
      let x0 := 4 * (f % 4)
      let y0 := 2 * (f / 4)
      let yb := if (a.2 = y0 ∧ 0 < y0) ∨ y0 = 6 then y0 - 1 else y0 + 2
      let xb := if (b.1 - x0 < 2 ∧ 0 < x0) ∨ x0 = 12 then x0 - 1 else x0 + 4
      let xin := (leg a (b.1, a.2)).any into
      let y := if xin then yb else a.2
      let yin := (leg (b.1, y) b).any into
      if !xin && !yin then plain.map fun k => (k, false)
      else
        let turns := (if xin then [ (a.1, yb)] else []) ++ (if yin then [ (xb, y), (xb, b.2)] else [ (b.1, y)]) ++ [ b]
        match (legs a turns).filter fun l => !l.isEmpty with
        | [] => []
        | l :: r => l.map (fun k => (k, false)) ++ r.flatten.map fun k => (k, true)

/-- The side of router `a` on which its neighbour `b` lies: 0 north, 1 east, 2 south, 3 west. -/
def sideTo (a b : Nat) : Nat := if b = a + 1 then 1 else if b = a + 16 then 2 else if b + 1 = a then 3 else 0
/-- The neighbour on a side. -/
def nodeNext (a side : Nat) : Nat := match side with | 0 => a - 16 | 1 => a + 1 | 2 => a + 16 | _ => a - 1

/-- R256: w(i, o) of router `r` under the tables in force, with input 4 for the local ports and outputs from 4 on for them: the
source routers with a destination whose route enters by `i` and leaves by `o`. -/
def weightOf (table : Option Nat) (r i o : Nat) : Nat :=
  let uses (a b : Nat) : Bool :=
    let l := (pathOf table (nodeXY a) (nodeXY b)).map Prod.fst
    let before := (a :: l).takeWhile (· ≠ r)
    let after := ((a :: l).dropWhile (· ≠ r)).drop 1
    (a :: l).contains r
      && (match before.getLast? with | none => i = 4 | some k => i = sideTo r k)
      && (match after.head? with | none => 4 ≤ o | some k => o = sideTo r k)
  ((List.range 128).filter fun a => (List.range 128).any fun b => uses a b).length

/-! ### Buffers and outputs (R243, R244, R249) -/

/-- R249: flits a buffer of a VC and class holds at an input. -/
def bufCap (vc : Nat) (alt : Bool) : Nat :=
  if alt then 4 else match vc with | 0 => 4 | 1 | 3 => 16 | 2 | 4 => 32 | _ => 8

/-- R222, R243: flits a local port moves per cycle in each direction (log entry 75). -/
def portRate (p : Nat) : Nat := if p ≤ 8 then 4 else if p = 12 then 2 else if p = 13 then 32 else 16

/-- R244: flits an output passes on per cycle. -/
def outRate (node o : Nat) : Nat :=
  if 4 ≤ o then portRate (o - 4) else if nodeField (nodeNext node o) = nodeField node then 16 else 8

/-- The output of a router by which a route goes on. -/
def Route.out (r : Route) (node : Nat) : Nat :=
  match r.path with
  | (k, _) :: _ => sideTo node k
  | [] => 4 + r.dp % 16
def Route.altNext (r : Route) : Bool := match r.path with | (_, a) :: _ => a | [] => false

def NFlit.outs (f : NFlit) : List Nat := (f.tos.map fun r => r.out f.node).eraseDups
/-- The flit is of a MCAST packet, which a router keeps until every branch has taken it (R262). -/
def NFlit.mcast (f : NFlit) : Bool := f.vc = 3 && !f.sheaf
/-- The class of buffer it waits in, and that of the one beyond output `o`. -/
def NFlit.cls (f : NFlit) (alt : Bool) : Nat := 4 * f.vc + 2 * bool1 f.sheaf + bool1 alt
def NFlit.altAt (f : NFlit) (o : Nat) : Bool := (f.tos.filter fun r => r.out f.node = o).any Route.altNext

/-- Flits of packet `num` that have not come to the port `dp`. -/
def Net.holds (n : Net) (num dp : Nat) : Bool := n.flits.any fun f => f.num = num && f.tos.any fun r => r.dp = dp

/-- The packet has not come to its port. -/
def State.inNet (s : State) (p : Pkt) : Bool := s.net.holds p.num p.dp

/-- The flits that head their buffers at a router and want output `o`: in a buffer flits go in order, those of a MCAST in order at
each output. -/
def Net.heads (n : Net) (node o : Nat) : List NFlit → List Nat → List NFlit
  | [], _ => []
  | f :: r, seen =>
    let key := 24 * f.inp + f.cls f.alt
    let mine := f.outs.contains o
    if f.node ≠ node || (f.mcast && !mine) || seen.contains key then n.heads node o r seen
    else if mine && f.ready ≤ n.mc then f :: n.heads node o r (key :: seen)
    else n.heads node o r (key :: seen)

/-- R262: flits of MCAST or SHEAF packets that have come to a port and wait there. -/
def Net.landed (n : Net) (pk : List Pkt) (dp : Nat) (sheaf : Bool) : Nat :=
  (pk.filter fun p => p.dp = dp && p.typ = (if sheaf then tSheaf else tMcast) && !n.holds p.num p.dp).foldl
    (fun a p => a + p.contents.length) 0

/-- R249, R250, R262: the buffer beyond output `o` has a credit. A port begins a packet of VC3 while fewer than 8 flits of its
kind wait there. -/
def Net.room (n : Net) (pk : List Pkt) (f : NFlit) (o : Nat) : Bool :=
  if 4 ≤ o then f.vc ≠ 3 || f.k ≠ 0 || n.landed pk (16 * f.node + (o - 4)) f.sheaf < 8
  else
    let b := nodeNext f.node o
    let i := (o + 2) % 4
    let alt := f.altAt o
    let q := n.flits.filter fun g => g.node = b && g.inp = i && g.cls g.alt = f.cls alt
    let kept := ((n.flits.filter fun g => g.node = b && g.mcast && g.num ≠ f.num).map NFlit.num).eraseDups
    q.length < bufCap f.vc alt && (!f.mcast || kept.length < 16)

/-! ### A cycle (R250, R256, R257) -/

def outKey (node o : Nat) : Nat := 20 * node + o

/-- R256: of the flits of one VC, the one whose input is served: inputs in proportion to their weights, local ports in turn. -/
def Net.pickInput (n : Net) (node o vc : Nat) (l : List NFlit) : Option (NFlit × Net) :=
  let key := 6 * outKey node o + vc
  let ins := (l.map fun f => min f.inp 4).eraseDups
  let n : Net :=
    if ins.length ≤ 1 || ins.any (fun i => n.share.get 0 (5 * key + i) ≠ 0) then n
    else { n with share := ins.foldl (fun m i => m.set 0 (5 * key + i) (max 1 (weightOf n.table node i o))) n.share }
  match (if ins.length ≤ 1 then ins.head? else ins.find? fun i => n.share.get 0 (5 * key + i) ≠ 0) with
  | none => none
  | some i =>
    let n : Net := { n with share := n.share.set 0 (5 * key + i) (n.share.get 0 (5 * key + i) - 1) }
    if i < 4 then (l.find? fun f => f.inp = i).map fun f => (f, n)
    else
      let t := n.turn.get 15 key
      match ((List.range 16).map fun j => (t + 1 + j) % 16).find? fun p => l.any fun f => f.inp = 4 + p with
      | none => none
      | some p => (l.find? fun f => f.inp = 4 + p).map fun f => (f, { n with turn := n.turn.set 15 key p })

/-- R250: of the flits that may go, the one to which the next slot of an output is granted: VC0, then the oldest escalated one,
then by the weights `w` of the VCs. -/
def Net.choose (n : Net) (w : Nat → Nat) (node o : Nat) (l : List NFlit) : Option (NFlit × Net) :=
  let of (vc : Nat) : List NFlit := l.filter fun f => f.vc = vc
  if l.any fun f => f.vc = 0 then n.pickInput node o 0 (of 0)
  else
    match (l.filter NFlit.esc).foldl (fun a f => match a with
        | none => some f
        | some g => if f.since < g.since then some f else some g) (none : Option NFlit) with
    | some f => some (f, n)
    | none =>
      let vcs := ([ 1, 2, 3, 4, 5]).filter fun v => l.any fun f => f.vc = v
      let key := 6 * outKey node o
      let n : Net :=
        if vcs.any fun v => n.quota.get 0 (key + v) ≠ 0 then n
        else { n with quota := ([ 1, 2, 3, 4, 5]).foldl (fun m v => m.set 0 (key + v) (max 1 (w v))) n.quota }
      match vcs.find? fun v => n.quota.get 0 (key + v) ≠ 0 with
      | none => none
      | some v => { n with quota := n.quota.set 0 (key + v) (n.quota.get 0 (key + v) - 1) }.pickInput node o v (of v)

/-- R273: the header of a packet on an alternate route carries ALT, and its CRC follows. -/
def NFlit.onAlt (f : NFlit) : NFlit :=
  if f.k ≠ 0 || wbits (f.words.getD 0 0) 26 1 = 1 then f
  else
    let w := f.words.set 0 (f.words.getD 0 0 + BitVec.ofNat 32 (2 ^ 26))
    { f with words := w, crc := flitCrc w f.vc true f.last }

/-- The same flit of the same packet, where it waits. -/
def NFlit.same (f g : NFlit) : Bool := f.num = g.num && f.k = g.k && f.node = g.node && f.inp = g.inp && f.alt = g.alt

/-- A flit goes through output `o`: it has come to its port, or waits at the next router one cycle later, three where it crosses
a seam (R35); at an output its packet goes on until its last flit has. -/
def Net.move (n : Net) (f : NFlit) (o : Nat) : Net :=
  let go := f.tos.filter fun r => r.out f.node = o
  let stay := f.tos.filter fun r => r.out f.node ≠ o
  let alt := f.altAt o
  let key := 24 * outKey f.node o + f.cls alt
  let rest := n.flits.flatMap fun g => if g.same f then (if stay.isEmpty then [] else [ { f with tos := stay }]) else [ g]
  let n : Net := { n with lock := n.lock.set 0 key (if f.last then 0 else f.num) }
  if 4 ≤ o then { n with flits := rest }
  else
    let b := nodeNext f.node o
    let t := n.mc + if nodeField b = nodeField f.node then 1 else 3
    let g : NFlit := { f with
      tos := go.map (fun r => { r with path := r.path.drop 1 }), node := b, inp := (o + 2) % 4, alt := alt, ready := t, since := t,
      esc := false }
    { n with flits := rest ++ [ if alt then g.onAlt else g] }

/-- R250, R257, R272: the flits to which output `o` may grant a slot now: none behind an escalated flit that came before, none
of another packet while one is passing, and none into a field that drains. `used` counts the flits each local port has sent. -/
def Net.ready (n : Net) (pk : List Pkt) (drain : Option Nat) (used : Store Nat) (node o : Nat) : List NFlit :=
  let old := (n.flits.filter fun f => f.node = node && f.esc && f.outs.contains o).map NFlit.since
  let shut : Bool := o < 4 && (match drain with
    | some f => nodeField (nodeNext node o) = f && nodeField node ≠ f
    | none => false)
  (n.heads node o n.flits []).filter fun f =>
    let lk := n.lock.get 0 (24 * outKey node o + f.cls (f.altAt o))
    !shut && (f.vc = 0 || old.all (f.since ≤ ·)) && (lk = 0 || lk = f.num)
      && (f.inp < 4 || used.get 0 (16 * node + (f.inp - 4)) < portRate (f.inp - 4)) && n.room pk f o

/-- The slots of one output in a cycle. -/
def Net.grant (w : Nat → Nat) (pk : List Pkt) (drain : Option Nat) (node o : Nat) (x : Net × Store Nat) : Nat → Net × Store Nat
  | 0 => x
  | fuel + 1 =>
    match x.1.choose w node o (x.1.ready pk drain x.2 node o) with
    | none => x
    | some (f, n) =>
      let used := if f.inp < 4 then x.2 else x.2.set 0 (16 * node + (f.inp - 4)) (x.2.get 0 (16 * node + (f.inp - 4)) + 1)
      Net.grant w pk drain node o (n.move f o, used) fuel

/-- R250: every output of every router grants its slots. -/
def Net.cycle (n : Net) (w : Nat → Nat) (pk : List Pkt) (drain : Option Nat) : Net :=
  let nodes := (n.flits.map NFlit.node).eraseDups
  let x := nodes.foldl (fun (x : Net × Store Nat) r =>
    let outs := ((x.1.flits.filter fun f => f.node = r).flatMap NFlit.outs).eraseDups
    outs.foldl (fun y o => Net.grant w pk drain r o y (outRate r o)) x) (n, [])
  { x.1 with mc := x.1.mc + 1 }

/-- R274: the weight of a VC. -/
def State.vcWeight (s : State) (v : Nat) : Nat :=
  s.f (match v with | 1 => MESH_VCW_W1 | 2 => MESH_VCW_W2 | 3 => MESH_VCW_W3 | 4 => MESH_VCW_W4 | _ => MESH_VCW_W5)

/-- R272: the field whose routers drain. -/
def State.drainField (s : State) : Option Nat :=
  if s.on MESH_STAT_DRAIN then (List.range 16).find? fun f => s.on (FIELD_THERM_TRIP f) && !s.meshDown f else none

/-- One cycle of the mesh. -/
def State.meshCycle (s : State) : State := { s with net := s.net.cycle s.vcWeight s.pkts s.drainField }

/-- The mesh runs while `p` holds of its routers, for at most `fuel` cycles. -/
def State.meshWhile (s : State) (p : Net → Bool) : Nat → State
  | 0 => s
  | fuel + 1 => if p s.net then s.meshCycle.meshWhile p fuel else s

/-- The mesh runs until packet `num` has come to port `dp`. -/
def State.meshFor (s : State) (num dp : Nat) : State := s.meshWhile (fun n => n.holds num dp) 4096

/-! ### Injection -/

/-- The flits of a packet at the port it enters by, with the routes it takes. -/
def Net.inject (n : Net) (sp vc : Nat) (sheaf : Bool) (contents : List (List Word)) (tos : List Route) : Net :=
  let last := contents.length - 1
  { n with
    next := n.next + 1,
    flits := n.flits ++ contents.zipIdx.map fun x =>
      ⟨n.next, x.2, x.2 = last, vc, sheaf, x.1, flitCrc x.1 vc (x.2 = 0) (x.2 = last), tos, sp / 16, 4 + sp % 16, false, n.mc, n.mc,
        false⟩ }

/-- R253, R273: the route from a router to a port. -/
def Net.route (n : Net) (node dp : Nat) : Route := ⟨pathOf n.table (nodeXY node) (nodeXY (dp / 16)), dp⟩

/-- A packet enters the mesh from port `sp` for port `dp`. -/
def State.sendAt (s : State) (p : Pkt) (sp dp : Nat) : State :=
  let q := { p with num := s.net.next, sp := sp, dp := dp }
  { s with
    pkts := s.pkts ++ [ q],
    net := s.net.inject sp (pktVc p.typ) (p.typ = tSheaf) q.contents [ s.net.route (sp / 16) dp] }

/-- A packet enters the mesh from its source's port for its destination's. -/
def State.send (s : State) (p : Pkt) : State :=
  let sp := s.place p.src (0, 0)
  s.sendAt p sp (s.place p.dst (nodeXY (sp / 16)))

def State.sendAll (s : State) (l : List Pkt) : State := l.foldl State.send s

/-- R262: copies of one MCAST packet, one for each member, enter the mesh as one, whose tree is the union of the routes. -/
def State.sendTree (s : State) (l : List Pkt) : State :=
  match l with
  | [] => s
  | p :: _ =>
    let sp := s.place p.src (0, 0)
    let m := l.map fun q => { q with num := s.net.next, sp := sp, dp := s.landPlace q.dst }
    let tos := (m.map Pkt.dp).eraseDups.map (s.net.route (sp / 16))
    { s with
      pkts := s.pkts ++ m,
      net := s.net.inject sp 3 false ({ p with num := s.net.next, sp := sp, dp := s.landPlace p.dst }).contents tos }

/-- The endpoint a VC0 flit goes to. -/
def Flit.dst : Flit → Nat
  | .credit _ core .. => core
  | .inbox _ c .. => 1024 + c
  | .copy c _ => 1024 + c
  | .halt n _ => 1024 + n / 32
  | .exc n _ => 1024 + n / 32

/-- The partition a VC0 flit belongs to. -/
def State.flitPart (s : State) (fl : Flit) : Nat :=
  match fl with
  | .credit p .. => p
  | .inbox p .. => p
  | .copy c _ => s.partOf c
  | .halt n _ => s.partOf (n / 32)
  | .exc n _ => s.partOf (n / 32)

/-- A VC0 flit enters the mesh from port `sp`. -/
def State.launch (s : State) (sp : Nat) (fl : Flit) : State :=
  let dp := s.place fl.dst (0, 0)
  let h := { pkt0 0 (s.flitPart fl) 1056 fl.dst with num := s.net.next, sp := sp, dp := dp }
  { s with
    flits := s.flits ++ [ ⟨s.net.next, sp, fl⟩],
    net := s.net.inject sp 0 false h.contents [ s.net.route (sp / 16) dp] }

/-- R313: a flit goes over the sequencer bus of cluster `c`, which draws on no bucket. -/
def State.launchBus (s : State) (c : Nat) (fl : Flit) : State := { s with flits := s.flits ++ [ ⟨0, 2048 + c, fl⟩] }

/-- Packets and VC0 flits leave the mesh without arriving. -/
def State.purge (s : State) (pk : Pkt → Bool) (fl : Flit → Bool) : State :=
  let gone := (s.pkts.filter pk).map fun p => (p.num, p.dp)
  let nums := (s.flits.filter fun x => fl x.fl).map Flight.num
  let left := s.net.flits.filterMap fun f =>
    let tos := f.tos.filter fun r => !gone.contains (f.num, r.dp)
    if tos.isEmpty || nums.contains f.num then none else some { f with tos := tos }
  { s with
    pkts := s.pkts.filter fun p => !pk p, flits := s.flits.filter fun x => !fl x.fl,
    net := { s.net with flits := left, lock := s.net.lock.filter fun e => left.any fun f => f.num = e.2 } }

/-- R254: packets of one source, one destination and one channel arrive in the order sent. -/
def mayArrive (l : List Pkt) (i : Nat) : Bool :=
  match l[i]? with
  | none => false
  | some p => !(l.take i).any fun e => e.src = p.src && e.dst = p.dst && pktVc e.typ = pktVc p.typ

/-- The same of VC0 flits. -/
def mayFly (l : List Flight) (i : Nat) : Bool :=
  match l[i]? with
  | none => false
  | some x => !(l.take i).any fun e => e.src = x.src && e.fl.dst = x.fl.dst

/-- Packet `i` in flight arrives, if it is of the type given and may arrive now: the mesh runs until it is at its port, and it
leaves the mesh. -/
def State.arrival (s : State) (i typ : Nat) : Option (Pkt × State) :=
  match s.pkts[i]? with
  | some p =>
    if p.typ = typ ∧ mayArrive s.pkts i then
      let t := s.meshFor p.num p.dp
      if t.inNet p then none else some (p, { t with pkts := t.pkts.eraseIdx i })
    else none
  | none => none

/-- VC0 flit `i` comes to its endpoint's port, where it still lies. -/
def State.flight (s : State) (i : Nat) : Option (Flit × State) :=
  match s.flits[i]? with
  | some x =>
    if mayFly s.flits i then
      let t := s.meshFor x.num (s.place x.fl.dst (0, 0))
      if t.net.holds x.num (s.place x.fl.dst (0, 0)) then none else some (x.fl, t)
    else none
  | none => none

/-- The response to a request (R247), with a status and the data of a read: it leaves from the port that received the request
(R222). -/
def State.respond (s : State) (p : Pkt) (typ : Nat) (st : Status) (d : List Byte) : State :=
  s.sendAt { pkt0 typ p.part p.dst p.src with
    addr := p.addr, len := p.len, txid := p.txid, gid := p.gid, status := st, seg := p.seg, data := d } p.dp p.sp

/-! ### The VC0 buckets (R251) -/

def State.vport (s : State) (pl : Nat) : VPort := Store.get VPort.reset s.vports pl
def State.setVport (s : State) (pl : Nat) (v : VPort) : State := { s with vports := Store.set VPort.reset s.vports pl v }

/-- R424: the partition of a cluster is being aborted: its ports inject only responses. -/
def State.aborting (s : State) (c : Nat) : Bool := s.partOf c ≠ 0xFF && s.f (PART_STAT_ABORT (partCsr (s.partOf c))) ≠ 0

/-- The partition of the endpoints at a router is being aborted; corner dies belong to none. -/
def State.portShut (s : State) (pl : Nat) : Bool := pl % 16 ≠ 14 && s.aborting (nodeClu (pl / 16))

/-- R251: the endpoint and its router have a flit to spend. -/
def State.mayLaunch (s : State) (pl : Nat) : Bool :=
  !s.portShut pl && (s.vport pl).bucket ≠ 0 && Store.get 2 s.rbucket (pl / 16) ≠ 0

/-- A flit of port `pl` spends both. -/
def State.launchPaid (s : State) (pl : Nat) (fl : Flit) : State :=
  let v := s.vport pl
  ({ s.setVport pl { v with bucket := v.bucket - 1 } with
    rbucket := Store.set 2 s.rbucket (pl / 16) (Store.get 2 s.rbucket (pl / 16) - 1),
    rturn := Store.set 15 s.rturn (pl / 16) (pl % 16) }).launch pl fl

/-- R251: put a VC0 flit into the mesh from port `pl`: at once while both buckets allow it, else in order at its port. -/
def State.injectAt (s : State) (pl : Nat) (fl : Flit) : State :=
  if (s.vport pl).queue.isEmpty && s.mayLaunch pl then s.launchPaid pl fl
  else s.setVport pl { s.vport pl with queue := (s.vport pl).queue ++ [ fl] }

/-- R251: flits that wait at the ports of a router go while the buckets allow it, the ports in turn. -/
def State.drainRouter (s : State) (node : Nat) : Nat → State
  | 0 => s
  | fuel + 1 =>
    let t := Store.get 15 s.rturn node
    match ((List.range 16).map fun j => 16 * node + (t + 1 + j) % 16).find? fun pl =>
        !(s.vport pl).queue.isEmpty && s.mayLaunch pl with
    | none => s
    | some pl =>
      match (s.vport pl).queue with
      | [] => s
      | fl :: r => ((s.setVport pl { s.vport pl with queue := r }).launchPaid pl fl).drainRouter node fuel

/-- R251: the endpoint of control core `h` may inject a VC0 flit now. -/
def State.mayInject (s : State) (h : Nat) : Bool :=
  let pl := s.place h (0, 0)
  (s.vport pl).queue.isEmpty && s.mayLaunch pl

/-- R251, R260: control core `h` sends a VC0 flit; a cluster in no partition injects nothing. -/
def State.inject (s : State) (h : Nat) (fl : Flit) : State :=
  if s.partOf (hartClu h) = 0xFF then s else s.injectAt (s.place h (0, 0)) fl

end Sys2Proof.Machine
end

