-- ==== Sys2Proof/Machine/Queues.lean ====
section
/-!
DEFINITION. Engine queues and the issue queue: the forms of commands and the checks at the head of a queue (R163,
R175, R179–R186, R310, R318–R322), reservations (R117), the scoreboard (R166–R168, R544), issue (R161, R165, R310),
completion and its record (R169–R174), and the credits and flits a completion sends (R144–R147, R171, R251, R313).
-/

namespace Sys2Proof.Machine

/-- A sequencer's control core. -/
def isSeqHart (h : Nat) : Bool := 1024 ≤ h

/-! ### Matrix commands (R44, R66, R91, R179, R180) -/

/-- Geometry of a pass: K elements per pass, weight tiles, activation rows per tile, the largest M. -/
structure Geom where
  k : Nat
  wt : Nat
  rpt : Nat
  mmax : Nat
deriving DecidableEq, Repr

/-- A 6-bit or 8-bit float format (R44). -/
def Fmt.isF8 : Fmt → Bool
  | .e3m2 | .e2m3 | .e4m3 | .e5m2 => true
  | _ => false

/-- R44, R66, R91: the pairings each opcode accepts, with their geometry. -/
def mqGeom (op : Nat) (a w : Fmt) : Option Geom :=
  match op with
  | 1 =>
    if a = w ∧ (a = .e2m1 ∨ a = .int4) then some ⟨256, 2, 32, 1024⟩
    else if (a.isF8 && w.isF8) ∨ (a = w ∧ (a = .mxint8 ∨ a = .int8)) then some ⟨128, 2, 32, 1024⟩
    else if a = w ∧ (a = .bf16 ∨ a = .fp16) then some ⟨128, 4, 16, 512⟩
    else none
  | 2 | 3 | 4 | 5 | 6 => if a = w ∧ (a = .int8 ∨ a = .e4m3) then some ⟨128, 2, 32, 1024⟩ else none
  | 7 => if a = w ∧ a = .int1 then some ⟨1024, 2, 32, 1024⟩ else none
  | _ => none

/-- The fields of an MQ command (R179). -/
structure MqF where
  afmt : Nat
  wfmt : Nat
  ta : Nat
  tw : Nat
  tout : Nat
  m : Nat
  gb : Nat
  scale : Int
  guardHb : Nat
  ghset : Bool
  clear : Bool
  close : Bool
  keep : Bool
  acc : Bool
deriving DecidableEq, Repr

def Cmd.mq (k : Cmd) : MqF :=
  ⟨k.fld 2 0 4, k.fld 2 4 4, k.fld 2 8 6, k.fld 2 14 6, k.fld 2 20 6, k.fld 3 0 11, k.fld 3 12 4,
    wsigned (k.word 3) 16 8, k.fld 3 24 5, k.fld 3 29 1 = 1, k.fld 3 30 1 = 1, k.fld 3 31 1 = 1,
    k.fld 4 0 1 = 1, k.fld 4 1 1 = 1⟩

def Cmd.mqGeo (k : Cmd) : Option Geom :=
  match fmtOf k.mq.afmt, fmtOf k.mq.wfmt with
  | some a, some w => mqGeom k.op a w
  | _, _ => none

/-- MAXPLUS and MINPLUS, which write tile registers (R95). -/
def isPlus (op : Nat) : Bool := op = 5 || op = 6

/-- Activation tiles of a pass (R68). -/
def MqF.actTiles (f : MqF) (g : Geom) : Nat := (f.m + g.rpt - 1) / g.rpt
/-- Regions, or output tiles, of a pass (R88, R95). -/
def MqF.outUnits (f : MqF) : Nat := (f.m + 63) / 64
/-- The guard headroom in force: 8 unless GHSET (R64, R179). -/
def MqF.hb (f : MqF) : Nat := if f.ghset then f.guardHb else 8

/-- Two runs of tiles share a tile. -/
def runsMeet (a la b lb : Nat) : Bool := a < b + lb && b < a + la

/-- R163, R180: the fields of an MQ command are in order. -/
def Cmd.mqOk (k : Cmd) : Bool :=
  let f := k.mq
  k.fld 2 26 6 = 0 && k.fld 3 11 1 = 0 && k.fld 4 2 30 = 0 && k.word 5 = 0 && k.word 6 = 0 && k.word 7 = 0 &&
  match k.mqGeo with
  | none => false
  | some g =>
    let na := f.actTiles g
    let nw := g.wt
    let nout := f.outUnits
    (1 ≤ f.m && f.m ≤ g.mmax) && f.ta + na ≤ 64
      && (f.keep || (f.tw + nw ≤ 64 && !runsMeet f.ta na f.tw nw)) && (!f.keep || f.tw = 0)
      && (if isPlus k.op then
            f.gb = 0 && f.scale = 0 && f.guardHb = 0 && !f.ghset && !f.clear && !f.close
              && f.tout + nout ≤ 64 && !runsMeet f.tout nout f.ta na && (f.keep || !runsMeet f.tout nout f.tw nw)
          else
            f.tout = 0 && !f.acc && (f.ghset || f.guardHb = 0) && (f.clear || !f.ghset) && f.gb + nout ≤ 16
              && (!(k.op = 4 || k.op = 7) || f.scale ≤ 0))

/-! ### Vector commands (R181, R182) -/

/-- The fields of a VQ command. -/
structure VqF where
  ta : Nat
  areg : Bool
  afmt : Nat
  tb : Nat
  bkind : Nat
  breg : Bool
  bfmt : Nat
  tc : Nat
  td : Nat
  dfmt : Nat
  te : Nat
  r : Nat
  scale : Int
  wlog : Nat
  sd : Nat
  pp : Nat
  pen : Bool
  pcond : Nat
  sx : Nat
  sy : Nat
  cond : Nat
  z0 : Bool
  rms : Bool
  key : Bool
deriving DecidableEq, Repr

def Cmd.vq (k : Cmd) : VqF :=
  ⟨k.fld 2 0 6, k.fld 2 6 1 = 1, k.fld 2 8 4, k.fld 2 12 6, k.fld 2 18 2, k.fld 2 20 1 = 1, k.fld 2 22 4, k.fld 2 26 6,
    k.fld 3 0 6, k.fld 3 8 4, k.fld 3 12 6, k.fld 3 20 11, wsigned (k.word 4) 0 8, k.fld 4 8 4, k.fld 4 16 5,
    k.fld 4 21 3, k.fld 4 24 1 = 1, k.fld 4 25 3, k.fld 5 0 5, k.fld 5 5 5, k.fld 5 10 3,
    k.fld 5 13 1 = 1, k.fld 5 14 1 = 1, k.fld 5 15 1 = 1⟩

/-- How an opcode uses an operand. -/
inductive VUse where
  | none | run | regions | grains | any | rowvec | gammaBeta
deriving DecidableEq, Repr

/-- The row of R182's table: A, B, C, D, E, then which of SCALE, WLOG, the scalar destination, SY, COND, Z0, RMS and
KEY it names. -/
structure VRow where
  a : VUse
  b : VUse
  c : VUse
  d : VUse
  e : VUse
  scale : Bool
  wlog : Bool
  red : Bool
  sy : Bool
  cond : Bool
  z0 : Bool
  rms : Bool
  key : Bool
deriving DecidableEq, Repr

/-- R182. `regions` is a run or regions, `grains` a grain run or regions, `any` any BKIND, of tile registers. -/
def vqRow (op : Nat) : Option VRow :=
  match op with
  | 0x00 | 0x01 | 0x02 | 0x04 | 0x05 =>
    some ⟨.run, .any, .none, .run, .none, false, false, false, false, false, false, false, false⟩
  | 0x03 => some ⟨.run, .any, .run, .run, .none, false, false, false, false, false, false, false, false⟩
  | 0x06 | 0x07 => some ⟨.run, .none, .none, .run, .none, false, false, false, false, false, false, false, false⟩
  | 0x08 => some ⟨.run, .any, .none, .run, .none, false, false, false, false, true, false, false, false⟩
  | 0x09 => some ⟨.run, .any, .run, .run, .none, false, false, false, false, false, false, false, false⟩
  | 0x10 | 0x11 | 0x12 | 0x13 | 0x14 =>
    some ⟨.run, .none, .none, .run, .none, false, false, false, false, false, false, false, false⟩
  | 0x15 => some ⟨.run, .none, .none, .run, .none, false, false, false, false, false, true, false, false⟩
  | 0x18 => some ⟨.regions, .none, .none, .run, .none, false, false, false, false, false, false, false, false⟩
  | 0x19 => some ⟨.grains, .grains, .none, .grains, .none, true, false, false, false, false, false, false, false⟩
  | 0x1A => some ⟨.grains, .none, .none, .grains, .none, true, false, false, false, false, false, false, false⟩
  | 0x20 | 0x21 => some ⟨.run, .none, .none, .rowvec, .none, false, true, false, false, false, false, false, false⟩
  | 0x22 => some ⟨.run, .rowvec, .none, .run, .rowvec, false, true, false, false, false, false, false, false⟩
  | 0x23 => some ⟨.run, .none, .none, .rowvec, .rowvec, false, true, false, true, false, false, true, false⟩
  | 0x24 => some ⟨.run, .rowvec, .rowvec, .run, .gammaBeta, false, true, false, false, false, false, false, false⟩
  | 0x30 | 0x31 | 0x32 =>
    some ⟨.run, .none, .none, .none, .none, false, false, true, false, false, false, false, false⟩
  | 0x33 => some ⟨.run, .none, .none, .none, .none, false, false, true, true, false, false, false, true⟩
  | 0x34 => some ⟨.run, .none, .none, .none, .none, false, false, true, true, true, false, false, false⟩
  | 0x35 => some ⟨.grains, .none, .none, .none, .none, true, false, true, false, false, false, false, false⟩
  | _ => none

/-- Tile registers a row vector of `rows` logical rows takes (R182). -/
def vecTiles (rows : Nat) : Nat := (rows + 1023) / 1024

/-- Element rows of a column vector's tile that are read: row 0 (R107). -/
def fmtCode (f : Fmt) : Nat :=
  match f with
  | .e2m1 => 0 | .e3m2 => 1 | .e2m3 => 2 | .e4m3 => 3 | .e5m2 => 4 | .mxint8 => 5 | .int8 => 6 | .int4 => 7
  | .bf16 => 8 | .fp16 => 9 | .fp32 => 10 | .int1 => 11 | .grain => 12

/-- A run as units of the scoreboard: first unit, how many, and its format; regions are numbered from 64. -/
structure Run where
  first : Nat
  count : Nat
  fmt : Fmt
  reg : Bool
deriving DecidableEq, Repr

def Run.ok (x : Run) : Bool := if x.reg then x.first + x.count ≤ 16 else x.first + x.count ≤ 64
def Run.units (x : Run) : List Nat := (List.range x.count).map fun i => x.first + i + (if x.reg then 64 else 0)
def tileRun (t : Nat) (f : Fmt) (rows : Nat) : Run := ⟨t, runTiles f rows, f, false⟩
def grainRun (reg : Bool) (t rows : Nat) : Run := ⟨t, grainUnits reg rows, .grain, reg⟩
def vecRun (t rows : Nat) : Run := ⟨t, vecTiles rows, .fp32, false⟩

/-- The input runs and output runs a VQ command names; none where a format code or a form is refused. DEDUCED (log
entry 22): regions only where R182's row says "or regions"; with BKIND 1 any listed BFMT is accepted and unused. -/
def Cmd.vqRuns (k : Cmd) : Option (List Run × List Run) :=
  let f := k.vq
  match vqRow k.op with
  | none => none
  | some row =>
    let w := 2 ^ f.wlog
    let logical := f.r / w
    let opnd (u : VUse) (t : Nat) (reg : Bool) (code rows : Nat) : Option (List Run) :=
      match u with
      | .none => if t = 0 && !reg && code = 0 then some [] else none
      | .run => if reg then none else (fmtOf code).map fun x => [tileRun t x rows]
      | .regions =>
        if reg then (if code = 12 then some [grainRun true t rows] else none)
        else (fmtOf code).map fun x => [tileRun t x rows]
      | .grains => if code = 12 then some [grainRun reg t rows] else none
      | .rowvec => if code = 10 && !reg then some [vecRun t logical] else none
      | _ => none
    let a := opnd row.a f.ta f.areg f.afmt f.r
    let b : Option (List Run) :=
      match row.b with
      | .any =>
        if f.breg then none
        else match f.bkind with
          | 0 => opnd .run f.tb false f.bfmt f.r
          | 1 => if f.tb < 32 then (fmtOf f.bfmt).map fun _ => [] else none
          | 2 => if f.bfmt = 10 then some [vecRun f.tb f.r] else none
          | _ => (fmtOf f.bfmt).map fun x => [⟨f.tb, 1, x, false⟩]
      | .grains => if f.bkind = 0 then opnd .grains f.tb f.breg f.bfmt f.r else none
      | .rowvec => if f.bkind = 2 && !f.breg then opnd .rowvec f.tb false f.bfmt f.r else none
      | _ => if f.bkind = 0 then opnd .none f.tb f.breg f.bfmt f.r else none
    let c : Option (List Run) :=
      match row.c with
      | .run => (fmtOf f.afmt).map fun x => [tileRun f.tc x f.r]
      | .rowvec => some [vecRun f.tc logical]
      | _ => if f.tc = 0 then some [] else none
    let d : Option (List Run) :=
      match row.d with
      | .none => if f.td = 0 && f.dfmt = 0 then some [] else none
      | .grains => if f.dfmt = 12 then some [grainRun false f.td f.r] else none
      | .rowvec => if f.dfmt = 10 then some [vecRun f.td logical] else none
      | _ => if f.dfmt = 11 then none else (fmtOf f.dfmt).map fun x => [tileRun f.td x f.r]
    let ein : List Run :=
      match row.e with
      | .gammaBeta => [tileRun f.te .fp32 w, tileRun (f.te + (w + 15) / 16) .fp32 w]
      | _ => []
    let eout : List Run :=
      match row.e with
      | .rowvec => [vecRun f.te logical]
      | _ => []
    match a, b, c, d with
    | some a, some b, some c, some d =>
      if row.e = .none && f.te ≠ 0 then none else some (a ++ b ++ c ++ ein, d ++ eout)
    | _, _, _, _ => none

/-- An output run overlaps an input run of a different format (R103). -/
def runClash (ins outs : List Run) : Bool :=
  outs.any fun o => ins.any fun i => o.fmt ≠ i.fmt && o.reg = i.reg && runsMeet o.first o.count i.first i.count

/-- R103, R107 (CVT takes no INT1), R112, R115 (a reduction to an FP32 or index reads no grains), R163, R181, R182: the fields of a VQ command are in order. -/
def Cmd.vqOk (k : Cmd) : Bool :=
  let f := k.vq
  k.fld 2 7 1 = 0 && k.fld 2 21 1 = 0 && k.fld 3 6 2 = 0 && k.fld 3 18 2 = 0 && k.fld 3 31 1 = 0 &&
  k.fld 4 12 4 = 0 && k.fld 4 28 4 = 0 && k.fld 5 16 16 = 0 && k.word 6 = 0 && k.word 7 = 0 &&
  (!f.areg || k.fld 2 4 2 = 0) && (!f.breg || k.fld 2 16 2 = 0) &&
  match vqRow k.op, k.vqRuns with
  | some row, some (ins, outs) =>
    (1 ≤ f.r && f.r ≤ 1024) && (k.op ≠ 0x18 || f.afmt ≠ 11)
      && (!row.red || row.a = .grains || f.afmt ≠ 12) && ins.all Run.ok && outs.all Run.ok && !runClash ins outs
      && (row.scale || f.dfmt = 12 || f.scale = 0)
      && (if row.wlog then f.wlog ≤ 8 && f.r % 2 ^ f.wlog = 0 else f.wlog = 0)
      && (if row.red then f.pcond ≤ 5
          else f.sd = 0 && f.pp = 0 && !f.pen && f.pcond = 0 && f.sx = 0)
      && (row.sy || f.sy = 0) && (if row.cond then f.cond ≤ 5 else f.cond = 0) && (row.z0 || !f.z0)
      && (row.rms || !f.rms) && (row.key || !f.key)
      && (!(k.op = 0x35 || f.key) || (f.sd % 2 = 0 && f.sd ≠ 0))
  | _, _ => false

/-- Reductions to scalar (R115). -/
def isReduction (op : Nat) : Bool := 0x30 ≤ op && op ≤ 0x35

/-- R115–R117: the scalar registers a VQ command reserves. -/
def Cmd.resRegs (k : Cmd) : List Nat :=
  if k.q = 1 && isReduction k.op then
    (if k.op = 0x35 || (k.op = 0x33 && k.vq.key) then [k.vq.sd, k.vq.sd + 1] else [k.vq.sd]).filter
      fun r => r ≠ 0 && r < 32
  else []

/-- R119, R124: the predicate a VQ command reserves. -/
def Cmd.resPred (k : Cmd) : List Nat :=
  if k.q = 1 && isReduction k.op && k.vq.pen && k.vq.pp ≠ 0 then [k.vq.pp] else []

/-! ### Mover and mesh-port commands (R183–R186) -/

def Cmd.esize (k : Cmd) : Nat := k.fld 6 0 3
def Cmd.shape (k : Cmd) : Nat := k.fld 6 4 4
/-- DESC: a DMEM offset, or for a cluster mover an SDMEM offset divided by 2 (R319). -/
def Cmd.desc (k : Cmd) (seq : Bool) : Nat := if seq then 2 * k.fld 6 8 15 else k.fld 6 8 15
def Cmd.aptr (k : Cmd) : Nat := k.fld 7 0 4

/-- A mover's word 6 and 7 for an opcode: fields the opcode does not use are 0 (R163, R184). -/
def Cmd.mvTail (k : Cmd) (esz shp dsc ap : Bool) : Bool :=
  k.fld 6 3 1 = 0 && k.fld 6 23 9 = 0 && k.fld 7 4 28 = 0 && (esz || k.esize = 0) && (shp || k.shape = 0)
    && (dsc || k.fld 6 8 15 = 0) && (ap || k.aptr = 0) && k.esize ≤ 6

/-- R163, R184, R198, R214, R319: the fields of a mover command are in order; `seq` for a cluster mover. -/
def Cmd.mvOk (k : Cmd) (seq : Bool) : Bool :=
  let e1 := k.endpoint 2
  let e2 := k.endpoint 4
  let dmemTop := if seq then 0xFFA0 else 0x7FA0
  match k.op with
  | 1 =>
    k.mvTail true true true false && e1.formOk && e2.formOk && e2.kind ≠ 2 && k.shape ≤ 3
      && (!(k.shape = 1 || k.shape = 2) || 2 ≤ k.esize)
      && (k.shape ≠ 3 || e1.kind = 1 || e2.kind = 1) && (k.shape ≠ 3 || e1.kind ≠ 2)
      && k.desc seq % 32 = 0 && k.desc seq ≤ dmemTop && (!seq || (e1.kind = 0 && e2.kind = 0))
  | 2 =>
    k.mvTail true true false false && e1.streamForm && e2.formOk && e2.kind ≠ 2
      && (k.shape = 0 || (k.shape = 3 && e2.kind = 1)) && (!seq || e2.kind = 0)
  | 3 =>
    k.mvTail true true false false && e1.formOk && e2.streamForm
      && (k.shape = 0 || (k.shape = 3 && e1.kind = 1)) && (!seq || e1.kind = 0)
  | 4 => !seq && k.mvTail true true false true && k.shape = 0 && e1.formOk && e2.isZero
  | 5 => !seq && k.mvTail false false false true && e1.isZero && e2.isZero
  | _ => false

/-- R186: LEN of a mesh-port command. -/
def Cmd.len (k : Cmd) : Nat := k.fld 6 0 25

/-- An address in the core's own window (R186). -/
def ownWindow (h a : Nat) : Bool :=
  match target a with
  | .loft n _ | .imem n _ | .dmem n _ => n = h
  | _ => false

/-- A local endpoint of a mesh-port command (R186): a run that holds LEN bytes, or an address in the own window. -/
def Endpoint.localOk (e : Endpoint) (h len : Nat) : Bool :=
  e.formOk &&
  match e.kind with
  | 0 => ownWindow h e.dev && ownWindow h (e.dev + len - 1)
  | 1 => e.addr * 4096 + len ≤ 64 * 4096
  | _ => e.addr * 32768 + len ≤ 16 * 32768

/-- R163, R186: the fields of a mesh-port command are in order. -/
def Cmd.nqOk (k : Cmd) (h : Nat) : Bool :=
  let e1 := k.endpoint 2
  let e2 := k.endpoint 4
  k.fld 6 25 7 = 0 && 1 ≤ k.len && k.len ≤ 16777216 &&
  match k.op with
  | 1 => k.word 7 = 0 && e1.localOk h k.len && e2.formOk && e2.kind = 0
  | 2 => k.word 7 = 0 && e1.formOk && e1.kind = 0 && e2.kind ≠ 2 && e2.localOk h k.len
  | 3 => k.fld 7 8 24 = 0 && e1.localOk h k.len && e2.isZero
  | 4 => k.fld 7 8 24 = 0 && k.len % 8 = 0 && e1.kind ≠ 0 && e1.localOk h k.len && e2.isZero
  | _ => false

/-! ### Commands of the sequencer (R310, R318–R322) -/

/-- R310, R318–R322: the fields of a command for target `k.q` of a sequencer are in order. -/
def Cmd.seqOk (k : Cmd) (h : Nat) : Bool :=
  let z (a b : Nat) : Bool := (List.range (b + 1 - a)).all fun i => k.word (a + i) = 0
  (!(k.seqb && k.cen) || k.ccore = 0) &&
  if k.q = 0 then
    z 4 7 && k.word 2 ≠ 0 &&
    (if k.op = 1 then k.fld 3 16 16 = 0 && k.fld 3 0 2 = 0
     else k.op = 2 && k.fld 3 4 4 = 0 && k.fld 3 16 16 = 0 && k.fld 3 8 8 ≠ 0)
  else if k.q ≤ 8 then k.mvOk true
  else if k.q = 9 then
    z 4 7 && 1000 ≤ (k.word 3).toNat && (k.word 3).toNat ≤ 10000000 &&
    stackAt ((h - 1024) / 2) (k.fld 2 0 1) < 24 &&
    (if k.op = 1 then k.fld 2 1 3 = 0 && k.fld 2 8 24 = 0 && 1 ≤ k.fld 2 4 4 && k.fld 2 4 4 ≤ 12
     else k.op = 2 && k.fld 2 1 31 = 0)
  else if k.q = 10 then
    match k.op with
    | 1 => z 4 7 && k.fld 2 15 1 = 0 && k.fld 2 26 6 = 0 && k.fld 3 16 16 = 0 && k.fld 3 0 4 = 0
             && 1 ≤ k.fld 2 8 7 && k.fld 2 8 7 ≤ 64 && k.fld 3 0 16 + 16 * k.fld 2 8 7 ≤ 0x10000
    | 2 | 4 => z 3 7 && k.fld 2 8 24 = 0
    | 3 => true
    | _ => false
  else
    match k.op with
    | 1 => z 2 7
    | 2 => z 4 7 && k.timed && 1000 ≤ (k.word 2).toNat && (k.word 2).toNat ≤ 100000000 && k.fld 3 4 28 = 0
    | _ => false

/-- R163: the command is in order for its queue. -/
def Cmd.formOk (k : Cmd) (h : Nat) : Bool :=
  k.headerOk && (!k.xy || (if isSeqHart h then 1 ≤ k.q && k.q ≤ 8 else 2 ≤ k.q)) &&
  if isSeqHart h then k.seqOk h
  else match k.q with
    | 0 => k.mqOk
    | 1 => k.vqOk
    | 2 | 3 => k.mvOk false
    | _ => k.nqOk h

/-- The stream commands: GATHER and SCATTER (R199). -/
def Cmd.isStream (k : Cmd) (h : Nat) : Bool :=
  (if isSeqHart h then 1 ≤ k.q && k.q ≤ 8 else k.q = 2 || k.q = 3) && (k.op = 2 || k.op = 3)

/-- Endpoints of a command that name device addresses checked at the head (R175, R183), with a length. -/
def Cmd.devEnds (k : Cmd) (h : Nat) : List (Nat × Nat) :=
  let e1 := k.endpoint 2
  let e2 := k.endpoint 4
  let mv := if isSeqHart h then 1 ≤ k.q && k.q ≤ 8 else k.q = 2 || k.q = 3
  if mv then
    (if (k.op = 1 || k.op = 3 || k.op = 4) && e1.kind = 0 then [(e1.dev, 1)] else []) ++
    (if (k.op = 1 || k.op = 2) && e2.kind = 0 then [(e2.dev, 1)] else [])
  else if !isSeqHart h && k.q = 4 then
    match k.op with
    | 1 => [(e2.dev, k.len)]
    | 2 => [(e1.dev, k.len)]
    | _ => []
  else []

/-- Cores named by a mask over a cluster. -/
def maskCores (c : Nat) (m : Word) : List Nat := ((List.range 32).filter fun i => m.getLsbD i).map (32 * c + ·)

/-- A run of device addresses lies in the core's own window, where no mesh port checks it (R190, R259). -/
def ownRun (h a len : Nat) : Bool := !isSeqHart h && ownWindow h a && ownWindow h (a + len - 1)

/-- R32, R175, R190, R259: the status with which control core `h` is refused a run of device addresses: RANGE at the wall
before anything else. -/
def State.accessStatus (s : State) (h a len : Nat) : Status :=
  if !ownRun h a len && !s.inPart (s.partOf (hartClu h)) a len then .range else s.runStatus a len

/-- R175: the units that a sequencer's command names beside addresses: cores to start or to credit, a stack, the source
core of a group, the core that a sheaf credits. -/
def Cmd.seqAbsent (k : Cmd) (s : State) (h : Nat) : Bool :=
  isSeqHart h && match k.q with
    | 0 => (maskCores (h - 1024) (k.word 2)).any fun n => s.absent n
    | 9 => stackAt ((h - 1024) / 2) (k.fld 2 0 1) < 24 && !s.stackOk (stackAt ((h - 1024) / 2) (k.fld 2 0 1))
    | 10 => (k.op = 1 && s.absent (k.fld 2 16 10)) || (k.op = 3 && k.fld 6 14 1 = 1 && s.absent (k.fld 6 4 10))
    | _ => false

/-- R31, R32, R163, R174, R175, R259, R260: every status that applies to a command at the head of its queue; none where it
goes on. -/
def Cmd.headStatuses (k : Cmd) (s : State) (h : Nat) : List Status :=
  let ends := k.devEnds h
  let sts := ends.map fun e => s.accessStatus h e.1 e.2
  let port := !isSeqHart h && k.q = 4
  let range := !k.formOk h || sts.contains .range
    || (port && ends.any fun e => clsBase 15 ≤ e.1 && (e.2 ≠ 4 || e.1 % 4 ≠ 0))
    || (port && 3 ≤ k.op && s.partOf (hartClu h) = 0xFF)
  (if sts.contains .absent || k.seqAbsent s h then [ Status.absent] else []) ++ if range then [ Status.range] else []

/-! ### The scoreboard (R166–R168, R544) -/

/-- Tiles 0–63 and regions 64–79 a command reads. -/
def Cmd.reads (k : Cmd) (h : Nat) : List Nat :=
  if isSeqHart h || k.fixed then []
  else
    let ends (e : Endpoint) : List Nat :=
      match e.kind, k.extS with
      | 1, some (a, b) => (List.range (b + 1 - a)).map (a + ·)
      | 1, none => (List.range (64 - e.addr)).map (e.addr + ·)
      | 2, some (a, b) => (List.range (b + 1 - a)).map (64 + a + ·)
      | 2, none => (List.range (16 - e.addr)).map (64 + e.addr + ·)
      | _, _ => []
    let fixedRun (e : Endpoint) : List Nat :=
      match e.kind with
      | 1 => (List.range ((k.len + 4095) / 4096)).map (e.addr + ·)
      | 2 => (List.range ((k.len + 32767) / 32768)).map (64 + e.addr + ·)
      | _ => []
    match k.q with
    | 0 =>
      match k.mqGeo with
      | some g => (List.range (k.mq.actTiles g)).map (k.mq.ta + ·)
          ++ (if k.mq.keep then [] else (List.range g.wt).map (k.mq.tw + ·))
          ++ (if isPlus k.op && k.mq.acc then (List.range k.mq.outUnits).map (k.mq.tout + ·) else [])
      | none => []
    | 1 => match k.vqRuns with
      | some (ins, _) => ins.flatMap Run.units
      | none => []
    | 4 => if k.op = 2 then [] else fixedRun (k.endpoint 2)
    | _ => if k.op = 1 || k.op = 3 || k.op = 4 then ends (k.endpoint 2) else []

/-- Tiles 0–63 and regions 64–79 a command writes. -/
def Cmd.writes (k : Cmd) (h : Nat) : List Nat :=
  if isSeqHart h || k.fixed then []
  else
    match k.q with
    | 0 =>
      if isPlus k.op then (List.range k.mq.outUnits).map (k.mq.tout + ·)
      else (List.range k.mq.outUnits).map (64 + k.mq.gb + ·)
    | 1 => match k.vqRuns with
      | some (_, outs) => outs.flatMap Run.units
      | none => []
    | 4 => if k.op = 2 && (k.endpoint 4).kind = 1 then
        (List.range ((k.len + 4095) / 4096)).map ((k.endpoint 4).addr + ·) else []
    | _ =>
      if (k.op = 1 || k.op = 2) && (k.endpoint 4).kind = 1 then
        match k.extD with
        | some (a, b) => (List.range (b + 1 - a)).map (a + ·)
        | none => (List.range (64 - (k.endpoint 4).addr)).map ((k.endpoint 4).addr + ·)
      else []

/-- R166: a mesh-port command that has sent its last packet has read the last element of its source. -/
def Cmd.sourceRead (k : Cmd) (h : Nat) : Bool := !isSeqHart h && k.q = 4 && k.phase = .issued && k.len ≤ k.pos

/-- R167: commands of MQ and VQ are not held against earlier commands of their own queue. -/
def sbApart (a b : Cmd) : Bool := a.q = b.q && a.q ≤ 1

/-- R166: an earlier-pushed command holds back command `k`. A command whose effects are done has finished. -/
def sbHolds (h : Nat) (k e : Cmd) : Bool :=
  e.id < k.id && e.phase ≠ .ran && !sbApart k e &&
    ((k.writes h).any (fun u => (!e.sourceRead h && (e.reads h).contains u) || (e.writes h).contains u)
      || (k.reads h).any fun u => (e.writes h).contains u)

/-- The command waits under the scoreboard. -/
def State.sbWait (s : State) (h : Nat) (k : Cmd) : Bool := (s.hart h).cmds.any (sbHolds h k)

/-! ### Access to the commands of a control core -/

/-- Two commands share a queue: a sequencer has one issue queue (R310). -/
def sameQ (h : Nat) (a b : Cmd) : Bool := isSeqHart h || a.q = b.q

def State.findCmd (s : State) (h id : Nat) : Option Cmd := (s.hart h).cmds.find? fun k => k.id = id
def State.modCmd (s : State) (h id : Nat) (g : Cmd → Cmd) : State :=
  s.modHart h fun x => { x with cmds := x.cmds.map fun k => if k.id = id then g k else k }
def State.dropCmd (s : State) (h id : Nat) : State :=
  s.modHart h fun x => { x with cmds := x.cmds.filter fun k => k.id ≠ id }

/-- Commands of queue `q` held and not completed, oldest first. -/
def State.qCmds (s : State) (h q : Nat) : List Cmd :=
  if isSeqHart h then (s.hart h).cmds else (s.hart h).cmds.filter fun k => k.q = q
/-- Records of queue `q` waiting to be popped. -/
def State.qRecs (s : State) (h q : Nat) : List Rec := (s.hart h).recs.filter fun r => r.q = q
/-- R140: slots of queue `q` held, from push to pop. -/
def State.held (s : State) (h q : Nat) : Nat := (s.qCmds h q).length + (s.qRecs h q).length
/-- R310: places of the issue queue held, from SPUSH to the pop of the record. -/
def State.iqHeld (s : State) (h : Nat) : Nat :=
  (s.hart h).cmds.length + ((s.hart h).recs.filter fun r => r.q ≠ 15).length

/-- R161, R310: the command at the head of queue `q`: the oldest that has not issued (log entry 6). -/
def State.headCmd (s : State) (h q : Nat) : Option Cmd := (s.qCmds h q).find? fun k => k.phase = .waiting

/-- R160: MQ and VQ of a core run one command after another and write their records in push order. -/
def inOrder (h q : Nat) : Bool := !isSeqHart h && q ≤ 1

/-- R117: scalar register `r` of the core is reserved. -/
def State.reservedS (s : State) (h r : Nat) : Bool :=
  !isSeqHart h && (s.hart h).cmds.any fun k => k.phase ≠ .ran && k.resRegs.contains r
/-- R119: predicate `p` of the core is reserved. -/
def State.reservedP (s : State) (h p : Nat) : Bool :=
  !isSeqHart h && (s.hart h).cmds.any fun k => k.phase ≠ .ran && k.resPred.contains p

/-! ### Flits and credits -/

/-- The credit counter of control core `h` (R144). -/
def State.credit (s : State) (h n : Nat) : Nat := s.f (CC_CRED_COUNT h n)

/-- R144, R146: add credits that have arrived to a counter. An increment past 0xFFFF_FFFF is not applied. -/
def State.addCredit (s : State) (h n amt part : Nat) : State :=
  if 0xFFFFFFFF < s.credit h n + amt then
    ((s.setF (CC_FSUM_CREDIT h) 1).raiseHart clsError 0x011 h (n + amt * 65536)).ledgerAdd part lRefused amt
  else s.setF (CC_CRED_COUNT h n) (s.credit h n + amt)

/-- Where a refused packet was bound: router x [3:0], y [6:4] (R429). -/
def State.wallData (s : State) (h : Nat) : Nat := (s.router h).1 + 16 * (s.router h).2

/-- The router to which a request from router `from_` for a device address is bound, as R429 gives it. -/
def State.dstRouter (s : State) (from_ : Nat × Nat) (a : Nat) : Nat :=
  let r : Nat × Nat :=
    match target a with
    | .loft n _ | .imem n _ | .dmem n _ => s.router n
    | .granary c _ => granaryRouter c from_
    | .hbm off => stackRouter (hbmPlace (s.f HBM_MAP_LOCAL) off).1
    | .sdmem c _ | .simem c _ => (routerX c 0, routerY c 0)
    | .csr off => if 0x10000000 ≤ off ∧ off < 0x12000000 then
        (routerX ((off - 0x10000000) / 0x100000) 0, routerY ((off - 0x10000000) / 0x100000) 0) else (0, 0)
    | .bad => (0, 0)
  r.1 + 16 * r.2

/-- R23, R214, R305: the router at which a command's requests enter the mesh. -/
def State.cmdRouter (s : State) (h : Nat) (k : Cmd) : Nat × Nat :=
  nodeXY ((if isSeqHart h && 1 ≤ k.q && k.q ≤ 8 then moverPlace (h - 1024) (k.q - 1) else s.place h (0, 0)) / 16)

/-- R32, R173: a populated run of device addresses that lies outside the partition raises a WALL Warning. -/
def State.wallEvent (s : State) (h : Nat) (k : Cmd) (a len : Nat) : State :=
  if s.runStatus a len ≠ .range && s.accessStatus h a len = .range then
    s.raiseHart clsWarning 0x002 h (s.dstRouter (s.cmdRouter h k) a)
  else s

/-- R147, R171: send `amt` credits to counter `cn` of logical core `core` from the port of control core `h`. A
target outside the partition is refused at the wall, an ABSENT core at the port; the ledger counts both as refused.
`bus` sends over the sequencer bus, which draws on no bucket (R313). -/
def State.sendCredit (s : State) (h core cn amt : Nat) (bus : Bool) : State :=
  let p := s.partOf (hartClu h)
  let s := s.ledgerAdd p lSent amt
  if p = 0xFF ∨ s.partOf (core / 32) ≠ p then
    ((s.setF (CC_FSUM_RANGE h) 1).raiseHart clsWarning 0x002 h (s.wallData core)).ledgerAdd p lRefused amt
  else if s.absent core then
    ((s.setF (CC_FSUM_ABSENT h) 1).raiseHart clsWarning 0x011 h (cn + amt * 65536)).ledgerAdd p lRefused amt
  else if bus then s.launchBus (hartClu h) (.credit p core cn amt)
  else s.inject h (.credit p core cn amt)

/-! ### Completion (R169–R174) -/

/-- ENGINE of a record (R169): the core's queue number, 5 for a cluster mover, 6 for the sequencer's targets. -/
def Cmd.engine (k : Cmd) (h : Nat) : Nat := if isSeqHart h then (if 1 ≤ k.q && k.q ≤ 8 then 5 else 6) else k.q

/-- R169: word 0 of the record. -/
def recWord0 (k : Cmd) (h : Nat) (st : Status) : Word :=
  let b (x : Bool) (i : Nat) : Nat := if x then 2 ^ i else 0
  BitVec.ofNat 32 (k.tag + k.engine h * 2 ^ 16 + st.code * 2 ^ 20 + b k.flags.sat 24 + b k.flags.nonfin 25
    + b k.flags.guard 26 + b k.flags.lost 27 + b k.clkint 28 + b k.timed 29 + b (multiStatus k.sts) 30 + b k.quiet 31)

/-- R169: the record of a command that completes now. -/
def State.mkRec (s : State) (h : Nat) (k : Cmd) : Rec :=
  let t := s.copy (hartClu h)
  ⟨if isSeqHart h then 0 else k.q, recWord0 k h (pickStatus k.sts), BitVec.ofNat 32 (min k.result 0xFFFFFFFF),
    BitVec.ofNat 32 t, BitVec.ofNat 32 (t / 2 ^ 32)⟩

/-- R120, R177: write 0 to every scalar register the command reserved and clear its predicates. -/
def State.zeroReserved (s : State) (h : Nat) (k : Cmd) : State :=
  if isSeqHart h then s
  else k.resPred.foldl (fun t p => t.setP h p false) (k.resRegs.foldl (fun t r => t.setS h r 0) s)

/-- R173: the events of the statuses that apply, hidden ones included (R174). -/
def State.statusEvents (s : State) (h : Nat) (k : Cmd) : State :=
  let d := k.tag + k.engine h * 65536
  let s := if k.sts.contains .absent then s.raiseHart clsWarning 0x001 h d else s
  let s := if k.sts.contains .ecc then s.raiseHart clsError 0x003 h d else s
  let s := if k.sts.contains .timeout then s.raiseHart clsError 0x004 h d else s
  let st := pickStatus k.sts
  if st = .ok then s else s.raiseHart clsTrace 0x0F0 h (k.tag + st.code * 65536)

/-- R265: a SHEAF that completes without having sent its contribution, at a port that holds the sheaf's entry, sends one VOID
packet for each segment. An abort closes the sheaf instead. `pos` of a SHEAF is 1 once its contribution has gone. -/
def State.voidSheaf (s : State) (h : Nat) (k : Cmd) : State :=
  let p := s.partOf (hartClu h)
  let i := k.fld 7 0 8
  let r := (s.part p).sheafAt.get 0 i
  if isSeqHart h || k.q ≠ 4 || k.op ≠ 4 || k.pos ≠ 0 || k.sts.contains .aborted || p = 0xFF || r = 0 then s
  else
    match (s.clu (r - 1)).sheaves.get none i with
    | none => s
    | some x =>
      let segs := (wbits (BitVec.ofNat 32 (s.f (SHF_DESC_WORD (r - 1) i 1))) 16 13 + 511) / 512
      let l := (List.range segs).map fun g =>
        { pkt0 tSheaf p h (sheafEp (r - 1)) with txid := x.gen, gid := i, seg := g, ccount := 1, void := true }
      (s.ledgerAdd p lInjected segs).sendAll l

/-- R171, R172, R313: complete a command: the record, `CC_FSUM` (R142), the copy and the credits. A QUIET record is
popped at once (R172). -/
def State.complete (s : State) (h id : Nat) : State :=
  match s.findCmd h id with
  | none => s
  | some k =>
    let st := pickStatus k.sts
    let p := s.partOf (hartClu h)
    let r := s.mkRec h k
    let s := (s.voidSheaf h k).dropCmd h id
    let s := if k.quiet then s.ledgerAdd p lPopped 1 else s.modHart h fun x => { x with recs := x.recs ++ [r] }
    let s := s.fsumStatus h st
    let s := if k.flags.nonfin then s.setF (CC_FSUM_NONFIN h) 1 else s
    let s := if !isSeqHart h && k.q = 1 && k.flags.sat then s.setF (VEC_STAT_SAT h) 1 else s
    let s := if !isSeqHart h && k.q = 1 && k.flags.nonfin then s.setF (VEC_STAT_NONFIN h) 1 else s
    let s := if !isSeqHart h && k.q = 1 && isReduction k.op then s.bump (VEC_STAT_REDUCTIONS h) 1 else s
    let s := if st = .late then
        (if isSeqHart h then s.bump (SEQ_DROP_LATES (h - 1024)) 1 else s.bump (EQ_QSTAT_LATES h k.q) 1) else s
    let s := if !isSeqHart h && (k.q = 2 || k.q = 3) && k.op = 4 && (k.sts.contains .ecc || k.sts.contains .timeout) then
        s.setF (AP_STAT_BROKEN h (k.q - 2) k.aptr) 1 else s
    let s := s.statusEvents h k
    let s := if k.seqb && !isSeqHart h then s.inject h (.copy (hartClu h) { r with q := 15 }) else s
    if k.cen && st ≠ .aborted then
      if isSeqHart h && k.seqb then
        (s.ledgerAdd p lSent k.camt).addCredit h k.cn k.camt p
      else s.sendCredit h k.ccore k.cn k.camt (isSeqHart h && k.ccore / 32 = h - 1024)
    else s

/-- A command ends without running: its statuses are set, its reservations written 0 (R177) and released. -/
def State.stopCmds (s : State) (h id : Nat) (sts : List Status) : State :=
  match s.findCmd h id with
  | none => s
  | some k => (s.zeroReserved h k).modCmd h id fun x => { x with sts := x.sts ++ sts, phase := .ran }
def State.stopCmd (s : State) (h id : Nat) (st : Status) : State := s.stopCmds h id [ st]

/-- Commands of the same queue that were pushed before. -/
def State.earlier (s : State) (h : Nat) (k : Cmd) : List Cmd :=
  (s.hart h).cmds.filter fun e => sameQ h e k && e.id < k.id

/-- A command ends now without running, and its record is written: in MQ and VQ only once every command pushed before it
has its own (R160). -/
def State.endNow (s : State) (h : Nat) (k : Cmd) (sts : List Status) : State :=
  let t := s.stopCmds h k.id sts
  if inOrder h k.q && !(s.earlier h k).isEmpty then t else t.complete h k.id

/-- The bytes a stream or mover command refuses count for the ledger when its plan is known (R213). -/
def State.planned (s : State) (h n written refused cancelled : Nat) : State :=
  let p := s.partOf (hartClu h)
  (((s.ledgerAdd p lPlanned n).ledgerAdd p lWritten written).ledgerAdd p lMRefused refused).ledgerAdd p lCancelled cancelled

/-! ### What a mover command plans (R185, R204, R213) -/

/-- One level of a walk (R185). -/
structure Level where
  count : Nat
  ss : Int
  ds : Int
deriving DecidableEq, Repr

/-- The 16 bytes of level `i` of the descriptor at `off`; none for a COUNT of 0 or a nonzero reserved bit. -/
def State.level (s : State) (h off i : Nat) : Option Level :=
  let w (j : Nat) : Word := s.rd32 (hartDmem h (off + 16 * i + 4 * j))
  if wbits (w 0) 0 24 = 0 ∨ wbits (w 0) 24 8 ≠ 0 ∨ wbits (w 3) 16 16 ≠ 0 then none
  else some ⟨wbits (w 0) 0 24, sxNat 40 ((w 1).toNat + 2 ^ 32 * wbits (w 3) 0 8),
    sxNat 40 ((w 2).toNat + 2 ^ 32 * wbits (w 3) 8 8)⟩

/-- R185, R319: the six levels, level 0 first. -/
def State.descr (s : State) (h : Nat) (k : Cmd) : Option (List Level) :=
  (List.range 6).mapM fun i => s.level h (k.desc (isSeqHart h)) i

/-- Bytes a WALK plans (R213). -/
def walkTotal (k : Cmd) (l : List Level) : Nat := l.foldl (fun t x => t * x.count) (2 ^ k.esize)

/-- The mover of a core's queue M0Q or M1Q. -/
def Cmd.mover (k : Cmd) : Nat := k.q - 2

/-- An APPEND, and a COMMIT, of a core mover. -/
def Cmd.isAppend (k : Cmd) (h : Nat) : Bool := !isSeqHart h && (k.q = 2 || k.q = 3) && k.op = 4
def Cmd.isCommit (k : Cmd) (h : Nat) : Bool := !isSeqHart h && (k.q = 2 || k.q = 3) && k.op = 5
/-- A WALK of a core mover or of a cluster mover. -/
def Cmd.isWalk (k : Cmd) (h : Nat) : Bool := (if isSeqHart h then 1 ≤ k.q && k.q ≤ 8 else k.q = 2 || k.q = 3) && k.op = 1

/-- R213: the bytes a WALK or an APPEND plans; a malformed command plans none (log entry 22). -/
def State.mvPlan (s : State) (h : Nat) (k : Cmd) : Nat :=
  if !k.formOk h then 0
  else if k.isWalk h then
    match s.descr h k with
    | some l => walkTotal k l
    | none => 0
  else if k.isAppend h then s.f (AP_STEP_STEP h k.mover k.aptr) else 0

/-- The status of a stream command is fixed: it only takes its entries (R545). -/
def State.fixStream (s : State) (h id : Nat) (sts : List Status) : State :=
  s.modCmd h id fun x => { x with sts := x.sts ++ sts, fixed := true, phase := .issued }

/-- R163, R175: look at the head of queue `q`; a command that fails its checks there completes at once, and the next
one is looked at. A stream command whose status is fixed this way goes on to take its entries (R545). -/
def State.settle (s : State) (h q : Nat) : Nat → State
  | 0 => s
  | fuel + 1 =>
    match s.headCmd h q with
    | none => s
    | some k =>
      let sts := k.headStatuses s h
      if sts.isEmpty then s
      else
        let s := if k.formOk h then (k.devEnds h).foldl (fun t e => t.wallEvent h k e.1 e.2) s else s
        if k.isStream h then State.settle (s.fixStream h k.id sts) h q fuel
        else
          let n := s.mvPlan h k
          State.settle ((s.planned h n 0 n 0).endNow h k sts) h q fuel

/-- Look at every queue of the control core. -/
def State.settleAll (s : State) (h : Nat) : State :=
  if isSeqHart h then s.settle h 0 64
  else ((((s.settle h 0 32).settle h 1 32).settle h 2 32).settle h 3 32).settle h 4 32

/-! ### Issue (R161, R165, R166, R310) -/

/-- R310: how many commands a target of the sequencer holds in flight. -/
def targetCap (tq : Nat) : Nat := if tq = 0 then 1 else if tq ≤ 8 then 8 else if tq ≤ 10 then 4 else 64

/-- R165: the command's launch time has come on its cluster's DTIME copy. -/
def State.timeCome (s : State) (h : Nat) (k : Cmd) : Bool := !k.timed || k.launch ≤ s.copy (hartClu h)

/-- R160, R161, R165, R202, R205, R310: nothing but the scoreboard holds the command back. A pass issues once the pass
before it has run, when its own first row slot can be ready (R165). -/
def State.mayIssue (s : State) (h : Nat) (k : Cmd) : Bool :=
  let e := s.earlier h k
  k.phase = .waiting && e.all (fun x => x.phase ≠ .waiting) && (!k.fence || e.isEmpty) && s.timeCome h k
    && (if isSeqHart h then
          ((s.hart h).cmds.filter fun x => x.q = k.q && x.phase = .issued).length < targetCap k.q
        else !inOrder h k.q || e.all fun x => x.phase = .ran)
    && !(k.isStream h && e.any fun x => x.q = k.q && x.isStream h && x.phase = .issued)
    && !(!isSeqHart h && (k.q = 2 || k.q = 3) && k.op = 5 && e.any fun x => x.op = 4 && x.aptr = k.aptr)

/-- The slack of R162, R315, in 2^-16 ns. -/
def State.slackU (s : State) (h : Nat) (k : Cmd) : Nat :=
  (if k.slack = 0 then s.f (SEQ_SLACK_DEFAULT (hartClu h)) else k.slack) * 8 * nsU

/-- R165, R169: mark the command issued now: LATE beyond its slack, CLKINT on the oscillator. -/
def State.markIssued (s : State) (h : Nat) (k : Cmd) : State :=
  let t := s.copy (hartClu h)
  let late := k.timed && k.launch + s.slackU h k < t
  s.modCmd h k.id fun x => { x with
    phase := .issued, since := t, clkint := s.on (CLK_STAT_SRC (hartClu h)),
    sts := if late then x.sts ++ [.late] else x.sts }

/-- The command has run: what it adds to its statuses, flags and RESULT. -/
def State.ranCmd (s : State) (h id : Nat) (sts : List Status) (g : Flags) (result : Nat) : State :=
  s.modCmd h id fun x => { x with phase := .ran, sts := x.sts ++ sts, flags := x.flags.or g, result := result }

/-- The oldest issued command of queue `q` with opcode `op` whose effects are still to be done; MQ and VQ run only their
oldest command that has not run (R160). -/
def State.issuedCmd (s : State) (h q op : Nat) : Option Cmd :=
  if inOrder h q then
    match (s.hart h).cmds.find? fun k => k.q = q && k.phase ≠ .ran with
    | some k => if k.phase = .issued && k.op = op then some k else none
    | none => none
  else (s.hart h).cmds.find? fun k => k.q = q && k.phase = .issued && k.op = op

/-- The cluster's clocks run: it is in Run, no over-current gate, field trip or retirement remap holds it and it is not dark
(R79, R341, R346, R355, R374, R413). -/
def State.cluRuns (s : State) (c : Nat) : Bool :=
  s.f (PST_STAT_STATE c) = 0 && !(s.harts.any fun (e : Nat × Hart) => e.1 / 32 = c && e.2.remap.isSome) && !s.on (REG_STAT_OCGATE c) && !s.on (REG_STAT_OCHELD c) && !s.on (REG_STAT_DARK c)
    && !s.on (FIELD_THERM_TRIP (c / 2))

/-! ### Weight loads (R72–R75) -/

/-- The next pass that loads weights: the first one not run without KEEP. -/
def State.nextLoad (s : State) (n : Nat) : Option Cmd :=
  (s.qCmds n 0).find? fun k => k.phase ≠ .ran && !k.mq.keep

/-- R74: the tiles of the next weight set are readable: no earlier command still writes one of them. -/
def State.weightsReady (s : State) (n : Nat) (k : Cmd) (tiles : Nat) : Bool :=
  !(s.hart n).cmds.any fun e => e.id < k.id && e.phase ≠ .ran &&
    (List.range tiles).any fun i => (e.writes n).contains (k.mq.tw + i)

/-- R74, R75: the load of the next weight set goes on. -/
def State.loadGoes (s : State) (n : Nat) : Bool :=
  match s.nextLoad n with
  | none => false
  | some k =>
    match k.mqGeo with
    | none => false
    | some g => (s.hart n).standby.isNone && k.formOk n && s.cluRuns (n / 32) && s.weightsReady n k g.wt

/-- R84: the array is cold: from reset, or since no row slot has entered it for 10,000 ns. -/
def State.coldArray (s : State) (n : Nat) : Bool :=
  s.on (ARRAY_STATE_COLD n) ||
    (!s.on (ARRAY_STATE_RAMPING n) && (s.hart n).lastSlot + 10000 * nsU ≤ s.copyU (hartClu n))

/-- R84, R85: row slots may be in the array: a pass has issued, and no ramp holds back its first slot. -/
def State.slotsIn (s : State) (n : Nat) : Bool :=
  (s.qCmds n 0).any (fun k => k.phase = .issued) && !s.coldArray n && !s.on (ARRAY_STATE_RAMPING n)

end Sys2Proof.Machine
end

