-- ==== Sys2Proof/Machine/Mem.lean ====
section
/-!
DEFINITION. Access to the memories of the device address space: reads with their uncorrectable errors (R228), writes
(R226, R228), and the writes held for the instruction memory of a running control core (R152, R306).
-/

namespace Sys2Proof.Machine

/-- R225, R228, R235: an uncorrectable word met by a read is counted at its memory and reported. -/
def State.countUe (s : State) (w : Nat) : State :=
  let t :=
    match target w with
    | .loft n _ => s.bump (LOFT_ECC_UE n) 1
    | .granary c _ => s.bump (GRN_ECC_UE c) 1
    | .hbm off =>
      let p := stackField (hbmPlace (s.f HBM_MAP_LOCAL) off).1
      s.bump (HBM_ECC_UE p.1 p.2) 1
    | _ => s
  t.raiseMemUe w

/-- R238–R240: an error corrected in a memory word is counted at its memory. -/
def State.countCe (s : State) (w : Nat) : State :=
  match target w with
  | .loft n _ => s.bump (LOFT_ECC_CE n) 1
  | .granary c _ => s.bump (GRN_ECC_CE c) 1
  | .hbm off =>
    let p := stackField (hbmPlace (s.f HBM_MAP_LOCAL) off).1
    s.bump (HBM_ECC_CE p.1 p.2) 1
  | _ => s

/-- R228: the bytes of a run, whether a word of it holds an uncorrectable error, and the state with that reported. -/
def State.readDev (s : State) (a len : Nat) : List Byte × Bool × State :=
  let bad := s.poison.filter (touches a len)
  (s.rdN a len, !bad.isEmpty, bad.foldl State.countUe s)

/-- A run of bytes cut at multiples of 64 bytes: the held writes it makes (R152). -/
def chunks64 (a : Nat) (d : List Byte) : List (Nat × List Byte) :=
  if d.isEmpty then []
  else (List.range ((a + d.length - 1) / 64 - a / 64 + 1)).map fun i =>
    let lo := max a ((a / 64 + i) * 64)
    let hi := min (a + d.length) ((a / 64 + i + 1) * 64)
    (lo, (d.drop (lo - a)).take (hi - lo))

/-- The control core whose instruction memory holds a device address, if one does (R29, R306). -/
def imemHart (a : Nat) : Option Nat :=
  match target a with
  | .imem n _ => some n
  | .simem c _ => some (1024 + c)
  | _ => none

/-- R152: an instruction memory holds writes while its control core is in RUN. -/
def State.holdsImem (s : State) (a : Nat) : Bool :=
  match imemHart a with
  | some h => s.f (CC_STAT_STATE h) = 1
  | none => false

/-- R226, R228: an uncorrectable word met by a partial write is counted at its memory and reported; the write completes
with ECC. -/
def State.storeDev (s : State) (a : Nat) (d : List Byte) : State × List Status × Nat :=
  let bad := s.poison.filter fun w => touches a d.length w && !covers a d.length w
  (bad.foldl State.countUe (s.store a d).1, if bad.isEmpty then [] else [ Status.ecc], 0)

/-- Who waits for each of the writes that a run is cut into: a command for every one, anyone else for the last. -/
def heldOwners (w : HeldBy) (n : Nat) : List HeldBy :=
  match w with
  | .cmd .. => List.replicate n w
  | _ => List.replicate (n - 1) .more ++ [ w]

/-- R152, R226, R228: write a run of memory for `w`: the state, the statuses met and how many writes are held until the
control core takes them. -/
def State.writeDev (s : State) (w : HeldBy) (a : Nat) (d : List Byte) : State × List Status × Nat :=
  match imemHart a with
  | some h =>
    if s.f (CC_STAT_STATE h) = 1 then
      let c := chunks64 a d
      let l := (c.zip (heldOwners w c.length)).map fun x => HeldWrite.mk x.1.1 x.1.2 (s.copyU (hartClu h)) x.2
      (s.modHart h fun x => { x with ihold := x.ihold ++ l }, [], l.length)
    else s.storeDev a d
  | none => s.storeDev a d

end Sys2Proof.Machine
end

