-- ==== Sys2Proof/Machine/Mesh.lean ====
section
/-!
DEFINITION. The mesh: packets on their way (R245–R248, R253, R254), absorption (R269, R271, R272), multicast groups
(R261–R263) and sheaves (R264–R269).
-/

namespace Sys2Proof.Machine

/-! ### Ports -/

/-- R271: the unit is an endpoint of a partition that is being reset. -/
def State.epResetting (s : State) (e : Nat) : Bool :=
  match epClu e with
  | some c => s.partOf c ≠ 0xFF && (s.part (s.partOf c)).resetting
  | none => false

/-- R269, R271, R272: a packet is absorbed: counted for its field, and a sheaf contribution for the ledger. -/
def State.absorbPkt (s : State) (p : Pkt) : State :=
  let s := s.bump (MESH_ABSORB_PACKETS (epField p.dst)) 1
  if p.typ = tSheaf then s.ledgerAdd p.part lAbsorbed p.ccount else s

/-- R271: the status of an access by a unit of the device. -/
def State.devStatus (s : State) (a len : Nat) : Status := if s.epResetting (s.epOf a) then .state else s.runStatus a len

/-- R271, R272: what the port of the packet's destination does before its unit sees the packet: with the field's mesh
out of service the boundary router answers a request with ABSENT, and while it drains its routers absorb; in a partition reset the port absorbs, and answers a
device-level unit with STATE. None where the packet goes on to its unit. -/
def State.portStops (s : State) (p : Pkt) (resp : Nat) : Option State :=
  if epField p.dst < 16 && s.meshDown (epField p.dst) then
    some (if p.typ = tSheaf then s.absorbPkt p else s.respond p resp .absent [])
  else if s.drainField = some (epField p.dst) then some (s.absorbPkt p)
  else if s.epResetting p.dst then
    let t := s.absorbPkt p
    some (if p.part = 0xFF then t.respond p resp .state [] else t)
  else none

/-! ### Tracked transactions (R187, R209, R210, R215, R248) -/

/-- The packet is a request of command `id` of control core `h`, or a response to one. -/
def Pkt.serves (p : Pkt) (h id : Nat) : Bool :=
  p.txid = id && ((p.src = h && (p.typ = tRead || p.typ = tWrite || p.typ = tMgmt || p.typ = tMcast))
    || (p.dst = h && (p.typ = tRdata || p.typ = tWack || p.typ = tMrsp || p.typ = tMack)))

/-- A write of the command waits in the hold buffer of some IMEM, unanswered (R152). -/
def HeldWrite.serves (w : HeldWrite) (h id : Nat) : Bool :=
  match w.by_ with
  | .req p | .landing p => p.src = h && p.txid = id
  | _ => false

/-- The writes held for the IMEM of a control core. -/
def State.heldOf (s : State) (h id : Nat) : Nat :=
  s.harts.foldl (fun n e => n + (e.2.ihold.filter fun w => w.serves h id).length) 0

/-- A request of the command has had no response. -/
def State.openTxns (s : State) (h id : Nat) : Bool := s.pkts.any (fun p => p.serves h id) || s.heldOf h id ≠ 0

/-- R245: packets of at most 512 bytes, of one granule of HBM: a run of `n` bytes from `a`, cut at multiples of `g`. -/
def splitRun (a n g : Nat) : List (Nat × Nat) :=
  (List.range ((a + n - 1) / g - a / g + 1)).map fun i =>
    let lo := max a ((a / g + i) * g)
    (lo, min (a + n) ((a / g + i + 1) * g) - lo)
def pktRuns (a n : Nat) : List (Nat × Nat) := splitRun a n (if a < clsBase 1 then 256 else 512)

/-- R248: transactions that a mesh-port command holds: one for each packet sent and not answered. A packet of a MCAST is
answered by the MACK of every member; of a message of more packets than the port has transactions, those that have landed
everywhere give theirs up (log entry 26). -/
def State.cmdTxns (s : State) (h : Nat) (k : Cmd) : Nat :=
  if k.phase ≠ .issued then 0
  else if k.op = 3 then
    if k.len ≤ 96 * 512 then (k.pos + 511) / 512
    else ((s.pkts.filter fun p => p.serves h k.id && p.typ = tMcast).map Pkt.addr).eraseDups.length + bool1 (k.len ≤ k.pos)
  else (s.pkts.filter fun p => p.serves h k.id).length + s.heldOf h k.id

/-- R210: engines that share the transactions of a control core: movers 0 and 1 and the mesh port of a core, the eight movers
of a cluster; how many each has of its own, and how many they share. -/
def txnEngines (h : Nat) : Nat := if isSeqHart h then 8 else 3
def txnOwn (h : Nat) : Nat := if isSeqHart h then 32 else 16
def txnShared (h : Nat) : Nat := if isSeqHart h then 256 else 80

/-- The engine is the mesh port. -/
def isPort (h e : Nat) : Bool := !isSeqHart h && e = 2

/-- R152, R209: requests of mover `e` that wait for an answer between its rows: held writes outside its own core. -/
def State.moverNeeds (s : State) (h e : Nat) : Nat :=
  ((s.hart h).cmds.filter fun k => k.q = (if isSeqHart h then 1 + e else 2 + e)).foldl (fun n k =>
    n + (k.wait - ((s.hart h).ihold.filter fun w => w.by_ = .cmd h k.id).length)) 0

/-- R248: SHEAF packets of core `n` that no router has accepted yet. -/
def State.sheafQueued (s : State) (n : Nat) : Nat :=
  (s.pkts.filter fun p => p.typ = tSheaf && p.src = n
    && s.net.flits.any fun f => f.num = p.num && f.node = p.sp / 16 && f.inp = 4 + p.sp % 16).length

/-- Transactions in use by an engine. -/
def State.txnUse (s : State) (h e : Nat) : Nat :=
  if isPort h e then ((s.hart h).cmds.filter fun k => k.q = 4).foldl (fun n k => n + s.cmdTxns h k) (s.sheafQueued h)
  else min ((s.hart h).txn.get 0 e) (s.moverNeeds h e)

/-- The oldest mesh-port command that has sent a packet and has more to send. -/
def State.portNext (s : State) (h : Nat) : Option Cmd :=
  (s.hart h).cmds.find? fun k => k.q = 4 && k.op ≤ 3 && k.phase = .issued && 0 < k.pos && k.pos < k.len
    && !k.sts.contains .timeout

/-- The engine waits for a transaction. -/
def State.txnWants (s : State) (h e : Nat) : Bool :=
  if isPort h e then (s.portNext h).isSome else s.txnUse h e < s.moverNeeds h e

/-- Shared transactions in use. -/
def State.sharedUse (s : State) (h : Nat) : Nat :=
  (List.range (txnEngines h)).foldl (fun n e => n + (s.txnUse h e - txnOwn h)) 0

/-- R210: the engine that takes the next transaction, and whether a shared one: first one with transactions of its own left,
then round-robin from the engine after the last. -/
def State.txnGrant (s : State) (h : Nat) : Option (Nat × Bool) :=
  let n := txnEngines h
  match (List.range n).find? fun e => s.txnWants h e && s.txnUse h e < txnOwn h with
  | some e => some (e, false)
  | none =>
    if txnShared h ≤ s.sharedUse h then none
    else (((List.range n).map fun i => ((s.hart h).txnTurn + 1 + i) % n).find? (s.txnWants h)).map fun e => (e, true)

/-- A transaction is free for the mesh port of core `n`. -/
def State.portFree (s : State) (n : Nat) : Bool := s.txnUse n 2 < 16 || s.sharedUse n < 80

/-- Transactions that the mesh port of core `n` may take now. -/
def State.portRoom (s : State) (n : Nat) : Nat := (16 - s.txnUse n 2) + (80 - s.sharedUse n)

/-- A mesh-port command with everything sent and every response in has run (R171, R248). -/
def State.settleTxns (s : State) (h id : Nat) : State :=
  match s.findCmd h id with
  | none => s
  | some k =>
    if k.phase = .issued && k.len ≤ k.pos && !s.openTxns h id then s.modCmd h id fun x => { x with phase := .ran } else s

/-! ### Multicast groups (R261, R321) -/

/-- A member entry of R261 that breaks its table. -/
def memberBad (m : List Word) : Bool :=
  let w (i : Nat) : Word := m.getD i 0
  wbits (w 1) 20 12 ≠ 0 || !(wbits (w 1) 16 4 = 1 || wbits (w 1) 16 4 = 2) || wbits (w 2) 15 1 ≠ 0
    || wbits (w 2) 24 8 ≠ 0 || w 3 ≠ 0
    || (if wbits (w 2) 14 1 = 1 then wbits (w 2) 16 8 = 0 else wbits (w 2) 0 14 ≠ 0 || wbits (w 2) 16 8 ≠ 0)

/-- The landing address of a member entry. -/
def memberBase (m : List Word) : Nat :=
  devAddr (wbits (m.getD 1 0) 16 4) ((m.getD 0 0).toNat + 2 ^ 32 * wbits (m.getD 1 0) 0 16)
def memberCen (m : List Word) : Bool := wbits (m.getD 2 0) 14 1 = 1
def memberCcore (m : List Word) : Nat := wbits (m.getD 2 0) 4 10
def memberCn (m : List Word) : Nat := wbits (m.getD 2 0) 0 4
def memberCamt (m : List Word) : Nat := wbits (m.getD 2 0) 16 8

/-- A member's unit is ABSENT: its core, its granary, or the core its credit goes to. -/
def State.memberAbsent (s : State) (m : List Word) : Bool :=
  (match target (memberBase m) with
    | .loft n _ | .imem n _ | .dmem n _ => s.absent n
    | .granary c _ => s.on (GRN_STAT_ABSENT c)
    | _ => false) || (memberCen m && s.absent (memberCcore m))

/-- R174, R261, R321: the statuses with which setting up a group ends; nothing is set up unless there is none. -/
def State.groupStatuses (s : State) (p gid src : Nat) (ms : List (List Word)) : List Status :=
  let held := ((s.part p).groups.get none gid).isSome
  (if s.absent src || ms.any s.memberAbsent then [ Status.absent] else []) ++
    (if p = 0xFF || ms.any memberBad || s.partOf (src / 32) ≠ p || ms.any (fun m => !s.inPart p (memberBase m) 1)
        || ms.any (fun m => memberCen m && s.partOf (memberCcore m / 32) ≠ p)
        || (!held && (s.part p).nGroups ≤ ((s.part p).groups.filter fun e => e.2.isSome).length) then [ Status.range]
      else []) ++ if held then [ Status.state] else []

/-- R261: set the group up. -/
def State.groupSet (s : State) (p gid src : Nat) (ms : List (List Word)) : State :=
  s.modPart p fun x => { x with groups := x.groups.set none gid (some ⟨src, ms, false, []⟩) }

/-! ### Sheaves (R264–R269) -/

/-- Word `w` of the descriptor of sheaf `i` at root `c`. -/
def State.shWord (s : State) (c i w : Nat) : Word := BitVec.ofNat 32 (s.f (SHF_DESC_WORD c i w))

/-- The fields of a sheaf descriptor (R264). -/
structure ShDesc where
  id : Nat
  op : Nat
  scale : Int
  count : Nat
  len : Nat
  addr : Nat
  cls : Nat
  toseq : Bool
  cn : Nat
  ccore : Nat
  cen : Bool
  camt : Nat
  tmo : Nat
  zero : Bool     -- every bit that must be 0 is 0
deriving DecidableEq, Repr

/-- The descriptor in eight words. -/
def shDescOf (w : Nat → Word) : ShDesc where
  id := wbits (w 0) 0 8
  op := wbits (w 0) 8 2
  scale := wsigned (w 0) 16 8
  count := wbits (w 1) 0 16
  len := wbits (w 1) 16 13
  addr := (w 2).toNat + 2 ^ 32 * wbits (w 3) 0 16
  cls := wbits (w 3) 16 4
  toseq := wbits (w 3) 20 1 = 1
  cn := wbits (w 4) 0 4
  ccore := wbits (w 4) 4 10
  cen := wbits (w 4) 14 1 = 1
  camt := wbits (w 4) 16 8
  tmo := wbits (w 5) 0 16
  zero := wbits (w 0) 10 6 = 0 && wbits (w 0) 24 8 = 0 && wbits (w 1) 29 3 = 0 && wbits (w 3) 21 11 = 0
    && wbits (w 4) 15 1 = 0 && wbits (w 4) 24 8 = 0 && wbits (w 5) 16 16 = 0 && w 6 = 0 && w 7 = 0

def State.shDesc (s : State) (c i : Nat) : ShDesc := shDescOf (s.shWord c i)

def ShDesc.dest (d : ShDesc) : Nat := devAddr d.cls d.addr

/-- R264: the table is kept, apart from partitions. -/
def ShDesc.ok (d : ShDesc) (i : Nat) : Bool :=
  d.zero && d.id = i && d.op ≤ 2 && 1 ≤ d.count && d.len % 8 = 0 && 8 ≤ d.len && d.len ≤ 4096
    && (if d.toseq then d.len = 8 && d.addr = 0 && d.cls = 0 else d.cls ≤ 2)
    && (if d.cen then d.camt ≠ 0 else d.cn = 0 && d.ccore = 0 && d.camt = 0)

/-- R267: a sheaf of `len` bytes has this many segments. -/
def shSegs (len : Nat) : Nat := (len + 511) / 512
/-- Grains of segment `g`. -/
def shSegGrains (len g : Nat) : Nat := min 64 ((len - 512 * g) / 8)

/-- R174, R264: the statuses that apply to an ARM: none where it takes effect. -/
def State.armStatuses (s : State) (c i : Nat) : List Status :=
  let d := s.shDesc c i
  let p := s.partOf c
  (if d.cen && s.absent d.ccore then [ Status.absent] else []) ++
    (if !d.ok i || p = 0xFF || (!d.toseq && (s.runStatus d.dest d.len = .range || !s.inPart p d.dest d.len))
        || (d.cen && s.partOf (d.ccore / 32) ≠ p) then [ Status.range] else []) ++
    if (s.part p).sheafAt.get 0 i ≠ 0 then [ Status.state] else []

/-- R264: the status of an ARM, as `SHF_STAT.STATUS` records it. -/
def State.armStatus (s : State) (c i : Nat) : Status := pickStatus (s.armStatuses c i)

/-- R264: an ARM of sheaf `i` at root `c`, for a waiting command `cmd` (R321). A refused ARM records its status and
changes nothing else. -/
def State.arm (s : State) (c i : Nat) (cmd : Option Nat) : State :=
  let st := s.armStatus c i
  if st ≠ .ok then s.setF (SHF_STAT_STATUS c i) st.code
  else
    let p := s.partOf c
    let s := s.modClu c fun x => { x with
      shGen := x.shGen + 1,
      sheaves := x.sheaves.set none i (some ⟨s.copyU c, x.shGen + 1, cmd, [], [], [], Flags.zero, false, false⟩) }
    let s := s.modPart p fun x => { x with sheafAt := x.sheafAt.set 0 i (c + 1) }
    let s := s.setF (SHF_STAT_STATE c i) 1
    (s.setF (SHF_STAT_ARRIVED c i) 0).setF (SHF_STAT_CREFUSED c i) 0

/-- A sheaf is armed at root `c`: arming or open. -/
def State.sheaf (s : State) (c i : Nat) : Option Sheaf := (s.clu c).sheaves.get none i

/-- R267 step 3: close the sheaf and free its id throughout the partition. -/
def State.shClose (s : State) (c i : Nat) (st : Status) : State :=
  let s := s.modClu c fun x => { x with sheaves := x.sheaves.set none i none }
  let s := s.modPart (s.partOf c) fun x => { x with sheafAt := x.sheafAt.set 0 i 0 }
  (s.setF (SHF_STAT_STATE c i) 3).setF (SHF_STAT_STATUS c i) st.code

/-- R268, R271: close with no result and no credit, status ABORTED. A SHARM that waits for it to open completes with
ABORTED. -/
def State.shCancel (s : State) (c i : Nat) : State :=
  match s.sheaf c i with
  | none => s
  | some x =>
    let s := match x.cmd with
      | some id => s.modCmd (1024 + c) id fun k => { k with phase := .ran, sts := k.sts ++ [Status.aborted] }
      | none => s
    s.shClose c i .aborted

/-- R264: every port holds the entry: the sheaf is open, and a SHARM that waits has run (R321). -/
def State.shOpen (s : State) (c i : Nat) : State :=
  match s.sheaf c i with
  | none => s
  | some x =>
    if s.f (SHF_STAT_STATE c i) ≠ 1 then s
    else
      let s := s.setF (SHF_STAT_STATE c i) 2
      match x.cmd with
      | some id => s.modCmd (1024 + c) id fun k => { k with phase := .ran }
      | none => s

/-- R267 step 2: the completion credit, sent by the sheaf engine. One whose core has become ABSENT is absorbed and
sets CREFUSED. Credits that are to wait with a result (R327) come back as a list. -/
def State.shCredit (s : State) (c i : Nat) : State × List Flit :=
  let d := s.shDesc c i
  let p := s.partOf c
  if !d.cen then (s, [])
  else
    let s := s.ledgerAdd p lSent d.camt
    if s.absent d.ccore then
      (((s.ledgerAdd p lRefused d.camt).raiseCore clsWarning 0x011 d.ccore (d.cn + d.camt * 65536)).setF
        (SHF_STAT_CREFUSED c i) 1, [])
    else (s, [.credit p d.ccore d.cn d.camt])

/-- R267: write the result of a sheaf to its destination: the statuses met, and how many writes are held (R152). -/
def State.shWrite (s : State) (c i : Nat) (x : Sheaf) : State × List Status × Nat :=
  let d := s.shDesc c i
  let st := s.runStatus d.dest d.len
  if st = .ok then
    s.writeDev (.sheaf c i) d.dest ((List.range (d.len / 8)).flatMap fun g => leBytes 8 ((x.grains.get 0 g) % (2 ^ 64 : Nat)).toNat)
  else (s, [ st], 0)

/-- R267, R327: the sheaf ends with a status: it is recorded, the credits leave and the sheaf closes. A result for the
sequencer, and the credit with it, waits at the sheaf engine for room in the result queue. -/
def State.shEnd (s : State) (c i : Nat) (x : Sheaf) (st : Status) (good : Bool) : State :=
  let d := s.shDesc c i
  let s := s.setF (SHF_STAT_FLAGS c i) x.flags.bits
  let cr := s.shCredit c i
  let s := cr.1
  let s :=
    if d.toseq then
      let g := if good then ((x.grains.get 0 0) % (2 ^ 64 : Nat)).toNat else 0
      let r : SheafRes := ⟨BitVec.ofNat 32 g, BitVec.ofNat 32 (g / 2 ^ 32), i, st, x.flags⟩
      s.modClu c fun y => { y with resWait := y.resWait ++ [(r, cr.2)] }
    else cr.2.foldl (fun t fl => t.injectAt (cluPlace c 1 11) fl) s
  s.shClose c i st

/-- R267: the writes of a sheaf's result have been answered. -/
def State.shWritten (s : State) (c i : Nat) (sts : List Status) : State :=
  match s.sheaf c i with
  | none => s
  | some x => s.shEnd c i x (if sts.isEmpty then (if x.flags.sat then .sat else .ok) else pickStatus sts) true

/-- R267, R268: the sheaf completes. `forced` is RANGE or TIMEOUT where it ends without its sums. A result bound for the IMEM
of a running core closes the sheaf only once it is written. -/
def State.shComplete (s : State) (c i : Nat) (forced : Option Status) : State :=
  match s.sheaf c i with
  | none => s
  | some x =>
    let s := match x.cmd with
      | some id => s.modCmd (1024 + c) id fun k => { k with phase := .ran }
      | none => s
    match forced with
    | some st => s.shEnd c i x st false
    | none =>
      if x.void then s.shEnd c i x .range false
      else if (s.shDesc c i).toseq then s.shWritten c i []
      else
        let w := s.shWrite c i x
        if w.2.2 = 0 then w.1.shWritten c i w.2.1
        else w.1.modClu c fun y => { y with sheaves := y.sheaves.set none i (some { x with cmd := none, closing := true }) }

/-- R266, R267: combine two grains; the Bool says the sum saturated. -/
def shCombine (op : Nat) (a b : Int) : Int × Bool :=
  match op with
  | 0 => grainSat (a + b)
  | 1 => (max a b, false)
  | _ => (min a b, false)

/-- R267: the grains of a segment combined into the store from grain `g0` on. -/
def shCombineAll (op : Nat) (first : Bool) (m : Store Int) (g0 : Nat) : List Int → Store Int × Bool
  | [] => (m, false)
  | v :: r =>
    let x := if first then (v, false) else shCombine op (m.get 0 g0) v
    let y := shCombineAll op first (m.set 0 g0 x.1) (g0 + 1) r
    (y.1, x.2 || y.2)

/-- The smallest CCOUNT sum over the segments. -/
def shArrived (x : Sheaf) (segs : Nat) : Nat :=
  (List.range segs).foldl (fun a g => min a (x.sums.get 0 g)) (x.sums.get 0 0)

/-- R267: a packet of segment `p.seg` is combined into the sheaf. -/
def Sheaf.take (x : Sheaf) (op : Nat) (p : Pkt) : Sheaf :=
  let sums := x.sums.set 0 p.seg (x.sums.get 0 p.seg + p.ccount)
  if p.grains.isEmpty then
    { x with sums := sums, void := x.void || p.void, flags := x.flags.or p.flags }
  else
    let r := shCombineAll op (x.got.get 0 p.seg = 0) x.grains (64 * p.seg) p.grains
    let g := x.flags.or p.flags
    { x with sums := sums, void := x.void || p.void, flags := { g with sat := g.sat || r.2 },
             grains := r.1, got := x.got.set 0 p.seg 1 }

/-- R267, R269: a SHEAF packet reaches the root of cluster `c`: absorbed with a Warning where the sheaf it was
injected for is closed, else combined; a sum beyond COUNT ends the sheaf with RANGE, and sums all equal to COUNT
complete it. -/
def State.shArrive (s : State) (c : Nat) (p : Pkt) : State :=
  match s.sheaf c p.gid with
  | none => (s.absorbPkt p).raiseClu clsWarning 0x032 c p.gid
  | some x =>
    if x.gen ≠ p.txid ∨ x.closing then (s.absorbPkt p).raiseClu clsWarning 0x032 c p.gid
    else
      let d := s.shDesc c p.gid
      let y := x.take d.op p
      let s := (s.ledgerAdd p.part lCounted p.ccount).modClu c fun z =>
        { z with sheaves := z.sheaves.set none p.gid (some y) }
      let s := s.setF (SHF_STAT_ARRIVED c p.gid) (min 65535 (shArrived y (shSegs d.len)))
      if d.count < y.sums.get 0 p.seg then s.shComplete c p.gid (some .range)
      else if (List.range (shSegs d.len)).all fun g => y.sums.get 0 g = d.count then s.shComplete c p.gid none
      else s

/-- R266: a packet that waits absorbs another of the same partition, sheaf, arming and segment. -/
def pktCombine (a b : Pkt) : Pkt :=
  let m : List Int × Bool :=
    if a.grains.isEmpty then (b.grains, false)
    else if b.grains.isEmpty then (a.grains, false)
    else
      let l := (a.grains.zip b.grains).map fun q => shCombine a.sop q.1 q.2
      (l.map Prod.fst, l.any Prod.snd)
  let g := a.flags.or b.flags
  { a with grains := m.1, flags := { g with sat := g.sat || m.2 }, ccount := a.ccount + b.ccount,
           void := a.void || b.void }

/-- Sheaves rooted in the clusters of a partition close with ABORTED (R271, R424). -/
def State.shCloseAll (s : State) (p : Nat) : State :=
  (s.part p).sheafAt.foldl (fun t e => t.shCancel (e.2 - 1) e.1) s

end Sys2Proof.Machine
end

