-- ==== Sys2Proof/Machine/Csr.lean ====
section
/-!
DEFINITION. Register access: the views that registers give of queues, counters and units held elsewhere in the
state, reading with its effects (RC fields, the latch of `TIME_NOWL`), the values a write sets (R10, R11 and the
"a write of … sets …" notes of the tables), and the plain part of a write. What a write triggers is in CsrFx.lean.
-/

namespace Sys2Proof.Machine

/-- R434: a cluster's window shows its partition's registers. Off a partition there is no register. -/
def State.homeOff (s : State) (off : Nat) : Option Nat :=
  if 0x10000000 ≤ off ∧ off < 0x12000000 ∧ 0x1800 ≤ off % 0x100000 ∧ off % 0x100000 ≤ 0x182B then
    let p := s.partOf ((off - 0x10000000) / 0x100000)
    if p = 0xFF then none else some (partCsr p + (off % 0x100000 - 0x1800))
  else if 0x10000 ≤ off ∧ off < 0x12000 then
    if (s.part ((off - 0x10000) / 0x100)).held then some off else none
  else some off

/-- Windows pending or active at a DTIME (R328). -/
def State.liveKettle (s : State) (c : Nat) : List Kettle := (s.clu c).kettle.filter fun k => s.copyU c < k.stop

/-- R151: what the watchdog of control core `h` stands at, in 2^-16 ns: it counts while the core is in RUN and its cluster is
neither in Steep nor in Rest, and holds otherwise. -/
def State.wdogCount (s : State) (h : Nat) : Nat :=
  let p := s.f (PST_STAT_STATE (hartClu h))
  if s.f (CC_STAT_STATE h) = 1 && p ≠ 1 && p ≠ 2 then (s.hart h).wdogEnd - s.copyU (hartClu h) else (s.hart h).wdogLeft

/-- Microseconds left on a watchdog (R151), rounded up; none while PERIOD_US turns it off (log entry 71). -/
def State.wdogRemain (s : State) (h : Nat) : Nat :=
  if s.f (CC_WDOG_PERIOD_US h) = 0 then 0 else (s.wdogCount h + (1000 * nsU - 1)) / (1000 * nsU)

/-- The oldest unissued command of a queue waits for its launch time, or else under the scoreboard (R189). -/
def State.headWait (s : State) (h q : Nat) : Bool × Bool :=
  match s.headCmd h q with
  | none => (false, false)
  | some k => (!s.timeCome h k, s.timeCome h k && s.sbWait h k)

/-- Views of the control-core registers that are held in the core itself, at offset `o`, field at bit `lo`. -/
def State.ccView (s : State) (h o lo : Nat) : Option Nat :=
  let x := s.hart h
  if o = 0x500 ∧ lo = 2 then some (bool1 (s.f (CC_STAT_STATE h) = 1 && x.stall.isSome))
  else if o = 0x504 ∧ lo = 16 then some ((if isSeqHart h then x.pc / 4 else x.pc) % 65536)
  else if o = 0x50C ∧ lo = 16 then some (s.wdogRemain h % 65536)
  else if o = 0x510 ∧ lo = 16 then some (min x.ihold.length 64)
  else if o = 0x514 ∧ lo = 0 then some (s.f (CLK_STAT_SRC (hartClu h)))
  else if o = 0x514 ∧ lo = 1 then some (s.f (CLK_STAT_LOCK (hartClu h)))
  else none

/-- Views of a logical core's registers (R99, R122, R189, R216). -/
def State.coreView (s : State) (n o lo : Nat) : Option Nat :=
  let x := s.hart n
  if o ≠ 0 ∧ s.absent n then some 0
  else if o = 0x318 ∧ lo = 0 then some (bool1 (s.slotsIn n || s.loadGoes n))
  else if o = 0x318 ∧ lo = 1 then some (bool1 (s.coldArray n))
  else if o = 0x318 ∧ lo = 3 ∧ s.coldArray n then some 0
  else if o = 0x400 ∧ lo = 0 then some (bool1 (x.cmds.any fun k => k.q = 1 && k.phase = .issued))
  else if o = 0x400 ∧ lo = 8 then
    some (min (x.cmds.filter fun k => k.phase ≠ .ran && !(k.resRegs.isEmpty && k.resPred.isEmpty)).length 32)
  else if o = 0x404 then some ((List.range 32).foldl (fun a r => if s.reservedS n r then a + 2 ^ r else a) 0)
  else if o = 0x408 then some ((List.range 8).foldl (fun a r => if s.reservedP n r then a + 2 ^ r else a) 0)
  else if 0x600 ≤ o ∧ o < 0x614 then
    let q := (o - 0x600) / 4
    match lo with
    | 0 => some (s.held n q)
    | 8 => some ((s.qCmds n q).filter fun k => k.phase ≠ .waiting).length
    | 16 => some (s.qRecs n q).length
    | 24 => some (bool1 (s.headWait n q).1)
    | 25 => some (bool1 (s.headWait n q).2)
    | _ => none
  else if o = 0x618 then
    match lo with
    | 0 => some (s.txnUse n 0 + s.txnUse n 1 + s.txnUse n 2)
    | 8 => some (s.txnUse n 0)
    | 16 => some (s.txnUse n 1)
    | _ => some (s.txnUse n 2)
  else if o = 0x680 ∨ o = 0x684 then
    let m := (o - 0x680) / 4
    match lo with
    | 0 => some (bool1 ((s.qCmds n (2 + m)).any fun k => k.phase ≠ .waiting))
    | 1 => some (bool1 ((s.qCmds n (2 + m)).any (fun k => k.phase = .issued && k.isStream n) && !(x.aq.any fun e => e.m = m)))
    | 3 => some (x.aq.filter fun e => e.m = m).length
    | _ => none
  else if 0x700 ≤ o ∧ o < 0xB00 ∧ o % 0x20 = 0x18 ∧ lo = 1 then
    let m := (o - 0x700) / 0x200
    let a := (o - 0x700) % 0x200 / 0x20
    some (bool1 ((s.qCmds n (2 + m)).any fun k => (k.op = 4 || k.op = 5) && k.aptr = a))
  else s.ccView n o lo

/-- R155, R303: the measured frequency of cluster `c`'s oscillator: about 900 MHz, in grade E 765, within 10%. -/
def State.oscMHz (s : State) (c : Nat) : Nat :=
  let n := if s.f DEV_GRADE_GRADE = 2 then 765 else 900
  (9 * n + 9) / 10 + Config.oscillator c % (11 * n / 10 - (9 * n + 9) / 10 + 1)

/-- Views of a cluster's registers (R331). -/
def State.cluView (s : State) (c o lo : Nat) : Option Nat :=
  let h := 1024 + c
  let x := s.hart h
  if 0x1500 ≤ o ∧ o < 0x1560 then s.ccView h (o - 0x1000) lo
  else if o = 0x1008 then
    match lo with
    | 0 => some (s.iqHeld h)
    | 7 => some (bool1 (s.headWait h 0).1)
    | 8 => some x.recs.length
    | 16 => some (s.clu c).mail.length
    | 23 => some (s.clu c).resq.length
    | _ => none
  else if o = 0x304 ∧ lo = 0 then if s.on (CLK_STAT_SRC c) then some (s.oscMHz c) else none
  else if o = 0x101C ∧ lo = 0 then some (s.liveKettle c).length
  else if o = 0x101C ∧ lo = 3 then some (bool1 ((s.liveKettle c).any fun k => k.start ≤ s.copyU c))
  else none

/-- What a field reads, with the views above; `off` is the offset the access names. -/
def State.view (s : State) (off : Nat) (d : Fd) : Nat :=
  let v : Option Nat :=
    if 0x10000000 ≤ off ∧ off < 0x12000000 then
      let c := (off - 0x10000000) / 0x100000
      let o := off % 0x100000
      if 0x80000 ≤ o ∧ o < 0xA0000 then s.coreView (32 * c + (o - 0x80000) / 0x1000) (o % 0x1000) d.lo
      else s.cluView c o d.lo
    else if off = 0x300 then some (s.now % 2 ^ 32)
    else if off = 0x308 ∧ d.lo = 16 then
      some (if s.f TIME_STAT_SRC = 1 then min 65535 ((s.dtime - s.tim.lostAt) / (1000000000 * nsU)) else 0)
    else if 0x1000000 ≤ off ∧ off < 0x2000000 ∧ 0x1000 ≤ off % 0x100000 ∧ off % 0x100000 < 0x1080 then
      if s.stackOk (stackAt (off / 0x100000 % 16) (off % 0x80 / 0x40)) then none else some 0
    else if off = 0x700 ∧ d.lo = 3 then some (bool1 s.ev.faultPin)
    else none
  match d.acc with
  | .wo => 0
  | _ => (v.getD (s.f d)) % 2 ^ d.wid

/-- R10: reading a field of type RC clears it. -/
def State.readClear (s : State) (l : List Fd) : State :=
  l.foldl (fun t d => if d.acc = .rc then t.setF d 0 else t) s

/-- R10, R31, R302: read the register at a CSR offset: its value, and the state after the read. -/
def State.csrRead (s : State) (off : Nat) : Word × State :=
  match s.homeOff off with
  | none => (0, s)
  | some o =>
    let l := fieldsAt o
    let w := l.foldl (fun a d => a + s.view off d * 2 ^ d.lo) 0
    let s := s.readClear l
    let s := if off = 0x300 then s.setF TIME_NOWH_NOW_HI (s.now / 2 ^ 32) else s
    (BitVec.ofNat 32 w, s)

/-- The value an RW field takes from a write of `v`: the notes of the register tables; none leaves it as it is. -/
def State.rwValue (s : State) (o lo v : Nat) : Option Nat :=
  let core := 0x10000000 ≤ o && o < 0x12000000 && 0x80000 ≤ o % 0x100000 && o % 0x100000 < 0xA0000
  let c := (o - 0x10000000) / 0x100000
  if 0x10000000 ≤ o ∧ o < 0x12000000 then
    let r := if core then o % 0x1000 else o % 0x100000
    if core then
      if (r = 0x510 ∨ r = 0x614) ∧ lo = 0 ∧ v = 0 then some 1
      else if 0x700 ≤ r ∧ r < 0xB00 then some v
      else some v
    else if r = 0x1510 ∧ lo = 0 ∧ v = 0 then some 1
    else if r = 0x1000 ∧ lo = 0 then some (v / 4 * 4)
    else if r = 0x1010 ∧ v = 0 then some 1
    else if 0x1100 ≤ r ∧ r < 0x1180 ∧ r % 16 = 0 then
      if s.f (SEQ_BAR_ARRIVED c ((r - 0x1100) / 16)) ≠ 0 then none else some v
    else if 0x1100 ≤ r ∧ r < 0x1180 ∧ r % 16 = 8 ∧ lo = 8 ∧ v = 0 then some 1
    else if r = 0x0120 ∧ lo = 0 then
      some (if v = 0 then 0 else if v < 10 then 10 else if 10000 < v then 10000 else v)
    else if r = 0x300 ∧ lo = 0 then some (let w := min v (s.f DEV_GRADE_FMAX_MHZ); if w < 800 then 800 else w / 25 * 25)
    else if 0x20000 ≤ r ∧ r < 0x22000 then
      let st := s.f (SHF_STAT_STATE c ((r - 0x20000) / 32))
      if st = 1 ∨ st = 2 then none else some v
    else if 0x1A00 ≤ r ∧ r < 0x1C00 then
      if s.on (OX_SLOT_BUSY c ((r - 0x1A00) / 32)) then none else some v
    else if 0x1E00 ≤ r ∧ r < 0x1F00 then
      if s.on (BN_SLOT_BUSY c ((r - 0x1E00) / 32)) then none else some v
    else some v
  else if 0x1000000 ≤ o ∧ o < 0x2000000 then
    if o % 0x100000 = 0x4000 ∧ lo = 0 then some (min v 750) else some v
  else if 0x10000 ≤ o ∧ o < 0x12000 then
    let r := o % 0x100
    if r = 0x08 ∧ lo = 0 then some (if v = 0 then 0 else if v < 4 then 4 else if 16 < v then 16 else v)
    else if r = 0x08 ∧ lo = 8 ∧ v = 0 then some 1
    else if r = 0x08 ∧ lo = 16 then some (max v 60)
    else if r = 0x20 then some (v / 32 * 32)
    else if r = 0x24 ∧ lo = 16 ∧ v ≠ 0 then some (max v 16)
    else some v
  else if o = 0x510 then some (v / 32 * 32)
  else if o = 0x514 ∧ lo = 16 ∧ v ≠ 0 then some (max v 16)
  else if o = 0x508 ∧ lo = 0 then some (if 4 < v then 4 else v)
  else if o = 0x320 ∧ lo = 2 then some (if v = 3 then 0 else v)
  else if o = 0x320 ∧ lo = 12 then some (if v = 0 ∨ 9 ≤ v then v else 0xC)
  else if o = 0x3C000008 ∧ lo = 0 then some (min v 20)
  else if o = 0x3C000008 ∧ lo = 8 then some (min v 24)
  else if o = 0x3C000010 then some (v / 256 * 256)
  else if o = 0x3C000100 then
    let a := v % 4
    let b := v / 4 % 4
    let d := v / 16 % 4
    if a ≤ 2 ∧ b ≤ 2 ∧ d ≤ 2 ∧ a ≠ b ∧ a ≠ d ∧ b ≠ d then some v else none
  else if o = 0x3C000120 ∧ lo = 16 ∧ v = 0 then some 1
  else if o = 0x3C000128 ∧ lo = 0 ∧ v < 100 then none
  else if o = 0x3C000128 ∧ lo = 10 ∧ v < 20 then none
  else if o = 0x3C000128 ∧ lo = 20 ∧ v < 50 then none
  else if o = 0x30000034 ∧ lo = 0 ∧ v = 0 then some 1
  else if o = 0x30000034 ∧ lo = 8 then some (if 1 ≤ v ∧ v ≤ 4 then v else 1)
  else if o = 0x30000038 ∧ lo = 0 then some (max v 50)
  else if 0x30000400 ≤ o ∧ o < 0x30000500 then
    if s.on (BARN_HSLOT_BUSY ((o - 0x30000400) / 32)) then none else some v
  else some v

/-- R10: what a write of `w` does to one field. -/
def State.writeField (s : State) (o : Nat) (w : Word) (d : Fd) : State :=
  let v := wbits w d.lo d.wid
  match d.acc with
  | .ro | .rc | .wo => s
  | .rw => match s.rwValue o d.lo v with
    | some x => s.setF d x
    | none => s
  | .w1c => s.setF d (s.f d - (s.f d &&& v))
  | .w1s => s.setF d (s.f d ||| v)

/-- R10, R11, R31: the plain part of a register write. -/
def State.csrStore (s : State) (off : Nat) (w : Word) : State :=
  match s.homeOff off with
  | none => s
  | some o => (fieldsAt o).foldl (fun t d => t.writeField o w d) s

end Sys2Proof.Machine
end

