-- ==== Sys2Proof/Machine/OctPkt.lean ====
section
/-!
DEFINITION. Octoon packets: the fields of their header (R461) and the answer to a request.
-/

namespace Sys2Proof.Machine

/-! ### The packet (R461) -/

def OPkt.word (p : OPkt) (i : Nat) : Word := p.hdr.getD i 0
def OPkt.fld (p : OPkt) (i lo wid : Nat) : Nat := wbits (p.word i) lo wid
def OPkt.typ (p : OPkt) : Nat := p.fld 0 3 4
def OPkt.dcls (p : OPkt) : Bool := p.fld 0 7 1 = 1
def OPkt.dpart (p : OPkt) : Nat := p.fld 0 8 8
def OPkt.len (p : OPkt) : Nat := p.fld 0 16 13
def OPkt.dmod (p : OPkt) : Nat := p.fld 1 0 12
def OPkt.smod (p : OPkt) : Nat := p.fld 1 12 12
def OPkt.spart (p : OPkt) : Nat := p.fld 1 24 8
def OPkt.dev (p : OPkt) : Nat := devAddr (p.fld 3 16 4) ((p.word 2).toNat + 2 ^ 32 * p.fld 3 0 16)
def OPkt.gid (p : OPkt) : Nat := p.fld 3 20 8
def OPkt.status (p : OPkt) : Nat := p.fld 3 28 4
def OPkt.txid (p : OPkt) : Nat := p.fld 4 0 16
def OPkt.ccount (p : OPkt) : Nat := p.fld 4 16 16
def OPkt.flags (p : OPkt) : Nat := p.fld 5 8 4
def OPkt.cn (p : OPkt) : Nat := p.fld 5 16 4
def OPkt.ccore (p : OPkt) : Nat := p.fld 5 20 10
def OPkt.cen (p : OPkt) : Bool := p.fld 5 30 1 = 1
def OPkt.camt (p : OPkt) : Nat := p.fld 6 0 8
def OPkt.hops (p : OPkt) : Nat := p.fld 6 8 8

/-- A word with bits [`lo` + `wid` − 1 : `lo`] given. -/
def setBits (w : Word) (lo wid v : Nat) : Word := BitVec.ofNat 32 (w.toNat - wbits w lo wid * 2 ^ lo + v % 2 ^ wid * 2 ^ lo)
def OPkt.set (p : OPkt) (i lo wid v : Nat) : OPkt :=
  { p with hdr := (List.range 7).map fun j => if j = i then setBits (p.word j) lo wid v else p.word j }

/-- R461: the header of a packet: VC and TYPE, destination, source, address, TXID. -/
def octPkt (typ dmod dpart smod spart addr len txid : Nat) (d : List Byte) : OPkt :=
  ⟨[ BitVec.ofNat 32 (pktVc typ + 8 * typ + 256 * (dpart % 256) + 65536 * (len % 8192)),
     BitVec.ofNat 32 (dmod % 4096 + 4096 * (smod % 4096) + 2 ^ 24 * (spart % 256)),
     BitVec.ofNat 32 addr, BitVec.ofNat 32 (addr / 2 ^ 32 % 2 ^ 20), BitVec.ofNat 32 (txid % 65536), 0, 0], d⟩

/-- R461: the flits of a packet, whose payload lies in the header flit where it has at most 32 bytes. -/
def OPkt.flits (p : OPkt) : Nat := if p.data.length ≤ 32 then 1 else 1 + (p.data.length + 63) / 64
/-- R460: the VC class of a packet. -/
def OPkt.vc (p : OPkt) : Nat := p.fld 0 0 3
def OPkt.cls (p : OPkt) : Nat := 2 * p.vc + p.fld 0 7 1

/-- The answer to a request, with a status (R247). -/
def OPkt.answer (p : OPkt) (typ st : Nat) (d : List Byte) : OPkt :=
  (octPkt typ p.smod p.spart p.dmod p.dpart p.dev p.len p.txid d).set 3 28 4 st

/-- TYPE of the answer to a request: RDATA to a READ, else WACK (R247). -/
def OPkt.rsp (p : OPkt) : Nat := if p.typ = tRead then tRdata else tWack
/-- The packet is itself an answer. -/
def OPkt.isRsp (p : OPkt) : Bool := p.typ = tRdata || p.typ = tWack || p.typ = tMack || p.typ = tMrsp

end Sys2Proof.Machine
end

