-- ==== Sys2Proof/Machine/Held.lean ====
section
/-!
DEFINITION. Writes held for the instruction memory of a running control core (R152, R306): what waits for them, and what
happens when they are written or discarded.
-/

namespace Sys2Proof.Machine

/-! ### Multicast landings (R263) -/

/-- R263: the landing credit of a member. -/
def State.landCredit (s : State) (p : Pkt) (m : List Word) : State :=
  if !memberCen m then s
  else
    let s := s.ledgerAdd p.part lSent (memberCamt m)
    if s.absent (memberCcore m) then
      (s.ledgerAdd p.part lRefused (memberCamt m)).raiseCore clsWarning 0x011 (memberCcore m) (memberCn m + memberCamt m * 65536)
    else
      let fl := Flit.credit p.part (memberCcore m) (memberCn m) (memberCamt m)
      s.injectAt (s.landPlace p.dst) fl

/-- What a member port remembers of a message. -/
def State.landing (s : State) (p : Pkt) : Landing :=
  match (s.part p.part).groups.get none p.gid with
  | some g => (g.landings.find? fun e => e.txid = p.txid && e.member = p.seg).getD ⟨p.txid, p.seg, false, []⟩
  | none => ⟨p.txid, p.seg, false, []⟩

/-- The message is remembered as `e`; nothing is kept of one that is over, or that has met nothing. -/
def State.setLanding (s : State) (p : Pkt) (e : Landing) (fin : Bool) : State :=
  s.modPart p.part fun x =>
    match x.groups.get none p.gid with
    | none => x
    | some g =>
      let l := g.landings.filter fun y => !(y.txid = p.txid && y.member = p.seg)
      let l := if fin || (e.sts.isEmpty && !e.drop) then l else l ++ [ e]
      { x with groups := x.groups.set none p.gid (some { g with landings := l }) }

/-- R263: a MCAST packet is discarded with a status, and every later packet of the message at this member; after the last
one the member answers. -/
def State.landDrop (s : State) (p : Pkt) (sts : List Status) : State :=
  let e := s.landing p
  let all := e.sts ++ sts
  let s := s.setLanding p { e with drop := true, sts := all } p.lastp
  if p.lastp then s.respond p tMack (pickStatus all) [] else s

/-- R263: a MCAST packet has been written, or its held writes answered; after the last one its credit, unless the hold
buffer discarded it (R152), and its MACK. -/
def State.landed (s : State) (p : Pkt) (sts : List Status) : State :=
  let e := s.landing p
  let all := e.sts ++ sts
  let s := s.setLanding p { e with sts := all } p.lastp
  if !p.lastp then s
  else
    let m :=
      match (s.part p.part).groups.get none p.gid with
      | some g => g.members.getD p.seg []
      | none => []
    (if sts.contains .state then s else s.landCredit p m).respond p tMack (pickStatus all) []

/-! ### The hold buffer (R152) -/

/-- A held write is over, with the statuses met since the last one that somebody waits for. -/
def State.heldDone (s : State) (w : HeldWrite) (sts : List Status) : State :=
  match w.by_ with
  | .none | .more => s
  | .cmd h id =>
    let e := match s.findCmd h id with
      | some k => if isSeqHart h then k.q - 1 else k.q - 2
      | none => 0
    (s.modCmd h id fun k => { k with wait := k.wait - 1, sts := k.sts ++ sts }).modHart h fun x =>
      { x with txn := x.txn.set 0 e (x.txn.get 0 e - 1) }
  | .req p => s.respond p (if p.typ = tMgmt then tMrsp else tWack) (pickStatus sts) []
  | .landing p => s.landed p sts
  | .sheaf c i => s.shWritten c i sts
  | .octoon l p => { s with octIn := s.octIn ++ [ (l, { p.set 3 28 4 (pickStatus sts).code with data := [] })] }

/-- The held writes `l` leave the buffer, each stored or discarded with a status. -/
def State.heldOut (s : State) (l : List HeldWrite) (discard : Bool) : State :=
  (l.foldl (fun (t : State × List Status) w =>
    let r : State × List Status :=
      if discard then (t.1, [ Status.state])
      else
        let x := t.1.storeDev w.addr w.bytes
        (x.1, x.2.1)
    match w.by_ with
    | .more => (r.1, t.2 ++ r.2)
    | _ => (r.1.heldDone w (t.2 ++ r.2), [])) (s, [])).1

/-- R152: every held write is written, in arrival order. -/
def State.landHeld (s : State) (h : Nat) : State :=
  let l := (s.hart h).ihold
  if l.isEmpty then s else (s.modHart h fun x => { x with ihold := [] }).heldOut l false

/-- R152: every held write is discarded: each completes with STATE, is counted and sets IDISCARD. -/
def State.discardHeld (s : State) (h : Nat) : State :=
  let l := (s.hart h).ihold
  if l.isEmpty then s
  else
    let t := (s.modHart h fun x => { x with ihold := [] }).heldOut l true
    (t.bump (CC_IHOLD_DISCARDS h) l.length).setF (CC_FSUM_IDISCARD h) 1

end Sys2Proof.Machine
end

