-- ==== Sys2Proof/Machine/MoverPlan.lean ====
section
/-!
DEFINITION. What a mover command plans before it moves a byte: the walk descriptor (R185, R319), the elements of a
walk in walk order (R192), the extents of its endpoints (R193, R196, R198) and the checks on them (R191, R193, R197).
-/

namespace Sys2Proof.Machine

/-- R198: bytes of an element on each side, source and destination. -/
def walkSizes (shape esize : Nat) : Nat × Nat :=
  let e := 2 ^ esize
  match shape with
  | 1 => (3 * e / 4, e)
  | 2 => (e, 3 * e / 4)
  | _ => (e, e)

/-- R192: source and destination offsets of the elements, levels given outermost first, in walk order. -/
def walkOffs : List Level → List (Int × Int)
  | [] => [(0, 0)]
  | l :: r => (List.range l.count).flatMap fun (i : Nat) => (walkOffs r).map fun p => (p.1 + (i : Int) * l.ss, p.2 + (i : Int) * l.ds)

/-- R193: lowest and highest offset of an extent, for strides given with their counts. -/
def extentOf (l : List (Nat × Int)) : Int × Int :=
  l.foldl (fun x q =>
    let span := ((q.1 : Int) - 1) * q.2
    if span < 0 then (x.1 + span, x.2) else (x.1, x.2 + span)) (0, 0)

/-- An endpoint's extent: first and last byte, relative to a device address, a tile run or a region run. -/
structure Extent where
  lo : Int
  hi : Int
deriving DecidableEq, Repr

/-- First byte of an endpoint in its own numbering: the device address, the byte of the core's tile space (data or
scale planes) or of its region space. -/
def Endpoint.origin (e : Endpoint) (planes : Bool) : Int :=
  match e.kind with
  | 0 => e.dev
  | 1 => e.addr * (if planes then 256 else 4096)
  | _ => e.addr * 32768

/-- R193, R198: both extents of a WALK. -/
def Cmd.walkExtents (k : Cmd) (l : List Level) : Extent × Extent :=
  let z := walkSizes k.shape k.esize
  let a := extentOf (l.map fun x => (x.count, x.ss))
  let b := extentOf (l.map fun x => (x.count, x.ds))
  let pl := k.shape = 3
  let os := (k.endpoint 2).origin pl
  let od := (k.endpoint 4).origin pl
  (⟨os + a.1, os + a.2 + z.1 - 1⟩, ⟨od + b.1, od + b.2 + z.2 - 1⟩)

/-- The extent lies inside its endpoint: the tile run up to T63, the region run up to G15, or populated offsets of one
device address space (R31, R32, R68, R196). -/
def Endpoint.holds (e : Endpoint) (planes : Bool) (x : Extent) : Bool :=
  match e.kind with
  | 0 => (clsBase e.cls : Int) ≤ x.lo && x.hi < clsBase (e.cls + 1)
  | 1 => e.origin planes ≤ x.lo && x.hi < 64 * (if planes then 256 else 4096)
  | _ => e.origin planes ≤ x.lo && x.hi < 16 * 32768

/-- Granules of 256 bytes an extent of device addresses touches, as single probes; the check of each. -/
def Extent.len (x : Extent) : Nat := (x.hi - x.lo + 1).toNat

/-- R175, R190, R193, R259: the status that stops a device endpoint, for an extent inside its class. -/
def State.extentStatus (s : State) (h : Nat) (x : Extent) : Status := s.accessStatus h x.lo.toNat x.len

/-- R31, R191: a class 0xF endpoint needs ESIZE 2, elements of 4 bytes on its side, and every element address a multiple
of 4. -/
def csrShapeOk (e : Endpoint) (esize size : Nat) (offs : List Int) : Bool :=
  e.kind ≠ 0 || e.cls ≠ 15 || (esize = 2 && size = 4 && offs.all fun o => ((e.dev : Int) + o) % 4 = 0)

/-- Two extents meet in one tile run, region run or memory. -/
def extentsMeet (a b : Endpoint) (x y : Extent) : Bool :=
  a.kind = b.kind && x.lo ≤ y.hi && y.lo ≤ x.hi

/-- R197: a WALK of SHAPE 0 from a region run into a tile run carries scales and flags. -/
def Cmd.carries (k : Cmd) : Bool := k.shape = 0 && (k.endpoint 2).kind = 2 && (k.endpoint 4).kind = 1

/-- Regions, by tile, that a carrying WALK reads for each tile it writes. -/
def Cmd.carryPairs (k : Cmd) (l : List Level) : List (Nat × Nat) :=
  let e := 2 ^ k.esize
  let os := (k.endpoint 2).origin false
  let od := (k.endpoint 4).origin false
  (walkOffs l.reverse).flatMap fun p =>
    (List.range e).map fun (i : Nat) => (((od + p.2 + (i : Int)) / 4096).toNat, ((os + p.1 + (i : Int)) / 32768).toNat)

/-- R174, R193, R197: the statuses with which a WALK ends before it moves a byte; none where it goes on. -/
def State.walkStop (s : State) (h : Nat) (k : Cmd) : List Status :=
  match s.descr h k with
  | none => [.range]
  | some l =>
    let e1 := k.endpoint 2
    let e2 := k.endpoint 4
    let pl := k.shape = 3
    let x := k.walkExtents l
    let offs := walkOffs l.reverse
    let z := walkSizes k.shape k.esize
    let side (e : Endpoint) (y : Extent) (size : Nat) (o : List Int) : Status :=
      if !e.holds pl y || !csrShapeOk e k.esize size o then .range else if e.kind = 0 then s.extentStatus h y else .ok
    let bad := extentsMeet e1 e2 x.1 x.2 || 2 ^ 40 < walkTotal k l || (k.carries &&
      (k.carryPairs l).any fun a => (k.carryPairs l).any fun b =>
        a.1 = b.1 && s.fInt (GSTAT_SCALE h a.2) ≠ s.fInt (GSTAT_SCALE h b.2))
    [side e1 x.1 z.1 (offs.map Prod.fst), side e2 x.2 z.2 (offs.map Prod.snd), if bad then .range else .ok].filter (· ≠ .ok)

/-- R32, R173: the WALL Warnings of a WALK whose extents are refused at the wall. -/
def State.walkWall (s : State) (h : Nat) (k : Cmd) (l : List Level) : State :=
  let x := k.walkExtents l
  let out (t : State) (e : Endpoint) (y : Extent) : State :=
    if e.kind = 0 && e.holds false y then t.wallEvent h k y.lo.toNat y.len else t
  out (out s (k.endpoint 2) x.1) (k.endpoint 4) x.2

/-- R544: the tiles or regions an extent reaches, first and last. -/
def Extent.units (x : Extent) (size : Nat) : Nat × Nat := ((x.lo / size).toNat, (x.hi / size).toNat)

/-- R544: the narrowed extents of a WALK, of its source and its destination. -/
def Cmd.walkUnits (k : Cmd) (l : List Level) : Option (Nat × Nat) × Option (Nat × Nat) :=
  let x := k.walkExtents l
  let unit (e : Endpoint) (y : Extent) : Option (Nat × Nat) :=
    match e.kind with
    | 0 => none
    | 1 => some (y.units (if k.shape = 3 then 256 else 4096))
    | _ => some (y.units 32768)
  (unit (k.endpoint 2) x.1, unit (k.endpoint 4) x.2)

/-- R42: MXFP6, four in three bytes, to one per byte. -/
def unpack6 (l : List Byte) : List Byte :=
  let n := leVal l
  (List.range (l.length * 4 / 3)).map fun i => BitVec.ofNat 8 (n / 64 ^ i % 64)
/-- R42: one per byte to four in three bytes. -/
def pack6 (l : List Byte) : List Byte :=
  leBytes (l.length * 3 / 4) (l.foldr (fun b n => b.toNat % 64 + 64 * n) 0)

/-- R198: how a walk treats an element. -/
def shapeBytes (shape : Nat) (l : List Byte) : List Byte :=
  match shape with | 1 => unpack6 l | 2 => pack6 l | _ => l

/-- R196: `k` bytes of an endpoint as they stand, from byte `b` of its own numbering. -/
def State.endBytes (s : State) (h : Nat) (e : Endpoint) (pl : Bool) (b k : Nat) : List Byte :=
  match e.kind with
  | 0 => s.rdN b k
  | 1 => (List.range k).map fun i =>
      if pl then s.plane h ((b + i) / 256) ((b + i) % 256) else s.tile h ((b + i) / 4096) ((b + i) % 4096)
  | _ => (List.range k).map fun i => s.regionByte h 0 (b + i)

/-- R196: bytes written to a tile run, or to its scale planes. -/
def State.tileBytes (s : State) (h : Nat) (pl : Bool) (b : Nat) (d : List Byte) : State :=
  d.zipIdx.foldl (fun t x =>
    if pl then t.setPlane h ((b + x.2) / 256) ((b + x.2) % 256) x.1
    else t.setTile h ((b + x.2) / 4096) ((b + x.2) % 4096) x.1) s

/-- Address of an append pointer's BASE (R204). -/
def State.apBase (s : State) (n m a : Nat) : Nat :=
  devAddr (s.f (AP_BASEH_CLS n m a)) (s.f (AP_BASEL_BASE_LO n m a) + 2 ^ 32 * s.f (AP_BASEH_BASE_HI n m a))

/-- R197: scale and flags of the tiles that a walk fills from regions. -/
def State.carry (s : State) (h : Nat) (l : List (Nat × Nat)) : State :=
  (l.map Prod.fst).eraseDups.foldl (fun t u =>
    let rs := ((l.filter fun p => p.1 = u).map Prod.snd).eraseDups
    t.setGrainPlane h u (s.fInt (GSTAT_SCALE h (rs.getD 0 0))) (Flags.any (rs.map (s.regionFlags h)))) s

/-! ### A command cut off (R178, R213, R229) -/

/-- What an issued WALK or APPEND that is cut off had moved: each element, read and written as it stands, or not, by a free
value each; none of a run of registers. The state and the bytes written (log entry 25). -/
def State.cutCopy (s : State) (h : Nat) (k : Cmd) (e2 : Endpoint) (l : List (Int × Int)) : State × Nat :=
  let e1 := k.endpoint 2
  let z := walkSizes k.shape k.esize
  let f := s.takeFree
  let pl := k.shape = 3
  if (e1.kind = 0 && e1.cls = 15) || (e2.kind = 0 && e2.cls = 15) then (s, 0)
  else
    l.zipIdx.foldl (fun t x =>
      if (Config.freeByte f.1 x.2).toNat % 2 = 0 then t
      else
        let d := shapeBytes k.shape (t.1.endBytes h e1 (pl && e1.kind = 1) (e1.origin (pl && e1.kind = 1) + x.1.1).toNat z.1)
        let b := (e2.origin (pl && e2.kind = 1) + x.1.2).toNat
        (if e2.kind = 0 then (t.1.writeDev .none b d).1 else t.1.tileBytes h (pl && e2.kind = 1) b d, t.2 + 2 ^ k.esize))
      (f.2, 0)

/-- R178, R213: an issued WALK or APPEND is cut off: what it had not moved counts as cancelled. -/
def State.cutMove (s : State) (h : Nat) (k : Cmd) : State :=
  if k.isWalk h then
    match s.descr h k with
    | none => s
    | some l =>
      let n := walkTotal k l
      if s.walkStop h k ≠ [] then s.planned h n 0 0 n
      else
        let r := s.cutCopy h k (k.endpoint 4) (walkOffs l.reverse)
        let t := if k.carries && Config.freeBit s.free then r.1.carry h (k.carryPairs l) else r.1
        t.planned h n r.2 0 (n - r.2)
  else if k.isAppend h then
    let n := s.f (AP_STEP_STEP h k.mover k.aptr)
    let a := s.apBase h k.mover k.aptr + k.pos
    let r := s.cutCopy h k ⟨a % clsBase 1, a / clsBase 1, 0, 0⟩
      ((List.range (n / 2 ^ k.esize)).map fun i => (((i * 2 ^ k.esize : Nat) : Int), ((i * 2 ^ k.esize : Nat) : Int)))
    r.1.planned h n r.2 0 (n - r.2)
  else s

end Sys2Proof.Machine
end

