-- ==== Sys2Proof/Machine/HartOps.lean ====
section
/-!
DEFINITION. What happens to a control core as a whole: its watchdog (R151), starting it (R148, R318), its exceptions
(R150), leaving RUN (R152, R202), unspecified contents (R100, R121, R207), and the parts of its cluster that its
instructions and flits reach: barriers (R325), the inbox (R324) and kettle notices (R328).
-/

namespace Sys2Proof.Machine

/-! ### Clusters -/

/-- Cores and sequencer of a cluster, by control-core number. -/
def cluHarts (c : Nat) : List Nat := (List.range 32).map (32 * c + ·) ++ [1024 + c]

/-- R356: nothing of the cluster is at work: no instruction that could issue, no command issued and not completed, no
transaction outstanding. A stalled core counts as idle, and so does a command that waits for its launch time. -/
def State.cluIdle (s : State) (c : Nat) : Bool :=
  (cluHarts c).all fun h =>
    (s.f (CC_STAT_STATE h) ≠ 1 || (s.hart h).stall.isSome) &&
    (s.hart h).cmds.all fun k => k.phase = .waiting

/-- R356: the cluster was active now. -/
def State.touch (s : State) (c : Nat) : State := s.modClu c fun x => { x with idleAt := s.copyU c }

/-! ### The watchdog (R151) -/

def State.wdogLoad (s : State) (h : Nat) : State :=
  let t := s.copyU (hartClu h) + s.f (CC_WDOG_PERIOD_US h) * 1000 * nsU
  s.modHart h fun x => { x with wdogEnd := t, wdogLeft := s.f (CC_WDOG_PERIOD_US h) * 1000 * nsU }

/-- R151: the watchdog of control core `h` stops counting and holds. -/
def State.wdogStop (s : State) (h : Nat) : State := s.modHart h fun x => { x with wdogLeft := s.wdogCount h }

/-- R151: the watchdogs of a cluster hold while it is in Steep or Rest; one whose core is not in RUN holds already. -/
def State.wdogHold (s : State) (c : Nat) : State :=
  (cluHarts c).foldl (fun t h => if s.f (CC_STAT_STATE h) = 1 then t.wdogStop h else t) s

/-- R151: on the wake they continue from the count they held. -/
def State.wdogGo (s : State) (c : Nat) : State :=
  (cluHarts c).foldl (fun t h => t.modHart h fun x => { x with wdogEnd := s.copyU c + x.wdogLeft }) s

/-- R155: the cluster runs from its oscillator: `CC_FSUM.CLKINT` is set on a core in RUN. -/
def State.clkInt (s : State) (h : Nat) : State :=
  if s.on (CLK_STAT_SRC (hartClu h)) && s.f (CC_STAT_STATE h) = 1 then s.setF (CC_FSUM_CLKINT h) 1 else s

/-! ### Unspecified contents -/

/-- A tile register, its scale plane included, holds unspecified bytes. -/
def State.freeTile (s : State) (n t : Nat) : State :=
  let f := s.takeFree
  let d := (List.range 4096).foldl (fun u i => u.setTile n t i (Config.freeByte f.1 i)) f.2
  (List.range 256).foldl (fun u i => u.setPlane n t i (Config.freeByte f.1 (4096 + i))) d

/-- A flag takes a free value. -/
def State.freeFlag (s : State) (d : Fd) : State :=
  let f := s.takeFree
  f.2.setF d (if Config.freeBit f.1 then 1 else 0)

/-- A region holds unspecified grains and flags. -/
def State.freeRegion (s : State) (n g : Nat) : State :=
  let f := s.takeFree
  let d := (List.range 4096).foldl (fun u i => u.setGrain n g i (grainSat (Config.freeGrain f.1 i)).1) f.2
  (((d.freeFlag (GSTAT_SAT n g)).freeFlag (GSTAT_NONFIN n g)).freeFlag (GSTAT_GUARD n g)).freeFlag (GSTAT_LOST n g)

/-- R101, R121: rows 0 to `m` − 1 of a run of output tiles from `t0`, and their scales, hold unspecified bytes. -/
def State.freeRows (s : State) (n t0 m : Nat) (f : Fmt) : State :=
  let x := s.takeFree
  let d := (List.range (m * (64 * f.bits / 8))).foldl (fun u i => u.setTile n (t0 + i / 4096) (i % 4096) (Config.freeByte x.1 i)) x.2
  if f.isMx then
    (List.range (2 * m)).foldl (fun u i => u.setPlane n (t0 + i / 128) (i % 128) (Config.freeByte x.1 (2 ^ 24 + i))) d
  else d

/-- A run of memory holds unspecified bytes. -/
def State.freeMem (s : State) (a len : Nat) : State :=
  let f := s.takeFree
  (List.range len).foldl (fun u i => u.wr (a + i) (Config.freeByte f.1 i)) f.2

/-- Units 0–63 tiles, 64–79 regions (R166), with unspecified contents. -/
def State.freeUnit (s : State) (n u : Nat) : State := if u < 64 then s.freeTile n u else s.freeRegion n (u - 64)

/-! ### Leaving RUN -/

/-- The queue of mover `m` of a control core: a core's M0Q and M1Q, a sequencer's targets 1 to 8. -/
def moverQ (h m : Nat) : Nat := if isSeqHart h then 1 + m else 2 + m
/-- The movers of a control core. -/
def movers (h : Nat) : List Nat := if isSeqHart h then List.range 8 else List.range 2

/-- The stream commands of mover `m`, in queue order. -/
def State.streams (s : State) (h m : Nat) : List Cmd :=
  (s.hart h).cmds.filter fun k => k.q = moverQ h m && k.isStream h && k.phase ≠ .ran

/-- Entries of the address queue of mover `m`. -/
def State.aqOf (s : State) (h m : Nat) : List AqEntry := (s.hart h).aq.filter fun e => e.m = m

/-- The stream command of mover `m` that has issued and not yet taken its LAST entry. -/
def State.streamWaits (s : State) (h m : Nat) : Option Cmd := (s.streams h m).find? fun k => k.phase = .issued

/-- R202: a stream command ends with TIMEOUT, and its record is written. -/
def State.streamOut (s : State) (h : Nat) (k : Cmd) : State := (s.stopCmd h k.id .timeout).complete h k.id

/-- R178, R213: a stream that times out takes its entries up to LAST, and they count as cancelled. -/
def State.dropEntries (s : State) (h : Nat) (k : Cmd) : State :=
  if !k.isStream h then s
  else
    let m := if isSeqHart h then k.q - 1 else k.q - 2
    let l := s.aqOf h m
    let n := min l.length ((l.takeWhile fun e => !e.last).length + 1)
    let bytes := (l.take n).foldl (fun t e => t + e.len) 0
    let keep := l.drop n
    (s.modHart h fun x => { x with aq := (x.aq.filter fun e => e.m ≠ m) ++ keep }).planned h bytes 0 0 bytes

/-- R202: the control core has left RUN. A stream command of mover `m` that has not taken its LAST entry takes the entries
that are held, cancels each (refuses it where its status was fixed, R545) and completes with TIMEOUT; every later stream
command of the queue completes with TIMEOUT at once. -/
def State.streamCancel (s : State) (h m : Nat) : State :=
  match s.streamWaits h m with
  | none => s
  | some k =>
    let n := (s.aqOf h m).foldl (fun t e => t + e.len) 0
    let s := if !k.fixed then s.planned h n 0 0 n
      else (if isSeqHart h then s else s.bump (MV_STAT_SKIPS h m) (s.aqOf h m).length).planned h n 0 n 0
    let s := s.modHart h fun x => { x with aq := x.aq.filter fun e => e.m ≠ m }
    let later := (s.streams h m).filter fun e => k.id < e.id
    later.foldl (fun t e => t.streamOut h e) (s.streamOut h k)

/-- R152, R202: a control core has left RUN: its held IMEM writes land and its streams are cancelled. -/
def State.leaveRun (s : State) (h : Nat) : State :=
  let s := s.modHart h fun x => { x with stall := none }
  (movers h).foldl (fun t m => t.streamCancel h m) (s.landHeld h)

/-- R415: a glean window in progress on the core ends and counts as run. -/
def State.gleanCut (s : State) (n : Nat) : State :=
  if (s.hart n).gleanEnd.isSome then s.modHart n fun x => { x with gleanEnd := none, gleanAt := s.copyU (hartClu n) }
  else s

/-- R148, R149, R151: a core start: the program counter is set and nothing else of the core's own state (R125). -/
def State.startHart (s : State) (h pc : Nat) : State :=
  let s := if isSeqHart h then s else s.gleanCut h
  let s := s.modHart h fun x => { x with pc := pc, stall := none }
  ((((s.setF (CC_STAT_STATE h) 1).setF (CC_STAT_CAUSE h) 0).wdogLoad h).clkInt h).touch (hartClu h)

/-- The address an exception records: a byte address, or a word address on the sequencer (R308). -/
def epcOf (h a : Nat) : Nat := if isSeqHart h then a / 4 % 65536 else a % 65536

/-- R150: exception `cause` at address `a`: the core enters EXC, records it, raises CORE_EXC and reports to its
sequencer. A sequencer has no one above it (R305). -/
def State.exc (s : State) (h cause a : Nat) : State :=
  let s := (((s.wdogStop h).setF (CC_STAT_STATE h) 2).setF (CC_STAT_CAUSE h) cause).setF (CC_EPC_EPC h) (epcOf h a)
  let s := s.leaveRun h
  let s := s.raiseHart clsError 0x010 h (cause + epcOf h a * 65536)
  if isSeqHart h then s else s.inject h (.exc h cause)

/-- R150: the exceptions IECC and DECC also raise MEM_UE for the memory word at device address `m`. -/
def State.excMem (s : State) (h cause a m : Nat) : State := (s.raiseMemUe m).exc h cause a

/-- R149: HALT with its code. -/
def State.haltHart (s : State) (h code : Nat) : State :=
  let s := ((s.wdogStop h).setF (CC_STAT_STATE h) 0).setF (CC_STAT_HCODE h) code
  let s := s.leaveRun h
  if isSeqHart h then s else s.inject h (.halt h code)

/-! ### Barriers (R325) -/

/-- The credits of a barrier release travel on the sequencer bus to each named core. -/
def State.barrierCredits (s : State) (c b : Nat) : State :=
  let p := s.partOf c
  let amt := s.f (SEQ_BRCTL_CAMT c b)
  let cores := maskCores c (BitVec.ofNat 32 (s.f (SEQ_BRMASK_MASK c b)))
  let s := cores.foldl (fun t n =>
    (t.ledgerAdd p lSent amt).launchBus c (.credit p n (t.f (SEQ_BRCTL_CN c b)) amt)) s
  if s.on (SEQ_BRCTL_SCEN c b) then
    (s.ledgerAdd p lSent amt).addCredit (1024 + c) (s.f (SEQ_BRCTL_SCN c b)) amt p
  else s

/-- R325: one arrival at barrier `b` of cluster `c`; in the cycle ARRIVED reaches EXPECT the barrier is released. EXPECT 0
disables it. -/
def State.barrier (s : State) (c b : Nat) : State :=
  let n := s.f (SEQ_BAR_ARRIVED c b) + 1
  if s.f (SEQ_BAR_EXPECT c b) = 0 then s
  else if s.f (SEQ_BAR_EXPECT c b) ≤ n then
    (((s.setF (SEQ_BAR_ARRIVED c b) 0).setF (SEQ_BAR_GEN c b) (s.f (SEQ_BAR_GEN c b) + 1)).barrierCredits c b)
  else s.setF (SEQ_BAR_ARRIVED c b) n

/-! ### The inbox (R324) -/

/-- R324: what an inbox word means. -/
inductive Inbox where
  | credit (n amt : Nat)
  | arrive (b : Nat)
  | mail (payload : Word)
  | refused
deriving DecidableEq, Repr

/-- R324: kind 3, a nonzero bit that must be 0, a CREDIT of amount 0 and an ARRIVE at a barrier with EXPECT = 0 are
refused. -/
def State.inboxOf (s : State) (c : Nat) (w : Word) : Inbox :=
  match wbits w 30 2 with
  | 0 => if wbits w 4 4 = 0 ∧ wbits w 24 6 = 0 ∧ wbits w 8 16 ≠ 0 then .credit (wbits w 0 4) (wbits w 8 16) else .refused
  | 1 => if wbits w 3 27 = 0 ∧ s.f (SEQ_BAR_EXPECT c (wbits w 0 3)) ≠ 0 then .arrive (wbits w 0 3) else .refused
  | 2 => .mail (BitVec.ofNat 32 (wbits w 0 30))
  | _ => .refused

/-- The credits an inbox word carries, for the ledger (R324, R419). -/
def inboxCredits (w : Word) : Nat := if wbits w 30 2 = 0 then wbits w 8 16 else 0

/-- R324: a refused inbox word is counted and raises a Warning; credits it carried count as refused. -/
def State.inboxRefuse (s : State) (part c : Nat) (w : Word) : State :=
  ((s.bump (SEQ_DROP_INBAD c) 1).raiseClu clsWarning 0x012 c w.toNat).ledgerAdd part lRefused (inboxCredits w)

/-! ### Kettle notices (R328) -/

/-- R328: the length of a window, in ns, for an operand other than 0. -/
def windowNs (d : Nat) : Nat := min 100000000 (max 1000 d)

/-- Windows that overlap or abut. -/
def meets (a b : Kettle) : Bool := a.start ≤ b.stop && b.start ≤ a.stop

/-- R328: a window merged into the pending windows it overlaps or abuts. DESIGN CHOICE (log entry 74): the merged window was
announced at the earliest of their issue times (R86). -/
def mergeKettle (l : List Kettle) (k : Kettle) : List Kettle :=
  let hit := l.filter (meets k)
  let m := hit.foldl (fun a b => ⟨min a.start b.start, max a.stop b.stop, min a.issued b.issued⟩) k
  l.filter (fun x => !meets k x) ++ [m]

/-- R328: a notice of a window at DTIME `t` (64 bits) for `d` ns, issued now by a core or the sequencer of cluster `c`.
A forwarded cancellation is a notice whose window ends at 0. -/
def State.knote (s : State) (c : Nat) (t d : Nat) : State :=
  let now := s.copyU c
  if d = 0 then
    (s.modClu c fun x => { x with kettle := [], notices := x.notices ++ [⟨now, 0, now⟩] }).bump (KN_STAT_NOTICES c) 1
  else
    let lead := t - s.copy c
    let k : Kettle := ⟨now + lead, now + lead + windowNs d * nsU, now⟩
    let l := mergeKettle (s.liveKettle c) k
    if 4 < l.length then (s.bump (KN_STAT_REFUSED c) 1).raiseClu clsWarning 0x055 c t
    else
      let s := s.modClu c fun x => { x with kettle := l, notices := x.notices ++ [k] }
      let s := s.bump (KN_STAT_NOTICES c) 1
      if lead < 2000 * nsU then s.bump (KN_STAT_SHORT c) 1 else s

end Sys2Proof.Machine
end

