-- ==== Sys2Proof/Machine/TimeOps.lean ====
section
/-!
DEFINITION. The master count and what follows it (R284–R292): its rate, wraps, keepers and copies, and the choice of its source
(R295).
-/

namespace Sys2Proof.Machine

def State.modTim (s : State) (g : Tim → Tim) : State := { s with tim := g s.tim }

/-- Units of 2^-16 ns in a second. -/
def secU : Nat := 1000000000 * nsU

/-! ### Counting (R284, R286) -/

/-- R286: what RATE has added to DTIME up to now, in 2^-56 ns, that is in 2^-40 of a unit. -/
def State.phase (s : State) : Int := s.tim.phase + s.fInt TIME_RATE_RATE * ((s.dtime : Int) - s.tim.phaseAt)

/-- RATE takes a new value. -/
def State.setRate (s : State) (r : Int) : State :=
  (s.modTim fun x => { x with phase := s.phase, phaseAt := s.dtime }).setInt TIME_RATE_RATE r

/-- R284: the wrap. -/
def State.wrapNow (s : State) : State :=
  ((s.modTim fun x => { x with wraps := x.wraps + 1 }).setF TIME_STAT_WRAPSOON 0).bump TIME_STAT_ERA 1

/-- R284: 10 s of DTIME before the wrap. -/
def State.wrapSoon (s : State) : State :=
  if s.on TIME_STAT_WRAPSOON then s
  else (s.setF TIME_STAT_WRAPSOON 1).raise clsNote 0x042 0xFF 6 0 (s.f TIME_STAT_SRC)

/-- The DTIME of the next wrap. -/
def State.wrapAt (s : State) : Nat := (s.tim.wraps + 1) * 2 ^ 64

/-- R284, R286: the master counts 1 ns, times 1 + RATE, with 24 bits below 2^-16 ns. -/
def State.count (s : State) : State :=
  let x : Int := s.tim.frac + s.fInt TIME_RATE_RATE
  let s : State := { s with dtime := ((s.dtime : Int) + nsU + x / 2 ^ 24).toNat, tim := { s.tim with frac := (x % 2 ^ 24).toNat } }
  let s := if s.wrapAt ≤ s.dtime then s.wrapNow else s
  if s.wrapAt ≤ s.dtime + 10 * secU then s.wrapSoon else s

/-- The next multiple of a period of DTIME, which wraps (R284), at or after now. -/
def State.toMultiple (s : State) (ns : Nat) : State :=
  let r := s.dtime % 2 ^ 64
  { s with dtime := s.dtime / 2 ^ 64 * 2 ^ 64 + min (2 ^ 64) ((r + ns * nsU - 1) / (ns * nsU) * (ns * nsU)) }

/-! ### Keepers (R285–R292) -/

/-- R286, R290: a keeper less the master's DTIME: it counts at the rate of its last beacon, and removes ε. -/
def Keeper.val (k : Keeper) (t : Nat) (phase : Int) : Int :=
  k.ofs + slewBy k.eps (t - k.since) + (k.rate * ((t : Int) - k.since) - (phase - k.phase)) / 2 ^ 40

/-- Keeper `u`: of cluster `u`, or of corner die `u` − 32. -/
def State.keeper (s : State) (u : Nat) : Keeper :=
  if u < 32 then (s.clu u).keeper else (s.tim.cdie.get Keep.reset (u - 32)).keeper
def State.keepOfs (s : State) (u : Nat) : Int := (s.keeper u).val s.dtime s.phase
def State.modKeep (s : State) (p : Nat) (g : Keep → Keep) : State :=
  s.modTim fun x => { x with cdie := x.cdie.set Keep.reset p (g (x.cdie.get Keep.reset p)) }
def State.setKeeper (s : State) (u : Nat) (k : Keeper) : State :=
  if u < 32 then s.modClu u fun x => { x with keeper := k } else s.modKeep (u - 32) fun x => { x with keeper := k }

/-- R292: the compute copy loads its keeper's value. -/
def State.loadCopy (s : State) (c : Nat) : State :=
  s.modClu c fun x => { x with tOfs := s.keepOfs c, tSince := s.dtime, tEps := 0 }

/-! ### Sources (R295, R299) -/

/-- The module is part of a system of more than one module (R299, R462). -/
def State.inSystem (s : State) : Bool := 1 < s.boot.system.1 * s.boot.system.2.1 * s.boot.system.2.2

/-- R295: the best source of the module's own, its parent apart. -/
def State.ownSrc (s : State) : Nat :=
  if s.on PTP_CFG_EN && s.tim.gm.isSome && s.tim.ptpUp then 3
  else if s.on MOD_PINS_PPSIN && s.tim.todSet then 2
  else if s.tim.acquired then 1 else 0

/-- R295, R299: the source that disciplines the master; a module that is not its system's master follows its parent. -/
def State.bestSrc (s : State) : Nat :=
  if s.inSystem && !s.on TIME_STAT_SYSMASTER && s.f OCT_SYS_PARENT ≠ 15 then 4 else s.ownSrc

/-- R295, R299, R301: choose the source; entering holdover raises a Warning and leaving it a Note. In free-run RATE is 0. Only a
source of the module's own is acquired (log entry 77). -/
def State.reSource (s : State) : State :=
  let s := s.modTim fun x => { x with acquired := x.acquired || 2 ≤ s.ownSrc }
  let w := s.ownSrc
  let s := s.modTim fun x => { x with own := w, lostAt := if w = 1 ∧ x.own ≠ 1 then s.dtime else x.lostAt }
  let n := s.bestSrc
  let o := s.f TIME_STAT_SRC
  let s := s.setF TIME_STAT_SRC n
  let s := if n = 0 then s.setRate 0 else s
  if n = 1 ∧ o ≠ 1 then s.raise clsWarning 0x042 0xFF 6 0 1
  else if o = 1 ∧ n ≠ 1 then s.raise clsNote 0x042 0xFF 6 0 n else s

/-- R295, R297: a start: no source has been acquired since, no time of day set, and PTP has not locked. -/
def State.timeStart (s : State) : State :=
  (s.modTim fun x => { x with acquired := false, todSet := false, locked := false }).reSource

/-- R297, R300: RATE moves to remove an offset `e` of the master, down where it is ahead, within `lim` units of 2^-40: the spec
bounds the trim and does not give it (log entry 3). -/
def State.trim (s : State) (e : Int) (lim : Nat) : State :=
  let r := max (-(lim : Int)) (min (lim : Int) (s.fInt TIME_RATE_RATE))
  let lo := if 0 < e then -(lim : Int) else r
  let hi := if e < 0 then (lim : Int) else r
  let q := s.takeFree
  q.2.setRate (lo + ((Config.freeNat q.1 % ((hi - lo).toNat + 1) : Nat) : Int))
/-- ±100 ppm and ±1,000 ppm in units of 2^-40. -/
def ppm100 : Nat := 109951162
def ppm1000 : Nat := 1099511627


/-- EPOCH in ns (R297, R302). -/
def State.epoch (s : State) : Nat :=
  (s.f TIME_EPOCH1_SEC_LO + 2 ^ 32 * s.f TIME_EPOCH2_SEC_HI) * 1000000000 + s.f TIME_EPOCH0_NS

/-- Set it. -/
def State.setEpoch (s : State) (ns : Nat) : State :=
  let t := ns / 1000000000
  ((s.setF TIME_EPOCH0_NS (ns % 1000000000)).setF TIME_EPOCH1_SEC_LO t).setF TIME_EPOCH2_SEC_HI (t / 2 ^ 32)

end Sys2Proof.Machine
end

