-- ==== Sys2Proof/Machine/BarnOps.lean ====
section
/-!
DEFINITION. The barn's shared operations: its account and tables (R419, R490–R493), the layout of a bale (R479, R480),
descriptors and the checks of a command (R481–R486), completion, mount (R496) and detaching (R497).
-/

namespace Sys2Proof.Machine

/-! ### The account (R419, R490) -/

/-- The device's accounts are kept as those of a partition numbered 32. -/
def devPart : Nat := 32
/-- First term of the barn account: TOTAL, FREE, ALLOCATED, BAD, PENDING. -/
def lBarn : Nat := 20

/-- R500: channel `ch` is in service. -/
def State.chOk (s : State) (ch : Nat) : Bool := s.f (BARN_CH_STATE ch) = 2

/-- Blocks of channels in service that stand in term `i`; term 0 is TOTAL. -/
def State.blocksIn (s : State) (i : Nat) : Nat :=
  (s.barn.blocks.filter fun b => s.chOk b.ch && (i = 0 || b.term = i)).length

/-- R420, R500: write the account's terms and the registers that show them. -/
def State.barnCount (s : State) : State :=
  let s := (List.range 5).foldl (fun t i =>
    (t.setF (BARN_BLK_BLOCKS i) (s.blocksIn i)).modPart devPart fun x =>
      { x with ledger := ledgerWrite x.ledger (lBarn + i) (s.blocksIn i) }) s
  s.setF BARN_BALES_BALES s.barn.bales.length

/-- R489: a change is journalled. -/
def State.journal (s : State) : State := { s with barn := { s.barn with records := s.barn.records + 1 } }

def State.setBales (s : State) (l : List Bale) : State := { s with barn := { s.barn with bales := l } }
def State.setBlocks (s : State) (l : List Block) : State := { s with barn := { s.barn with blocks := l } }
def State.findBale (s : State) (id : Nat) : Option Bale := s.barn.bales.find? fun b => b.id = id
def State.modBale (s : State) (id : Nat) (g : Bale → Bale) : State :=
  s.setBales (s.barn.bales.map fun b => if b.id = id then g b else b)

/-- The block is block `blk` of target `tgt` of channel `ch`. -/
def Block.named (b : Block) (ch tgt blk : Nat) : Bool := b.ch = ch && b.tgt = tgt && b.blk = blk
def State.modBlock (s : State) (ch tgt blk : Nat) (g : Block → Block) : State :=
  s.setBlocks (s.barn.blocks.map fun b => if b.named ch tgt blk then g b else b)
def State.findBlock (s : State) (ch tgt blk : Nat) : Option Block := s.barn.blocks.find? fun b => b.named ch tgt blk

/-- R489, R482: a bale leaves the catalogue and its blocks become PENDING. -/
def State.dropBale (s : State) (id : Nat) : State :=
  (((s.setBales (s.barn.bales.filter fun b => b.id ≠ id)).setBlocks
    (s.barn.blocks.map fun b => if b.term = 2 ∧ b.bale = id then { b with term := 4, bale := 0 } else b)).journal).barnCount

/-! ### Allocation (R493) -/

/-- The FREE block of a channel with the lowest erase count. -/
def State.freeBlock (s : State) (ch : Nat) : Option Block :=
  (s.barn.blocks.filter fun b => b.ch = ch && b.term = 1).foldl (fun a b =>
    match a with
    | none => some b
    | some x => if b.erases < x.erases then some b else some x) none

/-- Give a bale `k` blocks of a channel. -/
def State.takeBlocks (s : State) (ch id : Nat) : Nat → State
  | 0 => s
  | k + 1 =>
    match s.freeBlock ch with
    | none => s
    | some b => (s.modBlock b.ch b.tgt b.blk fun x => { x with term := 2, bale := id, scrubAt := (s.dtime : Int), hot := 0 }).takeBlocks
        ch id k

/-- Move the data of an ALLOCATED block to the FREE block with the lowest erase count; the old block takes term `term`. -/
def State.moveData (s : State) (b : Block) (term : Nat) : State :=
  let s := s.takeBlocks b.ch b.bale 1
  s.modBlock b.ch b.tgt b.blk fun x => { x with term := term, bale := 0 }

/-- R493: one wear move on a target whose erase counts differ by more than the limit. -/
def State.wearTarget (s : State) (ch tgt : Nat) : State :=
  let l := s.barn.blocks.filter fun b => b.ch = ch && b.tgt = tgt && b.term ≠ 3
  let lo := l.foldl (fun a b => min a b.erases) (l.headD ⟨0, 0, 0, 0, 0, 0, 0, 0⟩).erases
  let hi := l.foldl (fun a b => max a b.erases) 0
  if hi - lo ≤ s.f BARN_WEAR_SPREAD then s
  else
    let alloc := (l.filter fun b => b.term = 2).foldl (fun (a : Option Block) b =>
      match a with
      | none => some b
      | some x => if b.erases < x.erases then some b else some x) none
    let free := (l.filter fun b => b.term = 1).foldl (fun (a : Option Block) b =>
      match a with
      | none => some b
      | some x => if x.erases < b.erases then some b else some x) none
    match alloc, free with
    | some a, some f =>
      let s := s.modBlock f.ch f.tgt f.blk fun x => { x with term := 2, bale := a.bale, scrubAt := (s.dtime : Int), hot := 0 }
      let s := s.modBlock a.ch a.tgt a.blk fun x => { x with term := 4, bale := 0 }
      ((s.bump BARN_WEAR_MOVES 1).journal).barnCount
    | _, _ => s

/-- R493: the targets the barn knows. -/
def State.targets (s : State) : List (Nat × Nat) := (s.barn.blocks.map fun b => (b.ch, b.tgt)).eraseDups

/-- R493: wear moves, one on each target that needs one. -/
def State.wear (s : State) : State := s.targets.foldl (fun t x => t.wearTarget x.1 x.2) s

/-! ### Layout (R479, R480) -/

/-- R479: the groups whose four channels were all in service at creation. -/
def Bale.groups (b : Bale) : List Nat :=
  (List.range 32).filter fun g => (List.range 4).all fun i => b.chans.contains (g + 32 * i)

/-- R479: the channel of data page `j`. -/
def Bale.pageChan (b : Bale) (j : Nat) : Nat :=
  if b.parity then
    let gs := b.groups
    let r := j / (3 * gs.length)
    let g := gs.getD (j % (3 * gs.length) / 3) 0
    let pos := ((List.range 4).filter fun i => i ≠ r % 4).getD (j % 3) 0
    g + 32 * pos
  else b.chans.getD (j % b.chans.length) 0

/-- Codewords of a page of the bale's channels (R476). -/
def State.baleP (s : State) (b : Bale) : Nat := s.barn.cwords.get 0 (b.chans.headD 0)

/-- R479: two units lie in one row and group, at one codeword of their pages. -/
def sameStripe (p g u v : Nat) : Bool :=
  u % p = v % p && u / p / (3 * g) = v / p / (3 * g) && u / p % (3 * g) / 3 = v / p % (3 * g) / 3

/-- R480: a unit that no read gives and no rebuild gives back. `bad` lists the uncorrectable units of the bale, each with whether the
parity codeword of its row and group fails too; a unit on a channel out of service is rebuilt from the other three pages. -/
def State.unitLost (s : State) (b : Bale) (bad : List (Nat × Bool)) (u : Nat) : Bool :=
  let p := s.baleP b
  let ch := b.pageChan (u / p)
  let x := bad.find? fun x => x.1 = u
  if s.chOk ch && x.isNone then b.bad.contains u
  else !b.parity || (match x with | some y => y.2 | none => false)
    || (bad.any fun y => y.1 ≠ u && sameStripe p b.groups.length u y.1)
    || (List.range 4).any fun i => ch % 32 + 32 * i ≠ ch && !s.chOk (ch % 32 + 32 * i)

/-- R480: the bale cannot be read with the channels now in service. -/
def State.unreadable (s : State) (b : Bale) : Bool :=
  if b.parity then b.groups.any fun g => 2 ≤ ((List.range 4).filter fun i => !s.chOk (g + 32 * i)).length
  else b.chans.any fun ch => !s.chOk ch

/-- The bytes of unit `u`. -/
def Bale.unit (b : Bale) (u : Nat) : List Byte := (List.range 4096).map fun i => b.data.get 0 (u * 4096 + i)
/-- All bytes of a bale. -/
def Bale.bytes (b : Bale) : List Byte := (List.range b.size).flatMap b.unit

/-- A digest of 256 bits, as eight words. -/
def shake8 (d : List Byte) : List Word := (List.range 8).map (Config.shake256 d)

/-! ### Descriptors (R481) -/

def BarnOp.word (o : BarnOp) (i : Nat) : Word := o.words.getD i 0
def BarnOp.op (o : BarnOp) : Nat := wbits (o.word 0) 0 8
def BarnOp.verify (o : BarnOp) : Bool := wbits (o.word 0) 9 1 = 1
def BarnOp.parity (o : BarnOp) : Bool := wbits (o.word 0) 10 1 = 1
def BarnOp.bale (o : BarnOp) : Nat := (o.word 1).toNat
def BarnOp.bofs (o : BarnOp) : Nat := (o.word 2).toNat + 2 ^ 32 * wbits (o.word 3) 0 16
def BarnOp.haddr (o : BarnOp) : Nat := (o.word 4).toNat + 2 ^ 32 * wbits (o.word 5) 0 16
def BarnOp.len (o : BarnOp) : Nat := (o.word 6).toNat

/-- R481: the descriptor keeps its table; fields the command does not use are 0. -/
def BarnOp.ok (o : BarnOp) : Bool :=
  let op := o.op
  let rng := op = 1 || op = 2
  let w7 := o.word 7
  1 ≤ op && op ≤ 6 && wbits (o.word 0) 11 5 = 0 && wbits (o.word 0) 24 8 = 0 && wbits (o.word 3) 16 16 = 0
    && wbits (o.word 5) 16 16 = 0 && wbits w7 24 8 = 0 && (op = 1 || wbits (o.word 0) 8 2 = 0) && (op = 3 || !o.parity)
    && (if op = 3 && o.host then wbits (o.word 0) 16 8 < 32 || wbits (o.word 0) 16 8 = 0xFF else wbits (o.word 0) 16 8 = 0) && (rng || o.bofs = 0) && (rng || op = 6 || o.haddr = 0)
    && o.haddr % 4096 = 0 && (if rng || op = 3 then 1 ≤ o.len else o.len = 0)
    && (if wbits w7 14 1 = 1 then wbits w7 16 8 ≠ 0 else wbits w7 0 24 = 0) && wbits w7 15 1 = 0

/-- The partition a slot acts for: its cluster's, or none for a host slot (R486). -/
def State.opPart (s : State) (o : BarnOp) : Nat := if o.host then 0xFF else s.partOf o.clu

/-- Bytes of HBM a command names. -/
def BarnOp.hlen (o : BarnOp) : Nat := if o.op = 1 ∨ o.op = 2 then o.len * 4096 else if o.op = 6 then 4096 else 0

/-- R399, R486: the HBM range lies within the rights of the slot. -/
def State.opRange (s : State) (o : BarnOp) : Bool :=
  o.hlen = 0 ||
    if o.host then o.haddr + o.hlen ≤ 0x2FFF0000000 else s.inPart (s.opPart o) (devAddr 0 o.haddr) o.hlen

/-- R486: the slot may name the bale. -/
def State.opRights (s : State) (o : BarnOp) (b : Bale) : Bool :=
  o.host || b.owner = s.opPart o || ((o.op = 1 || o.op = 6) && b.owner = 0xFF)

/-- R479: channels in service, ascending, and whether their pages hold equally many codewords. -/
def State.serviceChans (s : State) : List Nat := (List.range 128).filter s.chOk
def State.evenChans (s : State) : Bool :=
  s.serviceChans.all fun ch => s.barn.cwords.get 0 ch = s.barn.cwords.get 0 (s.serviceChans.headD 0)

/-- R479: erase blocks a bale of `size` units takes on channel `ch`. -/
def State.blocksFor (s : State) (b : Bale) (ch : Nat) : Nat :=
  let p := s.baleP b
  let pages := (b.size + p - 1) / p
  let n :=
    if b.parity then (if b.groups.contains (ch % 32) then (pages + 3 * b.groups.length - 1) / (3 * b.groups.length) else 0)
    else (List.range pages).countP fun j => b.pageChan j = ch
  let per := s.barn.pages.get 0 ch
  (n + per - 1) / per

/-- Posted commands of an operation on a bale, other than this one. -/
def State.opsOn (s : State) (op id : Nat) (o : BarnOp) : Bool := s.barn.ops.any fun x => x ≠ o && x.op = op && x.bale = id

/-- R483, R485: what of the barn's state stops a command on the bale it names. -/
def State.barnState (s : State) (o : BarnOp) (b : Option Bale) : Bool :=
  let st := s.f BARN_STAT_STATE
  let bst := (b.map Bale.state).getD 0
  st < 2 || (st = 3 && o.op ≠ 1 && o.op ≠ 6) || (o.op ≠ 3 && b.isNone) ||
    match o.op with
    | 1 => bst ≠ 1 && bst ≠ 2
    | 2 => bst ≠ 0 || (b.map Bale.wpos).getD 0 ≠ o.bofs
    | 3 =>
      let n : Bale := ⟨o.bale, o.len, 0, o.parity, 0, 0, [], s.serviceChans, [], []⟩
      b.isSome || 65536 ≤ s.barn.bales.length || n.chans.isEmpty || (o.parity && n.groups.isEmpty)
        || n.chans.any fun ch => (s.barn.blocks.filter fun x => x.ch = ch && x.term = 1).length < s.blocksFor n ch
    | 4 => bst ≠ 0 && bst ≠ 3
    | 5 => s.opsOn 1 o.bale o
    | _ => false

/-- R483, R484, R486: a command that is malformed, or names what its slot may not. -/
def State.barnRange (s : State) (o : BarnOp) (b : Option Bale) : Bool :=
  let size := (b.map Bale.size).getD 0
  !o.ok || o.bale = 0 || o.bale = 0xFFFFFFFF || !s.opRange o
    || (b.isSome && (o.op = 1 || o.op = 2) && size < o.bofs + o.len)
    || (b.isSome && o.op ≠ 3 && !(b.map (s.opRights o)).getD false)
    || (o.op = 1 && o.verify && b.isSome && !(o.bofs = 0 && o.len = size))
    || (o.op = 3 && !s.evenChans)

/-- R174, R483–R486: the status with which a command completes with no effect; none where it runs. -/
def State.barnStatus (s : State) (o : BarnOp) : Option Status :=
  let b := s.findBale o.bale
  let l := (if 2 ≤ s.f BARN_STAT_STATE && o.op = 1 && (b.map Bale.state).getD 0 = 2 then [ Status.absent] else []) ++
    (if s.barnRange o b then [ Status.range] else []) ++ if s.barnState o b then [ Status.state] else []
  if l.isEmpty then none else some (pickStatus l)

/-! ### Completion -/

/-- A credit that a unit of the device sends: to core `core` for partition `p`, or for the core's own partition where the
sender has none (R419, R486). -/
def State.devCredit (s : State) (p core cn amt : Nat) : State :=
  let q := if p = 0xFF then s.partOf (core / 32) else p
  let s := s.ledgerAdd q lSent amt
  if q ≠ s.partOf (core / 32) then (s.raise clsWarning 0x002 q 0 core 0).ledgerAdd q lRefused amt
  else if s.absent core then (s.raiseCore clsWarning 0x011 core (cn + amt * 65536)).ledgerAdd q lRefused amt
  else s.injectAt (cornerPlace (s.f BOOT_STAT_MASTER) (0, 0)) (.credit q core cn amt)

/-- R513: an AUTOLOAD entry (words 0–5) as the descriptor of a whole-bale LOAD. -/
def autoWords (e : List Word) : List Word :=
  let w (i : Nat) : Word := e.getD i 0
  [ BitVec.ofNat 32 (1 + 512 * wbits (w 2) 1 1), w 0, 0, 0, w 3, w 4, w 1, w 5]

/-- R513: matching entries are posted in order, as host slots are free. -/
def State.autopost (s : State) : List (List Word) → State
  | [] => { s with barn := { s.barn with autoload := [] } }
  | e :: r =>
    match (List.range 8).find? fun k => !s.on (BARN_HSLOT_BUSY k) with
    | none => { s with barn := { s.barn with autoload := e :: r } }
    | some k =>
      let o : BarnOp := ⟨true, 0, k, autoWords e⟩
      let s := (o.words.zipIdx.foldl (fun t (w, i) => t.setF (BARN_HDESC_WORD k i) w.toNat) s).setF (BARN_HSLOT_BUSY k) 1
      (({ s with barn := { s.barn with ops := s.barn.ops ++ [o] } }.bump MAN_STAT_POSTED 1)).autopost r

/-- R482, R487, R497: a command completes: its slot, and its credit unless ABORTED. -/
def State.barnDone (s : State) (o : BarnOp) (st : Status) : State :=
  let s := { s with barn := { s.barn with ops := s.barn.ops.filter fun x => x ≠ o } }
  let s := if o.host then ((s.setF (BARN_HSLOT_BUSY o.slot) 0).setF (BARN_HSLOT_STATUS o.slot) st.code).autopost s.barn.autoload
    else (s.setF (BN_SLOT_BUSY o.clu o.slot) 0).setF (BN_SLOT_STATUS o.clu o.slot) st.code
  let w := o.word 7
  if wbits w 14 1 = 1 && st ≠ .aborted then s.devCredit (s.opPart o) (wbits w 4 10) (wbits w 0 4) (wbits w 16 8) else s

/-- R481, R500, R501: a write of a post register. -/
def State.barnPost (s : State) (host : Bool) (c k : Nat) : State :=
  let busy := if host then s.on (BARN_HSLOT_BUSY k) else s.on (BN_SLOT_BUSY c k)
  if !host && s.partOf c = 0xFF then s
  else if busy then
    if host then (s.setF (BARN_HSLOT_WIGN k) 1).raise clsWarning 0x005 0xFF 8 0 k
    else (s.setF (BN_SLOT_WIGN c k) 1).raiseClu clsWarning 0x005 c k
  else
    let w := (List.range 8).map fun i => BitVec.ofNat 32 (s.f (if host then BARN_HDESC_WORD k i else BN_DESC_WORD c k i))
    let s := { s with barn := { s.barn with ops := s.barn.ops ++ [BarnOp.mk host c k w] } }
    if host then s.setF (BARN_HSLOT_BUSY k) 1 else s.setF (BN_SLOT_BUSY c k) 1

/-- The posted command of a slot, when it asks for operation `op`. -/
def State.posted (s : State) (host : Bool) (c k op : Nat) : Option BarnOp :=
  s.barn.ops.find? fun o => o.host = host && (host || o.clu = c) && o.slot = k && o.op = op

/-! ### Detaching (R497, R498) and mount (R496) -/

/-- R497: the commands of a partition detach, and its unfinished bales are abandoned. -/
def State.barnDetach (s : State) (p : Nat) : State :=
  let s := (s.barn.ops.filter fun o => !o.host && s.partOf o.clu = p).foldl (fun t o => t.barnDone o .aborted) s
  (s.barn.bales.filter fun b => b.owner = p && (b.state = 0 || b.state = 3)).foldl (fun t b => t.dropBale b.id) s

/-- R497: a device abort detaches the host slots too. -/
def State.barnDetachHost (s : State) : State :=
  (s.barn.ops.filter fun o => o.host).foldl (fun t o => t.barnDone o .aborted) s

/-- R419, R420: the barn account holds. -/
def State.barnHolds (s : State) : Bool :=
  let l := (s.part devPart).ledger
  match ledgerRead l lBarn, ledgerRead l (lBarn + 1), ledgerRead l (lBarn + 2), ledgerRead l (lBarn + 3), ledgerRead l (lBarn + 4) with
  | some t, some a, some b, some c, some d => t = a + b + c + d
  | _, _, _, _, _ => false

/-- R491: a failed check: an Alarm, and the barn is read-only. -/
def State.barnFail (s : State) : State :=
  (s.setF BARN_STAT_STATE 3).raise clsAlarm 0x081 0xFF 8 0 5

/-- A channel as a mount finds it: channel, map-out cause of R500 (0 in service), MODE, targets, rate, pages a block, bytes of a
page with its spare area. -/
abbrev ChanFound := Nat × Nat × Nat × Nat × Nat × Nat × Nat

/-- R474, R476, R492, R496, R500: the channels of a mount. A channel marked by R485 at the last start is mapped out; the rate is at
most that of its mode.  A page holds as many codewords as fit. -/
def State.setChans (s : State) (l : List ChanFound) : State :=
  let s := l.foldl (fun t x =>
    let ch := x.1 % 128
    let p := x.2.2.2.2.2.2 / 4608
    let cause := if x.2.1 ≠ 0 then x.2.1 else if s.barn.outNext.contains ch then 6 else if p < 2 then 3 else 0
    let t := ((((t.setF (BARN_CH_STATE ch) (if cause = 0 then 2 else 1)).setF (BARN_CH_CAUSE ch) cause).setF (BARN_CH_MODE ch)
      x.2.2.1).setF (BARN_CH_TARGETS ch) x.2.2.2.1).setF (BARN_CH_RATE_MTS ch) (min x.2.2.2.2.1 (if x.2.2.1 = 1 then 3600 else 1200))
    { t with barn := { t.barn with
      pages := t.barn.pages.set 0 ch x.2.2.2.2.2.1, cwords := t.barn.cwords.set 0 ch p,
      pbytes := t.barn.pbytes.set 0 ch x.2.2.2.2.2.2 } }) s
  let s := { s with barn := { s.barn with outNext := [] } }
  s.setF BARN_STAT_CH_OUT ((List.range 128).countP fun ch => s.f (BARN_CH_STATE ch) = 1)

/-- R494: the scrub period for a temperature, in 2^-16 ns. -/
def scrubPeriod (temp : Nat) : Nat :=
  (if temp < 40 then 30 * 86400 else if temp < 55 then 7 * 86400 else if temp < 70 then 86400 else 6 * 3600)
    * 1000000000 * nsU

/-- R295, R495: the time master's source is PTP or PPS. -/
def State.trueTime (s : State) : Bool := s.f TIME_STAT_SRC = 2 || s.f TIME_STAT_SRC = 3

/-- R495: DTIME ends; block ages are kept as EPOCH + DTIME where that is known. -/
def State.keepAges (s : State) : State :=
  if s.barn.ages ≠ 0 then s
  else if s.trueTime then
    let e : Int := ((s.epoch * nsU : Nat) : Int)
    let l := s.barn.blocks.map fun b => { b with scrubAt := b.scrubAt + e }
    { s with barn := { s.barn with blocks := l, ages := 1 } }
  else { s with barn := { s.barn with ages := 2 } }

/-- R495: block ages at a mount after a cold start: those kept, where EPOCH is known again; else every allocated block is due within
24 h. -/
def State.mountAges (s : State) : State :=
  let e : Int := ((s.epoch * nsU : Nat) : Int)
  let day : Int := ((s.dtime + 86400 * 1000000000 * nsU : Nat) : Int)
  let g (b : Block) : Block :=
    if s.trueTime && s.barn.ages = 0 then b
    else if s.trueTime && s.barn.ages = 1 then { b with scrubAt := b.scrubAt - e }
    else { b with scrubAt := day - (scrubPeriod b.hot : Int) }
  { s with barn := { s.barn with blocks := s.barn.blocks.map g, ages := 0 } }

/-- R480, R489, R491, R496 steps 3 and 4. Blank medium waits for its format. -/
def State.barnMount (s : State) (l : List ChanFound) : State :=
  let s := (s.setChans l).mountAges
  if !s.barn.formatted then s.setF BARN_STAT_STATE 1
  else
    let s := (s.barn.bales.filter fun b => b.state = 0 || b.state = 3).foldl (fun t b => t.dropBale b.id) s
    let s := s.setBales (s.barn.bales.map fun b => { b with state := if s.unreadable b then 2 else 1 })
    let s := (s.setF BARN_STAT_STATE 2).barnCount
    if s.barnHolds then s else s.barnFail

end Sys2Proof.Machine
end

