-- ==== Sys2Proof/Machine/Barn.lean ====
section
/-!
DEFINITION. The barn's commands and events: LOAD, STORE, CREATE, SEAL, DELETE, INFO (R482–R487), what NAND targets report
(R477, R485, R492), background work (R489, R490, R493, R494), rebuild (R491) and the first format (R496).
-/

namespace Sys2Proof.Machine

/-- R477: an uncorrectable codeword is counted and reported; its channel is the unit, its place in the bale the offset. -/
def State.codewordUe (s : State) (ch u : Nat) : State :=
  (s.bump BARN_ECC_UE 1).raise clsError 0x020 0xFF 8 ch (u * 4096 / 65536)

/-- R482: find the posted command of a slot, stop it where R483 says so, and else run it. -/
def State.barnRun (s : State) (host : Bool) (c k op : Nat) (run : BarnOp → State) : Out :=
  match s.posted host c k op with
  | none => .next s
  | some o =>
    match s.barnStatus o with
    | some st => .next (s.barnDone o st)
    | none => .next (run o)

/-- R482, R484, R485: LOAD of units BOFS to BOFS + LEN − 1. Units that cannot be read are written as 0, and the LOAD then
completes with ECC; VERIFY compares the digest of the bytes read. -/
def State.barnLoad (s : State) (o : BarnOp) (b : Bale) (bad : List (Nat × Bool)) (retries : Nat) : State :=
  let us := (List.range o.len).map (o.bofs + ·)
  let hit := bad.filter fun x => us.contains x.1 && s.chOk (b.pageChan (x.1 / s.baleP b))
  let s := s.bump BARN_ECC_RETRIES retries
  let s := hit.foldl (fun t x => t.codewordUe (b.pageChan (x.1 / s.baleP b)) x.1) s
  let lost := us.filter (s.unitLost b bad)
  let rd (u : Nat) : List Byte := if lost.contains u then List.replicate 4096 0 else b.unit u
  let s := us.foldl (fun t u => (t.storeDev (devAddr 0 (o.haddr + (u - o.bofs) * 4096)) (rd u)).1) s
  let differs := o.verify && shake8 (us.flatMap rd) ≠ b.digest
  let s := if differs then s.raise clsError 0x020 0xFF 8 (b.chans.headD 0) 0 else s
  s.barnDone o (if !lost.isEmpty || differs then .ecc else .ok)

/-- LOAD (R482): `bad` lists the units whose codeword no decode gave, each with whether the parity codeword of its row and
group failed too; `retries` counts the reads repeated. -/
def execLoad (host : Bool) (c : Fin 32) (k : Fin 8) (bad : List (Nat × Bool)) (retries : Nat) (s : State) : Out :=
  s.barnRun host c.val k.val 1 fun o =>
    match s.findBale o.bale with
    | some b => s.barnLoad o b bad retries
    | none => s

/-- R492: a block becomes BAD, and the data it held is placed in another block. -/
def State.blockBad (s : State) (ch tgt blk : Nat) : State :=
  match s.findBlock ch tgt blk with
  | none => s
  | some b =>
    if b.term = 2 then ((s.moveData b 3).journal).barnCount
    else (((s.modBlock ch tgt blk fun x => { x with term := 3, bale := 0 }).journal).barnCount)

/-- R482, R485: STORE of LEN units at WPOS. A read of HBM that meets an uncorrectable error breaks the bale. -/
def State.barnStore (s : State) (o : BarnOp) (fails : List (Nat × Nat × Nat)) : State :=
  let r := s.readDev (devAddr 0 o.haddr) o.hlen
  let s := r.2.2
  let s := fails.foldl (fun t x => t.blockBad x.1 x.2.1 x.2.2) s
  let s := s.modBale o.bale fun b => { b with
    wpos := b.wpos + o.len, state := if r.2.1 then 3 else b.state,
    data := (r.1.zipIdx.foldl (fun m (x, i) => Store.set 0 m (o.bofs * 4096 + i) x) b.data) }
  (s.journal).barnDone o (if r.2.1 then .ecc else .ok)

/-- STORE (R482): `fails` lists the blocks whose program failed (R492). -/
def execStore (host : Bool) (c : Fin 32) (k : Fin 8) (fails : List (Nat × Nat × Nat)) (s : State) : Out :=
  s.barnRun host c.val k.val 2 fun o => s.barnStore o fails

/-- R482, R493: CREATE: the bale's blocks, and its entry as CREATING. -/
def State.barnCreate (s : State) (o : BarnOp) : State :=
  let owner := if o.host then wbits (o.word 0) 16 8 else s.opPart o
  let b : Bale := ⟨o.bale, o.len, owner, o.parity, 0, 0, [], s.serviceChans, [], []⟩
  let s := s.setBales (s.barn.bales ++ [b])
  let s := b.chans.foldl (fun t ch => t.takeBlocks ch b.id (s.blocksFor b ch)) s
  (((s.journal).barnCount).wear).barnDone o .ok

/-- CREATE (R482). -/
def execCreate (host : Bool) (c : Fin 32) (k : Fin 8) (s : State) : Out :=
  s.barnRun host c.val k.val 3 fun o => s.barnCreate o

/-- R482, R485: SEAL once the bale's STOREs are over: a BROKEN bale is abandoned, with STATE. -/
def State.barnSeal (s : State) (o : BarnOp) (b : Bale) : State :=
  if s.opsOn 2 b.id o then s
  else if b.state = 3 then (s.dropBale b.id).barnDone o .state
  else ((s.modBale b.id fun x => { x with state := 1, digest := shake8 b.bytes }).journal).barnDone o .ok

/-- SEAL (R482). -/
def execSeal (host : Bool) (c : Fin 32) (k : Fin 8) (s : State) : Out :=
  s.barnRun host c.val k.val 4 fun o =>
    match s.findBale o.bale with
    | some b => s.barnSeal o b
    | none => s

/-- DELETE (R482). -/
def execDelete (host : Bool) (c : Fin 32) (k : Fin 8) (s : State) : Out :=
  s.barnRun host c.val k.val 5 fun o => (s.dropBale o.bale).barnDone o .ok

/-- R482: the 64-byte catalogue entry, then zeros. -/
def Bale.entry (b : Bale) : List Byte :=
  let w (v : Nat) : List Byte := leBytes 4 v
  w b.id ++ w b.size ++ w (b.owner + (if b.parity then 256 else 0) + b.state * 512) ++ w b.wpos
    ++ List.replicate 16 0
    ++ ((List.range 8).flatMap fun i => w (if b.state = 1 ∨ b.state = 2 then (b.digest.getD i 0).toNat else 0))
    ++ List.replicate 4032 0

/-- INFO (R482). -/
def execInfoOp (host : Bool) (c : Fin 32) (k : Fin 8) (s : State) : Out :=
  s.barnRun host c.val k.val 6 fun o =>
    match s.findBale o.bale with
    | some b => ((s.storeDev (devAddr 0 o.haddr) b.entry).1).barnDone o .ok
    | none => s

/-- R485: a LOAD, STORE, SEAL or DELETE whose target on channel `ch` gives no ready status in 100 ms completes with TIMEOUT,
and the channel maps out at the next mount. -/
def State.nandTimeout (s : State) (host : Bool) (c k ch : Nat) : State :=
  match s.barn.ops.find? fun o => o.host = host && (host || o.clu = c) && o.slot = k with
  | none => s
  | some o =>
    if o.op = 1 ∨ o.op = 2 ∨ o.op = 4 ∨ o.op = 5 then
      { s with barn := { s.barn with outNext := s.barn.outNext ++ [ch] } }.barnDone o .timeout
    else s

/-- NAND_READY_TIMEOUT (R485). -/
def execNandReadyTimeout (host : Bool) (c : Fin 32) (k : Fin 8) (ch : Fin 128) (s : State) : Out :=
  .next (s.nandTimeout host c.val k.val ch.val)

/-- The barn does its background work: mounted, or read-only, and not in keep-warm (R495). -/
def State.barnWorks (s : State) : Bool := 2 ≤ s.f BARN_STAT_STATE && !s.on BARN_STAT_IDLE

/-- R494: a target on channel `ch` reports its temperature. -/
def State.targetHot (s : State) (ch tgt temp : Nat) : State :=
  s.setBlocks (s.barn.blocks.map fun x => if x.ch = ch ∧ x.tgt = tgt then { x with hot := max x.hot temp } else x)

/-- R492, R494: an allocated block is read in full: relocated where a codeword needed a retry or more than MARGIN corrected
bits, BAD where soft decoding was needed. -/
def State.scrub (s : State) (ch tgt blk temp : Nat) (soft reloc : Bool) : State :=
  match s.findBlock ch tgt blk with
  | none => s
  | some b =>
    if !s.barnWorks || b.term ≠ 2 then s
    else
      let s := (s.advanceTo (b.scrubAt + (scrubPeriod (max b.hot temp) : Int)).toNat).targetHot ch tgt temp
      let s := s.modBlock ch tgt blk fun x => { x with scrubAt := (s.dtime : Int), hot := temp }
      if soft then s.blockBad ch tgt blk
      else if reloc then ((((s.moveData b 4).bump BARN_SCRUB_RELOCS 1).journal).barnCount)
      else s

/-- BLOCK_SCRUB (R494). -/
def execBlockScrub (ch tgt blk temp : Nat) (soft reloc : Bool) (s : State) : Out :=
  .next (s.scrub ch tgt blk temp soft reloc)

/-- R490, R492: an erase of a PENDING block ends: FREE, or BAD where it failed. -/
def State.eraseEnd (s : State) (ch tgt blk : Nat) (ok : Bool) : State :=
  match s.findBlock ch tgt blk with
  | none => s
  | some b =>
    if !s.barnWorks || b.term ≠ 4 then s
    else
      let s := s.modBlock ch tgt blk fun x => { x with term := if ok then 1 else 3, erases := x.erases + 1 }
      ((s.journal).barnCount).wearTarget ch tgt

/-- BLOCK_ERASE (R490). -/
def execBlockErase (ch tgt blk : Nat) (ok : Bool) (s : State) : Out := .next (s.eraseEnd ch tgt blk ok)

/-- JOURNAL_CHECKPOINT (R489): every 65,536 records and every 10 s. -/
def execJournalCheckpoint (s : State) : Out :=
  .next (if s.f BARN_STAT_STATE < 2 then s
    else
      let s := if s.barn.records < 65536 then s.advanceTo (s.barn.checkAt + 10000000000 * nsU) else s
      { s with barn := { s.barn with checkAt := s.dtime, records := 0 } })

/-- R491: a write of `BARN_CTL.REBUILD`. -/
def State.rebuild (s : State) : State := if 2 ≤ s.f BARN_STAT_STATE then s.setF BARN_STAT_REBUILD 1 else s

/-- BARN_REBUILD (R491). -/
def execBarnRebuild (s : State) : Out := .next s.rebuild

/-- BARN_REBUILD_END (R491): every table is rebuilt from the medium; read-only ends where the account holds. -/
def execBarnRebuildEnd (s : State) : Out :=
  .next (if s.on BARN_STAT_REBUILD then
    let s := (s.setF BARN_STAT_REBUILD 0).barnCount
    if s.barnHolds then s.setF BARN_STAT_STATE 2 else s
  else s)

/-- NAND_OPERATION_COMPLETE (R477, R492): a target reports ready: `kind` 0 a read, with its retries, that decodes or not;
1 a program and 2 an erase, each with its success. -/
def execNandOperationComplete (kind : Fin 3) (ch tgt blk : Nat) (ok : Bool) (retries : Nat) (s : State) : Out :=
  .next (match kind.val with
    | 0 =>
      let s := s.bump BARN_ECC_RETRIES retries
      if ok then s else s.codewordUe ch 0
    | 1 => if ok then s else s.blockBad ch tgt blk
    | _ => s.eraseEnd ch tgt blk ok)

/-- R475: blocks of a target on channel `ch` that are used: 128 TB shared among the targets found. -/
def State.targetBlocks (s : State) (ch targets : Nat) : Nat :=
  128000000000000 / targets / (s.barn.pages.get 0 ch * s.barn.pbytes.get 0 ch)

/-- R475, R492, R496: blank medium is formatted: factory-marked blocks are BAD, the first two good blocks of each target hold its
bad-block table, the first good block of each corner die's lowest channel in service the journal. Blocks beyond the raw capacity are
not counted. -/
def State.format (s : State) (l : List (Nat × Nat × Nat × Bool)) : State :=
  let n := (l.map fun x => (x.1, x.2.1)).eraseDups.length
  let l := l.zipIdx.filter fun x =>
    ((l.take x.2).filter fun y => y.1 = x.1.1 && y.2.1 = x.1.2.1).length < s.targetBlocks x.1.1 n
      || s.barn.pages.get 0 x.1.1 * s.barn.pbytes.get 0 x.1.1 = 0
  let bs : List Block := l.map fun x => ⟨x.1.1, x.1.2.1, x.1.2.2.1, if x.1.2.2.2 then 3 else 1, 0, 0, (s.dtime : Int), 0⟩
  let s := s.setBlocks bs
  let s := s.targets.foldl (fun t x =>
    ((t.barn.blocks.filter fun b => b.ch = x.1 && b.tgt = x.2 && b.term = 1).take 2).foldl (fun u b =>
      u.modBlock b.ch b.tgt b.blk fun y => { y with term := 2 }) t) s
  let first := (List.range 4).filterMap fun d => (List.range 32).map (32 * d + ·) |>.find? s.chOk
  let s := first.foldl (fun t ch => t.takeBlocks ch 0 1) s
  ({ s with barn := { s.barn with formatted := true, checkAt := s.dtime } }.setF BARN_STAT_STATE 2).barnCount

/-- BLANK_MEDIUM_FORMAT_END (R496): `l` lists every block with its factory mark. -/
def execBlankMediumFormatEnd (l : List (Nat × Nat × Nat × Bool)) (s : State) : Out :=
  .next (if s.f BARN_STAT_STATE = 1 && !s.barn.formatted then s.format l else s)

end Sys2Proof.Machine
end

