-- ==== Sys2Proof/Machine/EthTx.lean ====
section
/-!
DEFINITION. What the Ethernet port sends: its transmit order (R439, R441) and the datagrams of a Caddy message (R450, R452).
-/

namespace Sys2Proof.Machine

/-! ### The transmit order (R441) -/

/-- R441: the priorities: PTP, Caddy, RoCEv2. Answers of R440 go with Caddy (log entry 81). Request-ring egress waits in its
rings. -/
def txPtp : Nat := 0
def txCaddy : Nat := 1
def txRoce : Nat := 2

/-- A frame or message enters the port's transmit queue, as numbers of what it carries; nothing leaves while the port is down
(R438). -/
def State.emit (s : State) (cls : Nat) (l : List Nat) : State :=
  if s.on ETH_STAT_UP then { s with eth := { s.eth with txq := s.eth.txq ++ [ (cls, l)] } } else s

/-- R438: a host's command or access that meets a port that is down completes with ABSENT, as its host sees it. -/
def State.hostAbsent (s : State) : State := { s with eth := { s.eth with sent := s.eth.sent ++ [ [ 0, Status.absent.code]] } }

/-- The oldest frame of a priority leaves the queue. -/
def takeClass (cls : Nat) : List (Nat × List Nat) → Option (List Nat × List (Nat × List Nat))
  | [] => none
  | x :: r => if x.1 = cls then some (x.2, r) else (takeClass cls r).map fun y => (y.1, x :: y.2)

/-- R439, R441: the frame that leaves next: PTP, then Caddy, then RoCEv2 in its turn (`may`) unless its priority is paused. -/
def Eth.next (e : Eth) (now : Nat) (may : Bool) : Option (List Nat × Eth) :=
  match takeClass txPtp e.txq with
  | some x => some (x.1, { e with txq := x.2 })
  | none =>
    match takeClass txCaddy e.txq with
    | some x => some (x.1, { e with txq := x.2 })
    | none =>
      if may && e.pauseEnd ≤ now then (takeClass txRoce e.txq).map fun x => (x.1, { e with txq := x.2, turn := false }) else none

/-- R444: a cluster's egress ring has a slot ready. -/
def State.egressReady (s : State) : Bool :=
  s.eth.egress.any fun r => s.f (TX_IDX_DONE r.clu) % 2 ^ r.log2n ≠ (s.clu r.clu).txReady % 2 ^ r.log2n

/-- R441: one frame of the queue leaves; RoCEv2 only in its turn. -/
def State.sendFrame (s : State) : State :=
  if !s.on ETH_STAT_UP then s
  else
    match s.eth.next s.dtime (s.eth.turn || !s.egressReady) with
    | none => s
    | some (l, e) => { s with eth := { e with sent := e.sent ++ [ l] } }

/-- R441: what leaves before a frame of request-ring egress: PTP, Caddy, and RoCEv2 once where it is its turn. -/
def State.sendBefore (s : State) : Nat → State
  | 0 => s
  | fuel + 1 =>
    match s.eth.next s.dtime s.eth.turn with
    | none => s
    | some (l, e) => State.sendBefore { s with eth := { e with sent := e.sent ++ [ l] } } fuel

/-! ### Caddy datagrams (R450, R452) -/

/-- The payload of a message cut into segments of 1,400 bytes, at least one. -/
def cutSegs (d : List Byte) : List (List Byte) := (List.range (max 1 ((d.length + 1399) / 1400))).map fun i => (d.drop (1400 * i)).take 1400

/-- R450: the header of segment `seg` of `n`. -/
def caddyHead (typ seg n session seq len : Nat) : List Byte :=
  ([ 1 + 256 * typ + 65536 * seg + 2 ^ 24 * n, session, seq % 2 ^ 32, seq / 2 ^ 32, len, 0, 0, 0]).flatMap (leBytes 4)

/-- R451: the bytes of a message that a signature after the first `m` payload bytes covers: headers, with SEG = 0, and payload. -/
def caddySigned (typ session seq : Nat) (d : List Byte) (m : Nat) : List Byte :=
  let c := cutSegs d
  (c.zipIdx.filter fun x => 1400 * x.2 ≤ m).flatMap fun x =>
    caddyHead typ 0 c.length session seq x.1.length ++ x.1.take (m - 1400 * x.2)

/-- "CADDY", the customisation string of R452. -/
def caddyStr : List Byte := [ 0x43, 0x41, 0x44, 0x44, 0x59]

/-- R452: the tag of a datagram from the device. -/
def Session.tag (x : Session) (d : List Byte) : List Byte := (List.range 32).map (Config.kmac256 (x.keys.take 32) caddyStr d)

/-- A Caddy session by its number. -/
def State.session (s : State) (id : Nat) : Option Session := s.eth.sessions.find? fun x => x.id = id

/-- R450, R452: a message to a session: its datagrams, each with its header and tag, under the device's next SEQ. A datagram stands
as its TYPE and its bytes. -/
def State.caddySend (s : State) (id typ : Nat) (d : List Byte) : State :=
  match s.session id with
  | none => s
  | some x =>
    let c := cutSegs d
    let s := { s with eth := { s.eth with sessions := s.eth.sessions.map fun y => if y.id = id then { y with out := y.out + 1 } else y } }
    c.zipIdx.foldl (fun t z =>
      let b := caddyHead typ z.2 c.length id x.out z.1.length ++ z.1
      t.emit txCaddy (typ :: (b ++ x.tag b).map BitVec.toNat)) s

/-- Numbers as 32-bit words. -/
def numBytes (l : List Nat) : List Byte := l.flatMap (leBytes 4)

end Sys2Proof.Machine
end

