-- ==== Sys2Proof/Machine/OctOps.lean ====
section
/-!
DEFINITION. Octoon operations: the packet of R461, routes in the torus (R462, R463), walls (R466), remote slots (R467,
R468), delivery at a module, and what an abort does to them (R469).
-/

namespace Sys2Proof.Machine

/-! ### Links -/

def State.olink (s : State) (l : Nat) : OLink := s.olinks.get OLink.reset l
def State.modLink (s : State) (l : Nat) (g : OLink → OLink) : State :=
  { s with olinks := s.olinks.set OLink.reset l (g (s.olink l)) }
def State.octQueue (s : State) (l : Nat) (p : OPkt) : State := { s with octIn := s.octIn ++ [(l, p)] }

/-- R21, R457: a link that has no lanes: of a corner die that is held in reset, or given no direction. -/
def State.linkOut (s : State) (l : Nat) : Bool := s.on (CDIE_ID_HELD (l / 4)) || s.f (OCT_LSTAT_DIR l) = 0

/-- R394, R403: a link has the width of code `w`. -/
def State.setWidth (s : State) (l w : Nat) : State :=
  let d : Fd := match l % 4 with
    | 0 => CDIE_LINKQ_W0 (l / 4) | 1 => CDIE_LINKQ_W1 (l / 4) | 2 => CDIE_LINKQ_W2 (l / 4) | _ => CDIE_LINKQ_W3 (l / 4)
  (s.setF d w).setF (OCT_LSTAT_WIDTH l) w

/-- R466: (module, partition) is a system peer of partition `p`. -/
def State.isPeer (s : State) (p m q : Nat) : Bool := s.boot.peers.contains (p, m, q)

/-! ### Blocks (R458–R460) -/

/-- R460: flits the receiver's buffer of a class holds. -/
def octCap (cls : Nat) : Nat :=
  match cls with
  | 0 | 1 => 16
  | 10 => 128
  | 11 => 64
  | _ => if cls % 2 = 0 then 2048 else 256

/-- The packets queued that may send a flit now: the oldest of each class that has a credit. -/
def OLink.heads (k : OLink) : List OWait → List Nat → List OWait
  | [], _ => []
  | w :: r, seen =>
    let c := w.pkt.cls
    if seen.contains c then k.heads r seen
    else if k.spent.get 0 c < octCap c then w :: k.heads r (c :: seen)
    else k.heads r (c :: seen)

/-- R460: the packet whose flit takes the next slot, as R250 grants it: VC0, the oldest escalated one, then by the weights `w`. -/
def OLink.choose (k : OLink) (w : Nat → Nat) : Option (OWait × OLink) :=
  let l := k.heads k.queue []
  match l.find? fun x => x.pkt.vc = 0 with
  | some x => some (x, k)
  | none =>
    match (l.filter OWait.esc).foldl (fun a x => match a with
        | none => some x
        | some y => if x.since < y.since then some x else some y) (none : Option OWait) with
    | some x => some (x, k)
    | none =>
      let k : OLink :=
        if l.any fun x => k.quota.get 0 x.pkt.vc ≠ 0 then k
        else { k with quota := ([ 1, 2, 3, 4, 5]).foldl (fun m v => m.set 0 v (max 1 (w v))) k.quota }
      (l.find? fun x => k.quota.get 0 x.pkt.vc ≠ 0).map fun x =>
        (x, { k with quota := k.quota.set 0 x.pkt.vc (k.quota.get 0 x.pkt.vc - 1) })

/-- The slots of one block: at most 39 flits, against credits. -/
def OLink.fill (w : Nat → Nat) (k : OLink) (b : OBlock) : Nat → OLink × OBlock
  | 0 => (k, b)
  | fuel + 1 =>
    match k.choose w with
    | none => (k, b)
    | some (x, k) =>
      let c := x.pkt.cls
      let k := { k with
        spent := k.spent.set 0 c (k.spent.get 0 c + 1),
        queue := k.queue.filterMap fun y => if y = x then (if x.left ≤ 1 then none else some { x with left := x.left - 1 }) else some y }
      OLink.fill w k { b with slots := b.slots ++ [ c], pkts := b.pkts ++ if x.left ≤ 1 then [ x.pkt] else [] } fuel

/-- R458–R460: the next block of link `l` leaves; it is kept until it is acknowledged, unless it is empty. With 512 blocks not
acknowledged it is empty and has no number. A flit that has waited 4 µs is escalated. -/
def State.octBlock (s : State) (l : Nat) : State :=
  let k := s.olink l
  if (k.txSeq + 65536 - k.ackSeq) % 65536 ≥ 512 then s
  else
    let k := { k with queue := k.queue.map fun (x : OWait) => { x with esc := x.esc || (x.pkt.vc ≠ 0 && x.since + 4000 * nsU < s.dtime) } }
    let seq := (k.txSeq + 1) % 65536
    let r := k.fill s.vcWeight ⟨seq, k.rxSeq, k.nack, (List.range 12).map (k.owe.get 0), [], []⟩ 39
    s.modLink l fun _ => { r.1 with
      txSeq := seq, sentAt := s.dtime, nack := false, owe := [],
      blocks := r.1.blocks ++ if r.2.slots.isEmpty then [] else [ r.2] }

/-- R458: what a block lasts at the width of a link, in 2^-16 ns. -/
def State.octPeriod (s : State) (l : Nat) : Nat :=
  let n := match s.f (OCT_LSTAT_WIDTH l) with | 3 => 1 | 2 => 2 | _ => 4
  128 * n * nsU / 10

/-- A link that is up sends its next block when the last one is over. -/
def State.octGo (s : State) (l : Nat) : State :=
  if s.on (OCT_LSTAT_UP l) && (s.olink l).sentAt + s.octPeriod l ≤ s.dtime then s.octBlock l else s

/-- R459: blocks up to `ack` are acknowledged. -/
def OLink.acked (k : OLink) (ack : Nat) : OLink :=
  let n := (ack + 65536 - k.ackSeq) % 65536
  if n ≤ (k.txSeq + 65536 - k.ackSeq) % 65536 then
    { k with ackSeq := ack % 65536, blocks := k.blocks.filter fun b => n < (b.seq + 65536 - k.ackSeq) % 65536 }
  else k

/-- R459: packets sent or queued on a link and not acknowledged. -/
def OLink.out (k : OLink) : List OPkt := k.blocks.flatMap OBlock.pkts ++ k.queue.map OWait.pkt

/-- R460: flits of a packet come into a buffer here, or leave it, which returns their credits. -/
def OLink.take (k : OLink) (p : OPkt) : OLink := { k with held := k.held.set 0 p.cls (k.held.get 0 p.cls + p.flits) }
def OLink.give (k : OLink) (p : OPkt) : OLink :=
  { k with held := k.held.set 0 p.cls (k.held.get 0 p.cls - p.flits), owe := k.owe.set 0 p.cls (k.owe.get 0 p.cls + p.flits) }

/-- R460: credits come back from the far end. -/
def OLink.returned (k : OLink) (c : List Nat) : OLink :=
  { k with spent := (List.range 12).foldl (fun m i => m.set 0 i (m.get 0 i - c.getD i 0)) k.spent }

/-! ### Routes (R462, R463) -/

def State.dim (s : State) (i : Nat) : Nat :=
  match i with
  | 0 => s.boot.system.1 | 1 => s.boot.system.2.1 | _ => s.boot.system.2.2
/-- R462: coordinate `i` of module `m`. -/
def State.coord (s : State) (m i : Nat) : Nat :=
  match i with
  | 0 => m % s.dim 0
  | 1 => m / s.dim 0 % s.dim 1
  | _ => m / (s.dim 0 * s.dim 1)

/-- R463: the dimension in which a packet for `d` moves next from module `m`, the way, and whether that hop crosses
between coordinates D − 1 and 0. -/
def State.wayTo (s : State) (m d : Nat) : Option (Nat × Bool × Bool) :=
  match (List.range 3).find? fun i => s.coord m i ≠ s.coord d i with
  | none => none
  | some i =>
    let n := s.dim i
    let a := s.coord m i
    let plus := (s.coord d i + n - a) % n
    let up := plus ≤ n - plus
    some (i, up, if up then a = n - 1 else a = 0)

/-- The dimension of a link's direction, 3 for a shortcut or none (R472). -/
def dirDim (d : Nat) : Nat := match d with | 1 | 2 => 0 | 3 | 4 => 1 | 5 | 6 => 2 | _ => 3

/-- R463: a packet that no route takes further: 48 hops done, or bound beyond the system. -/
def State.octBeyond (s : State) (p : OPkt) : Bool := 48 ≤ p.hops || s.dim 0 * s.dim 1 * s.dim 2 ≤ p.dmod

/-- R463: the link a packet takes and its dateline class there; none where the link it needs is unavailable. `l` is the link it
came by. -/
def State.octRoute (s : State) (l : Nat) (p : OPkt) : Option (Nat × Bool) :=
  match (List.range 16).find? fun x => s.f (OCT_LSTAT_DIR x) = 7 && s.boot.far.get 0 x = p.dmod with
  | some x => if (s.olink x).unavail then none else some (x, false)
  | none =>
    match s.wayTo (s.f OCT_SYS_MODULE) p.dmod with
    | none => none
    | some (i, up, cross) =>
      let code := 2 * i + (if up then 1 else 2)
      let c := (List.range 16).filter fun x => s.f (OCT_LSTAT_DIR x) = code
      if c = [] then none
      else
        let x := c.getD (Config.linkHash p.smod p.dmod p.txid % c.length) 0
        let same := l < 16 && dirDim (s.f (OCT_LSTAT_DIR l)) = i
        if (s.olink x).unavail then none else some (x, cross || (same && p.dcls))

/-! ### Remote slots (R467, R468) -/

/-- A posted remote descriptor. -/
structure ODesc where
  op : Nat
  dpart : Nat
  dmod : Nat
  loc : Nat
  rem : Nat
  gid : Nat
  len : Nat
  w6 : Word
  w7 : Word
  ok : Bool
deriving DecidableEq, Repr

/-- R467: the descriptor of slot `k`. -/
def State.oxDesc (s : State) (c k : Nat) : ODesc :=
  let w (i : Nat) : Word := BitVec.ofNat 32 (s.f (OX_DESC_WORD c k i))
  let op := wbits (w 0) 0 8
  let len := wbits (w 5) 0 25
  let compl (x : Word) : Bool := wbits x 24 8 = 0 && wbits x 15 1 = 0 && (wbits x 14 1 = 0 || wbits x 16 8 ≠ 0)
  let form := wbits (w 0) 28 4 = 0 && wbits (w 2) 20 12 = 0 && wbits (w 5) 25 7 = 0 && compl (w 6) &&
    (match op with
      | 1 => wbits (w 4) 20 12 = 0 && 1 ≤ len && len ≤ 16777216 && compl (w 7)
      | 2 => wbits (w 4) 20 12 = 0 && 1 ≤ len && len ≤ 16777216 && w 7 = 0
      | 3 => w 3 = 0 && wbits (w 4) 0 20 = 0 && wbits (w 4) 28 4 = 0 && len % 8 = 0 && 8 ≤ len && len ≤ 4096
          && wbits (w 7) 12 4 = 0 && wbits (w 7) 16 16 ≠ 0
      | 4 => w 1 = 0 && w 2 = 0 && w 3 = 0 && w 4 = 0 && len = 0 && compl (w 7)
      | _ => false)
  ⟨op, wbits (w 0) 8 8, wbits (w 0) 16 12, devAddr (wbits (w 2) 16 4) ((w 1).toNat + 2 ^ 32 * wbits (w 2) 0 16),
    devAddr (wbits (w 4) 16 4) ((w 3).toNat + 2 ^ 32 * wbits (w 4) 0 16), wbits (w 4) 20 8, len, w 6, w 7, form⟩

def State.remote (s : State) (c k : Nat) : Option Remote := s.remotes.get none (16 * c + k)
def State.setRemote (s : State) (c k : Nat) (r : Option Remote) : State :=
  { s with remotes := s.remotes.set none (16 * c + k) r }

/-- R467: a write of `OX_POST`. -/
def State.oxPost (s : State) (c k : Nat) : State :=
  if s.on (OX_SLOT_BUSY c k) then (s.setF (OX_SLOT_WIGN c k) 1).raiseClu clsWarning 0x005 c k
  else s.setF (OX_SLOT_BUSY c k) 1

/-- R468: a slot completes: its status, and the local credit unless ABORTED. -/
def State.oxDone (s : State) (c k : Nat) (st : Status) : State :=
  let d := s.oxDesc c k
  let s := ((s.setRemote c k none).setF (OX_SLOT_BUSY c k) 0).setF (OX_SLOT_STATUS c k) st.code
  if wbits d.w6 14 1 = 1 && st ≠ .aborted then
    s.devCredit (s.partOf c) (wbits d.w6 4 10) (wbits d.w6 0 4) (wbits d.w6 16 8) else s

/-- Packets of up to 4,096 bytes: offset and length of each (R461). -/
def octCuts (len : Nat) : List (Nat × Nat) := (List.range ((len + 4095) / 4096)).map fun i => (4096 * i, min 4096 (len - 4096 * i))

/-- The remote credit in a packet's header (R461, R467). -/
def OPkt.withCredit (p : OPkt) (w : Word) : OPkt :=
  if wbits w 14 1 = 1 then ((p.set 5 16 15 (wbits w 0 15)).set 6 0 8 (wbits w 16 8)) else p

/-- R31: an access to class 0xF is one aligned word. -/
def csrRunOk (a len : Nat) : Bool := a < clsBase 15 || (len = 4 && a % 4 = 0)

/-- The corner die of link `l` as a unit of the mesh; die 0 for what comes by no link. -/
def octDie (l : Nat) : Nat := 1056 + if l < 16 then l / 4 else 0

/-- R31: a corner die reads or writes a register for packet `p` through the mesh (R247); the packet waits for the answer. -/
def State.octMgmt (s : State) (l : Nat) (p : OPkt) (part a : Nat) (d : List Byte) : State :=
  let id := (s.octWait.map Prod.fst).foldl max 0 + 1
  { s.send { pkt0 tMgmt part (octDie l) (s.epOf a) with addr := a, len := 4, txid := id, data := d } with
    octWait := s.octWait ++ [ (id, p)] }

/-- The answer to a corner die: its packet goes on with the status and the bytes read. -/
def State.octMgmtEnd (s : State) (q : Pkt) : State :=
  match s.octWait.find? fun e => e.1 = q.txid with
  | none => s.absorbPkt q
  | some e =>
    { s with octWait := s.octWait.filter (fun x => x.1 ≠ q.txid),
             octIn := s.octIn ++ [ (18, { e.2.set 3 28 4 q.status.code with data := q.data })] }

/-- R467, R468: the status that stops a posted operation before it leaves, if one does. -/
def State.oxStatus (s : State) (c : Nat) (d : ODesc) : Option Status :=
  if !d.ok then some .range
  else if d.op = 4 then none
  else if !csrRunOk d.loc d.len then some .range
  else if s.runStatus d.loc d.len = .range ∨ !s.inPart (s.partOf c) d.loc d.len then some .range
  else if s.runStatus d.loc d.len ≠ .ok then some (s.runStatus d.loc d.len)
  else none

/-- R468: the packets of a posted operation enter the corner die. A read of local bytes that meets an uncorrectable error
is reported with ECC. The credits that leave count as SENT. -/
def State.oxSend (s : State) (c k op : Nat) : State :=
  let d := s.oxDesc c k
  if !s.on (OX_SLOT_BUSY c k) || (s.remote c k).isSome || d.op ≠ op || s.partOf c = 0xFF then s
  else
    match s.oxStatus c d with
    | some st => s.oxDone c k st
    | none =>
      let p := s.partOf c
      let m := s.f OCT_SYS_MODULE
      let id := 16 * c + k
      let mk (typ addr len : Nat) (b : List Byte) : OPkt := octPkt typ d.dmod d.dpart m p addr len id b
      let r : List Byte × Bool × State :=
        if op = 1 ∨ op = 3 then
          match target d.loc with
          | .csr off => let x := s.csrRead off; (leBytes 4 x.1.toNat, false, x.2)
          | _ => s.readDev d.loc d.len
        else ([], false, s)
      let s := r.2.2
      let cuts := octCuts d.len
      let ps : List OPkt :=
        match op with
        | 1 => cuts.map fun x =>
          let q := mk tWrite (d.rem + x.1) x.2 ((r.1.drop x.1).take x.2)
          if x.1 + x.2 = d.len then q.withCredit d.w7 else q
        | 2 => cuts.map fun x => mk tRead (d.rem + x.1) x.2 []
        | 3 => [ (((mk tSheaf 0 d.len r.1).set 3 20 8 d.gid).set 4 16 16 (wbits d.w7 16 16)).set 5 0 12 (wbits d.w7 0 12)]
        | _ => [ (mk 0 0 0 []).withCredit d.w7]
      let s := s.setRemote c k (some ⟨ps.length, s.copyU c, if r.2.1 then [.ecc] else []⟩)
      let s := if (op = 1 ∨ op = 4) ∧ wbits d.w7 14 1 = 1 then s.ledgerAdd p lSent (wbits d.w7 16 8) else s
      ps.foldl (fun t q => t.octQueue 16 q) s

/-- R134: the status a number names. -/
def statusOf (n : Nat) : Status :=
  match n with
  | 0 => .ok | 1 => .absent | 2 => .state | 3 => .ecc | 4 => .aborted | 5 => .late | 6 => .timeout | 7 => .range | _ => .sat

/-- R468: a response reaches its slot; one whose bytes must wait for the IMEM of a running core, or for a register, comes back
when they are written. The credits of a PUT or CREDIT that a remote wall refused count as REFUSED; those it
took are no longer this partition's (log entry 30). -/
def State.oxResponse (s : State) (q : OPkt) : State :=
  let c := q.txid / 16
  let k := q.txid % 16
  match s.remote c k with
  | none => s
  | some r =>
    let d := s.oxDesc c k
    let st := statusOf q.status
    let a := d.loc + (q.dev - d.rem)
    let csr := match target a with | .csr _ => true | _ => false
    let w : State × List Status × Nat :=
      if q.data.isEmpty ∨ d.op ≠ 2 ∨ st ≠ .ok then (s, [], 0)
      else if csr then (s.octMgmt 16 q (s.partOf c) a q.data, [], 1)
      else s.writeDev (.octoon 18 q) a q.data
    let s := w.1
    let s := if q.cen then s.ledgerAdd (s.partOf c) (if st = .ok then lTaken else lRefused) q.camt else s
    let sts := r.sts ++ (if st = .ok then [] else [st]) ++ w.2.1
    if w.2.2 ≠ 0 then s
    else if r.open_ ≤ 1 then s.oxDone c k (pickStatus sts) else s.setRemote c k (some { r with open_ := r.open_ - 1, sts := sts })

/-! ### Delivery -/

/-- The field of a corner die (R19, R241). -/
def cornerField (p : Nat) : Nat := match p with | 0 => 0 | 1 => 3 | 2 => 15 | _ => 12

/-- R459, R463, R469: a packet is absorbed at the corner die of link `l`; a sheaf contribution for a sheaf here counts for the ledger. -/
def State.octAbsorb (s : State) (l : Nat) (p : OPkt) : State :=
  let s := s.bump (MESH_ABSORB_PACKETS (cornerField (l / 4))) 1
  if p.typ = tSheaf ∧ p.dmod = s.f OCT_SYS_MODULE then (s.ledgerAdd p.dpart lInjected p.ccount).ledgerAdd p.dpart lAbsorbed p.ccount
  else s

/-- An answer goes back to the sender: to its slot here, or out by the corner die (link number 17: no wall is checked). -/
def State.octAnswer (s : State) (p : OPkt) (st : Nat) (d : List Byte) : State :=
  let a := (p.answer p.rsp st d)
  let a := if p.cen then (a.set 5 16 15 (p.fld 5 16 15)).set 6 0 8 p.camt else a
  if p.smod = s.f OCT_SYS_MODULE then s.oxResponse a else s.octQueue 17 a

/-- R467, R468: a credit from another module enters the partition. -/
def State.octCredit (s : State) (p : OPkt) : State :=
  if p.cen then s.devCredit p.dpart p.ccore p.cn p.camt else s

/-- R265, R468: grains of a SHEAF packet, 64 bits each. -/
def grainsOf (d : List Byte) : List Int :=
  (List.range (d.length / 8)).map fun i => sxNat 64 (leVal ((d.drop (8 * i)).take 8))

/-- R468: the grains of a remote contribution as mesh packets of one segment each, to the sheaf's root. -/
def State.octSheaf (s : State) (l : Nat) (p : OPkt) : State :=
  let root := (s.part p.dpart).sheafAt.get 0 p.gid
  match (if root = 0 then none else s.sheaf (root - 1) p.gid) with
  | none => s.octAbsorb l p
  | some x =>
    let c := root - 1
    let d := s.shDesc c p.gid
    let void := p.fld 5 14 1 = 1 || p.len ≠ d.len || wsigned (p.word 5) 0 8 ≠ d.scale
    let g := grainsOf p.data
    let n := shSegs d.len
    (List.range n).foldl (fun t i =>
      (t.ledgerAdd p.dpart lInjected p.ccount).send { pkt0 tSheaf p.dpart (octDie l) (sheafEp c) with
        txid := x.gen, gid := p.gid, seg := i, ccount := p.ccount, scale := d.scale, sop := d.op,
        flags := Flags.ofBits p.flags, void := void, lastp := i + 1 = n,
        grains := if void then [] else (g.drop (64 * i)).take 64 }) s

/-- R468: the bytes of a PUT have been written, or discarded with STATE: the credit after them, and the answer. -/
def State.octWritten (s : State) (p : OPkt) (st : Nat) : State :=
  (if st = 0 ∨ st = 3 then s.octCredit p else s).octAnswer p st []

/-- A packet whose access through the mesh, or whose held writes, are answered goes on (link number 18). -/
def State.octResume (s : State) (p : OPkt) : State :=
  if p.isRsp then s.oxResponse p
  else if p.typ = tRead then s.octAnswer p p.status p.data
  else s.octWritten p p.status

/-- R463, R466, R468, R469: a packet for this module: the wall, the partition's state, then its effect. -/
def State.octDeliver (s : State) (l : Nat) (p : OPkt) : State :=
  if !s.isPeer p.dpart p.smod p.spart then
    let s := s.raise clsWarning 0x002 p.dpart 10 l 0
    if p.isRsp then s else s.octAnswer p 7 []
  else if p.isRsp then s.oxResponse p
  else if (s.part p.dpart).resetting ∨ s.on (PART_STAT_ABORT (partCsr p.dpart)) then (s.octAbsorb l p).octAnswer p 2 []
  else
    let st := if !csrRunOk p.dev p.len || !s.inPart p.dpart p.dev p.len then Status.range else s.runStatus p.dev p.len
    let csr := match target p.dev with | .csr _ => true | _ => false
    match p.typ with
    | 0 => (s.octCredit p).octAnswer p 0 []
    | 1 =>
      if st ≠ .ok then s.octAnswer p st.code []
      else if csr then s.octMgmt l p p.dpart p.dev []
      else
        let r := s.readDev p.dev p.len
        r.2.2.octAnswer p (if r.2.1 then 3 else 0) r.1
    | 2 =>
      if st ≠ .ok then s.octAnswer p st.code []
      else if csr then s.octMgmt l p p.dpart p.dev p.data
      else
        let r := s.writeDev (.octoon 18 p) p.dev p.data
        if r.2.2 ≠ 0 then r.1 else r.1.octWritten p (pickStatus r.2.1).code
    | 7 => (s.octSheaf l p).octAnswer p 0 []
    | _ => s.octAnswer p 7 []

/-- R463, R464: a packet for another module leaves by its link, or is absorbed; a request absorbed for want of its link is
answered with ABSENT (R459). -/
def State.octForward (s : State) (l : Nat) (p : OPkt) : State :=
  if s.octBeyond p then s.octAbsorb l p
  else
    match s.octRoute l p with
    | none =>
      let s := s.octAbsorb l p
      if p.isRsp then s else s.octAnswer p 1 []
    | some (x, dl) =>
      let q := (p.set 0 7 1 (bool1 dl)).set 6 8 8 (p.hops + 1)
      s.modLink x fun k => { k with queue := k.queue ++ [ ⟨q, q.flits, s.dtime, false⟩] }

/-- R254: packet `i` at a corner die is not behind another of its VC class that came by the same link, or from the same source. -/
def octMay (l : List (Nat × OPkt)) (i : Nat) : Bool :=
  match l[i]? with
  | none => false
  | some x => !(l.take i).any fun e =>
      e.1 = x.1 && e.2.cls = x.2.cls && (x.1 < 16 || (e.2.smod = x.2.smod && e.2.dmod = x.2.dmod && e.2.txid = x.2.txid))

/-- R463, R466: a packet at a corner die, that came by link `l`, or from the mesh (16). -/
def State.octRouteIn (s : State) (l : Nat) (p : OPkt) : State :=
  if l = 18 then s.octResume p
  else if l = 16 ∧ !s.isPeer p.spart p.dmod p.dpart then
    (s.raise clsWarning 0x002 p.spart 10 0 0).octAnswer p 7 []
  else if p.dmod = s.f OCT_SYS_MODULE then s.octDeliver l p
  else s.octForward l p

/-! ### Aborts (R469) -/

/-- R469: a partition's BUSY slots complete with ABORTED. -/
def State.oxAbort (s : State) (p : Nat) : State :=
  (List.range 32).foldl (fun t c =>
    if t.partOf c = p then
      (List.range 16).foldl (fun u k => if u.on (OX_SLOT_BUSY c k) then u.oxDone c k .aborted else u) t
    else t) s

end Sys2Proof.Machine
end

