-- ==== Sys2Proof/Machine/Octoon.lean ====
section
/-!
DEFINITION. Octoon's commands and events: blocks and retraining (R459), routing at a corner die (R463, R464, R466) and
remote operations (R467, R468).
-/

namespace Sys2Proof.Machine

/-- R459: the link goes down and retrains. -/
def State.retrain (s : State) (l : Nat) : State :=
  ((s.setF (OCT_LSTAT_RETRAIN l) 1).setF (OCT_LSTAT_UP l) 0).modLink l fun x => { x with fails := 0 }

/-- OCTOON_BLOCK_RECEIVE (R458–R460): a block arrives on link `l`: whether FEC and CRC pass, its SEQ and ACK, whether it NACKs,
the credits it returns for the 12 classes, and the packets whose last flit it brings. A block that fails is NACKed, and after
64 failures in a row the link retrains; one out of order is dropped. A NACK has the sender replay what is not acknowledged. -/
def execOctoonBlockReceive (l : Fin 16) (good : Bool) (seq ack : Nat) (nack : Bool) (credits : List Nat)
    (ps : List (List Word × List Byte)) (s : State) : Out :=
  .next (let i := l.val
    if !s.on (OCT_LSTAT_UP i) then s
    else if !good then
      let s := s.modLink i fun x => { x with fails := x.fails + 1, nack := true }
      if 64 ≤ (s.olink i).fails then (s.retrain i).raise clsError 0x030 0xFF 10 i 0 else s
    else
      let s := s.modLink i fun x => { x.acked ack with fails := 0 }
      let s := if nack then s.bump (OCT_LSTAT_REPLAYS i) (((s.olink i).txSeq + 65536 - (s.olink i).ackSeq) % 65536) else s
      if seq % 65536 ≠ ((s.olink i).rxSeq + 1) % 65536 then s
      else
        let s := s.modLink i fun x => { x.returned credits with rxSeq := seq % 65536 }
        ps.foldl (fun t p => (t.modLink i fun x => x.take ⟨p.1, p.2⟩).octQueue i ⟨p.1, p.2⟩) s)

/-- LINK_RETRAIN_END (R394, R459): the retrain ends at a width of R403's code, 0 for a link that cannot retrain. -/
def execLinkRetrainEnd (l : Fin 16) (width : Fin 4) (s : State) : Out :=
  .next (let i := l.val
    if !s.on (OCT_LSTAT_RETRAIN i) then s
    else
      let s := (s.setF (OCT_LSTAT_RETRAIN i) 0).setWidth i width.val
      if width.val = 0 then s.modLink i fun x => { x with unavail := true, downAt := s.dtime }
      else (s.setF (OCT_LSTAT_UP i) 1).modLink i fun x => { x with unavail := false, fails := 0, sentAt := s.dtime })

/-- LINK_UNAVAILABLE_ABSORB (R459): 1 ms after the link became unavailable the packets queued for it are absorbed, and the
requests among them answered with ABSENT. -/
def execLinkUnavailableAbsorb (l : Fin 16) (s : State) : Out :=
  .next (let k := s.olink l.val
    if !k.unavail then s
    else
      let s := (s.advanceTo (k.downAt + 1000000 * nsU)).modLink l.val fun x => { x with queue := [], blocks := [] }
      k.out.foldl (fun t p =>
        let t := t.octAbsorb l.val p
        if p.isRsp then t else t.octAnswer p 1 []) s)

/-- OCTOON_PACKET_ROUTE (R254, R463, R464, R466): packet `i` at a corner die is checked, delivered, forwarded or absorbed. -/
def execOctoonPacketRoute (i : Nat) (s : State) : Out :=
  .next (match s.octIn[i]? with
    | none => s
    | some (l, p) =>
      if !octMay s.octIn i then s
      else
        let s := { s with octIn := s.octIn.eraseIdx i }
        (if l < 16 then s.modLink l fun k => k.give p else s).octRouteIn l p)

/-- REMOTE_PUT (R468). -/
def execRemotePut (c : Fin 32) (k : Fin 16) (s : State) : Out := .next (s.oxSend c.val k.val 1)
/-- REMOTE_GET (R468). -/
def execRemoteGet (c : Fin 32) (k : Fin 16) (s : State) : Out := .next (s.oxSend c.val k.val 2)
/-- REMOTE_SHEAF (R468). -/
def execRemoteSheaf (c : Fin 32) (k : Fin 16) (s : State) : Out := .next (s.oxSend c.val k.val 3)
/-- REMOTE_CREDIT (R468). -/
def execRemoteCredit (c : Fin 32) (k : Fin 16) (s : State) : Out := .next (s.oxSend c.val k.val 4)

/-- REMOTE_SLOT_TIMEOUT (R178, R468): no response within REMOTE_US of core 32c. -/
def execRemoteSlotTimeout (c : Fin 32) (k : Fin 16) (s : State) : Out :=
  .next (match s.remote c.val k.val with
    | none => s
    | some r =>
      let t := r.since + s.f (EQ_TMO_REMOTE_US (32 * c.val)) * 1000 * nsU
      (s.advanceCopy c.val t).oxDone c.val k.val .timeout)

end Sys2Proof.Machine
end

