-- ==== Sys2Proof/Machine/Abort.lean ====
section
/-!
DEFINITION. Aborts (R423–R426, with R100, R121, R188, R207, R215, R330, R444, R469, R497) and the audits of the ledger
(R419–R422).
-/

namespace Sys2Proof.Machine

/-- The clusters of a partition, ascending. -/
def State.partClus (s : State) (p : Nat) : List Nat := if p = 0xFF then [] else (List.range 32).filter fun c => s.partOf c = p
/-- Its control cores. -/
def State.partHarts (s : State) (p : Nat) : List Nat := (s.partClus p).flatMap cluHarts
/-- The partitions that the plan holds. -/
def State.heldParts (s : State) : List Nat := (List.range 32).filter fun p => (s.part p).held

/-! ### Step 2 of R424 -/

/-- R100, R121, R188, R213, R229: what the abort of an issued command leaves. Regions a pass had begun to write, and tiles
that were being written, hold unspecified contents; a pass whose first slot waits has begun none. A mover stops where it
stands, and a GET keeps what has landed. -/
def State.abortWrites (s : State) (h : Nat) (k : Cmd) : State :=
  if k.phase = .waiting then s
  else if isSeqHart h || 2 ≤ k.q then (if k.phase = .issued then s.cutMove h k else s)
  else if k.q = 1 then (if k.phase = .issued then (k.writes h).foldl (fun t u => t.freeTile h u) s else s)
  else if k.phase = .issued && !s.slotsIn h then s
  else if isPlus k.op then (if k.phase = .issued then s.freeRows h k.mq.tout k.mq.m ((fmtOf k.mq.afmt).getD .int8) else s)
  else (k.writes h).foldl (fun t u => t.freeRegion h (u - 64)) s

/-- R100: regions that an aborted pass names are no longer open. -/
def State.abortOpen (s : State) (h : Nat) (k : Cmd) : State :=
  if !isSeqHart h && k.q = 0 && !isPlus k.op then
    ((k.writes h).filter (64 ≤ ·)).foldl (fun t u => t.setF (GSTAT_OPEN h (u - 64)) 0) s
  else s

/-- R120, R188: one held command completes with ABORTED; a stream's entries count as cancelled (R213). -/
def State.abortCmd (s : State) (h : Nat) (k : Cmd) : State :=
  let s := ((s.abortWrites h k).abortOpen h k).zeroReserved h k
  let s := if k.phase = .ran then s else s.dropEntries h k
  (s.modCmd h k.id fun x => { x with phase := .ran, sts := x.sts ++ [Status.aborted] }).complete h k.id

/-- R207: a pointer rolls back. -/
def State.abortPtr (s : State) (h m a : Nat) : State :=
  let open_ := s.on (AP_STAT_OPEN h m a)
  let c := s.f (AP_COMMIT_COMMITTED h m a)
  let p := s.f (AP_PEND_PENDING h m a)
  let s := if c < p then s.freeMem (s.apBase h m a + c) (p - c) else s
  let s := if open_ then s.bump (AP_STAT_ROLLBACKS h m a) 1 else s
  ((s.setF (AP_PEND_PENDING h m a) c).setF (AP_STAT_OPEN h m a) 0).setF (AP_STAT_BROKEN h m a) 0

/-- R100: regions still open hold unspecified contents and are closed; the array holds no weight set. -/
def State.abortArray (s : State) (h : Nat) : State :=
  let s := (List.range 16).foldl (fun t g =>
    if t.on (GSTAT_OPEN h g) then (t.freeRegion h g).setF (GSTAT_OPEN h g) 0 else t) s
  s.modHart h fun x => { x with active := none, standby := none }

/-- R100, R121, R188, R207, R424: an abort reaches a logical core. -/
def State.abortCore (s : State) (n : Nat) : State :=
  if s.absent n then s
  else
    let s := (((s.wdogStop n).setF (CC_STAT_STATE n) 0).setF (CC_STAT_HCODE n) 0xFF).modHart n fun x => { x with stall := none }
    let s := (s.gleanCut n).landHeld n
    let s := ((s.hart n).cmds).foldl (fun t k => t.abortCmd n k) s
    let s := s.modHart n fun x => { x with aq := [], txn := [] }
    let s := s.abortArray n
    (List.range 2).foldl (fun t m => (List.range 16).foldl (fun u a => u.abortPtr n m a) t) s

/-- R426: an abort leaves a group set up: one that an aborted GCLR waits to clear takes MCAST again. -/
def State.unclear (s : State) (c : Nat) (k : Cmd) : State :=
  if k.q = 10 && k.op = 2 && k.phase = .issued then
    s.modPart (s.partOf c) fun x =>
      match x.groups.get none (k.fld 2 0 8) with
      | none => x
      | some g => { x with groups := x.groups.set none (k.fld 2 0 8) (some { g with clearing := false }) }
  else s

/-- R215, R330: an abort reaches the sequencer's part of a cluster. Its program runs on. Results that wait take their
credits with them, which are reclaimed at the reconcile. -/
def State.abortSeq (s : State) (c : Nat) : State :=
  let h := 1024 + c
  let s := ((s.hart h).cmds).foldl (fun t k => (t.unclear c k).abortCmd h k) s
  let s := s.modHart h fun x => { x with aq := [], txn := [] }
  let s := ((s.clu c).resWait.flatMap Prod.snd).foldl (fun t fl => t.injectAt (cluPlace c 1 11) fl) s
  let s := (List.range 8).foldl (fun t b => t.setF (SEQ_BAR_ARRIVED c b) 0) s
  s.modClu c fun x => { x with
    mail := [], resq := [], resWait := [], hres := [], kettle := [], notices := x.notices ++ [⟨s.copyU c, 0, s.copyU c⟩],
    txReady := s.f (TX_IDX_DONE c) }

/-- An abort reaches a cluster. -/
def State.abortClu (s : State) (c : Nat) : State :=
  (((List.range 32).map (32 * c + ·)).foldl (fun t n => t.abortCore n) s).abortSeq c

/-- R423, R424: a trigger of an abort of partition `p`; one that arrives during an abort joins it. -/
def State.abort (s : State) (p : Nat) : State :=
  if !(s.part p).held || s.f (PART_STAT_ABORT (partCsr p)) ≠ 0 then s
  else
    let s := (s.setF (PART_STAT_ABORT (partCsr p)) 1).modPart p fun x => { x with abortAt := s.dtime }
    let s := s.shCloseAll p
    let s := (s.partClus p).foldl (fun t c => t.abortClu c) s
    (s.oxAbort p).barnDetach p

/-- The abort of the partition that holds a cluster (R360, R372). -/
def State.abortOf (s : State) (c : Nat) : State := if s.partOf c = 0xFF then s else s.abort (s.partOf c)

/-- R425, R448: a device abort: every partition in parallel, host RoCEv2 traffic and host barn commands. -/
def State.deviceAbort (s : State) : State :=
  let s := s.heldParts.foldl (fun t p => t.abort p) s
  let s := s.barnDetachHost
  { s with vpm := { s.vpm with devAbort := true }, eth := { s.eth with qps := s.eth.qps.map fun q => { q with err := true } } }

/-! ### The audit (R419, R420, R422) -/

/-- Credits held in the counters of a control core. -/
def State.heldCredits (s : State) (h : Nat) : Nat := (List.range 16).foldl (fun a n => a + s.credit h n) 0

/-- Queue tokens held by a control core: commands and records. -/
def State.heldTokens (s : State) (h : Nat) : Nat :=
  (s.hart h).cmds.length + ((s.hart h).recs.filter fun r => r.q ≠ 15).length

/-- R419: the first account of partition `p` that fails, with INFLIGHT = 0; a term with no majority fails (R420). -/
def State.auditItem (s : State) (p : Nat) : Option Nat :=
  let l := (s.part p).ledger
  let v (t : Nat) : Nat := (ledgerRead l t).getD 0
  let ok (ts : List Nat) : Bool := ts.all fun t => (ledgerRead l t).isSome
  let hs := s.partHarts p
  let held := hs.foldl (fun a h => a + s.heldCredits h) 0
  let toks := hs.foldl (fun a h => a + s.heldTokens h) 0
  if !ok [ lSent, lTaken, lRefused, lReclaimed] || v lSent ≠ v lTaken + held + v lRefused + v lReclaimed then some 0
  else if !ok [ lPushed, lPopped] || v lPushed ≠ v lPopped + toks then some 1
  else if !ok [ lInjected, lCounted, lAbsorbed] || v lInjected ≠ v lCounted + v lAbsorbed then some 2
  else if !ok [ lPlanned, lWritten, lMRefused, lCancelled] || v lPlanned ≠ v lWritten + v lMRefused + v lCancelled then some 3
  else none

/-- R420: an audit reads every term of a partition, which rewrites the copies that disagree. -/
def State.auditRead (s : State) (p : Nat) : State := (List.range 13).foldl (fun t i => t.ledgerFix p i) s

/-- R422: a failed partition account: the Alarm, LEDGER_BAD and the abort. -/
def State.auditFail (s : State) (p item : Nat) : State :=
  (((s.raise clsAlarm 0x081 p 11 0 item).setF (PART_STAT_LEDGER_BAD (partCsr p)) 1).setF (PART_STAT_AUDIT (partCsr p)) 3).abort p

/-- R422: the verdict on partition `p`, found quiescent. -/
def State.auditPart (s : State) (p : Nat) : State :=
  let s := s.auditRead p
  let s := s.setF (PART_STAT_NOTQUIET (partCsr p)) 0
  match s.auditItem p with
  | none => s.setF (PART_STAT_AUDIT (partCsr p)) 2
  | some i => s.auditFail p i

/-- The credits a VC0 flit carries. -/
def flitCredits (fl : Flit) : Nat :=
  match fl with
  | .credit _ _ _ a => a
  | .inbox _ _ w _ => inboxCredits w
  | _ => 0

/-- VC0 flits of a partition on their way or at a port. -/
def State.partFlits (s : State) (p : Nat) : List Flit :=
  (s.flits.map Flight.fl ++ s.vports.flatMap fun e => e.2.queue).filter fun q => s.flitPart q = p

/-- R422: the partition is quiescent. -/
def State.quiet (s : State) (p : Nat) : Bool :=
  (s.partClus p).all (fun c => s.cluIdle c)
    && (s.part p).sheafAt.isEmpty
    && (s.partHarts p).all (fun h =>
        (match (s.hart h).slotO with
          | some x => x.landed ≠ 0
          | none => true))
    && !(s.pkts.any fun q => q.part = p) && !(s.partFlits p).any fun _ => true

/-- R422: an audit of partition `p` starts. -/
def State.auditStart (s : State) (p : Nat) : State :=
  if (s.part p).held then
    (s.setF (PART_STAT_AUDIT (partCsr p)) 1).modPart p fun x => { x with auditAt := s.dtime }
  else s

/-- R422: a partition audit ends: quiescent, with its verdict; or 1 ms after it started with none. -/
def State.auditEnd (s : State) (p : Nat) : State :=
  if s.f (PART_STAT_AUDIT (partCsr p)) ≠ 1 then s
  else if s.quiet p then s.auditPart p
  else
    ((s.advanceTo ((s.part p).auditAt + 1000000 * nsU)).setF (PART_STAT_NOTQUIET (partCsr p)) 1).setF
      (PART_STAT_AUDIT (partCsr p)) 0

/-! ### The device audit (R422) -/

/-- Terms of the power-token account (R369): LINK, MEMORY, COMPUTE, and PSET_W at the last evaluation. -/
def lPower : Nat := 28

/-- R419: LINK + MEMORY + COMPUTE = PSET_W. -/
def State.powerHolds (s : State) : Bool :=
  let l := (s.part devPart).ledger
  match ledgerRead l lPower, ledgerRead l (lPower + 1), ledgerRead l (lPower + 2), ledgerRead l (lPower + 3) with
  | some a, some b, some c, some d => a + b + c = d
  | _, _, _, _ => false

/-- R422: a device audit starts. -/
def State.devAuditStart (s : State) : State :=
  (s.setF LEDGER_STAT_RESULT 1).modPart devPart fun x => { x with auditAt := s.dtime }

/-- R422: the device audit ends: every partition that is quiescent within 1 ms, then the device's own accounts. -/
def State.devAuditEnd (s : State) : State :=
  if s.f LEDGER_STAT_RESULT ≠ 1 then s
  else
    let s := if s.heldParts.all fun p => s.quiet p then s else s.advanceTo ((s.part devPart).auditAt + 1000000 * nsU)
    let bad := s.heldParts.filterMap fun p => if s.quiet p then s.auditItem p else none
    let pw := s.powerHolds
    let bn := s.f BARN_STAT_STATE < 2 || s.barnHolds
    let s := s.heldParts.foldl (fun t p =>
      if t.quiet p then t.auditPart p
      else (t.setF (PART_STAT_NOTQUIET (partCsr p)) 1).setF (PART_STAT_AUDIT (partCsr p)) 0) s
    let s := (List.range 12).foldl (fun t i => t.ledgerFix devPart (lBarn + i)) s
    let s := if pw then s else { s with vpm := { s.vpm with rebuild := true } }
    let s := if bn then s else s.barnFail
    let items := bad ++ (if pw then [] else [4]) ++ (if bn then [] else [5])
    match items with
    | [] => s.setF LEDGER_STAT_RESULT 2
    | i :: _ => (s.setF LEDGER_STAT_RESULT 3).setF LEDGER_STAT_ITEM i

/-! ### Steps 3 and 4 of R424 -/

/-- R424 step 3: at T + 1,500 µs what is unanswered is written off. -/
def State.writeOff (s : State) (p : Nat) : State :=
  if s.f (PART_STAT_ABORT (partCsr p)) ≠ 1 then s
  else
    let s := s.advanceTo ((s.part p).abortAt + 1500000 * nsU)
    let l := s.pkts.filter fun q => q.part = p
    (l.foldl (fun t q => t.absorbPkt q) s).purge (fun q => q.part = p) fun _ => false

/-- R424 step 4: every credit on its way or in a counter is reclaimed. -/
def State.reclaim (s : State) (p : Nat) : State :=
  let hs := s.partHarts p
  let n := (s.partFlits p).foldl (fun a q => a + flitCredits q) 0 + hs.foldl (fun a h => a + s.heldCredits h) 0
  let s := s.vports.foldl (fun t (e : Nat × VPort) =>
    t.setVport e.1 { e.2 with queue := e.2.queue.filter fun q => s.flitPart q ≠ p }) s
  let s := s.purge (fun _ => false) fun q => s.flitPart q = p
  let s := hs.foldl (fun t h => (List.range 16).foldl (fun u i => u.setF (CC_CRED_COUNT h i) 0) t) s
  s.ledgerAdd p lReclaimed n

/-- R424 step 4: the abort ends. -/
def State.reconcile (s : State) (p : Nat) : State :=
  if s.f (PART_STAT_ABORT (partCsr p)) ≠ 1 then s
  else
    let s := if s.pkts.any fun q => q.part = p then s.writeOff p else s
    let s := ((s.setF (PART_STAT_ABORT (partCsr p)) 2).reclaim p).auditPart p
    let us := (s.dtime - (s.part p).abortAt) / (1000 * nsU)
    let s := (s.setF (PART_STAT_ABORT (partCsr p)) 0).setF (PART_STAT_LAST_ABORT_US (partCsr p)) (min us 65535)
    s.raise clsNote 0x080 p 11 0 (min us 65535)

/-- R425: the device abort ends: every partition's, the traffic of device-level units, and the device audit. -/
def State.deviceAbortEnd (s : State) : State :=
  let s := s.heldParts.foldl (fun t p => t.reconcile p) s
  let s := s.purge (fun _ => true) fun _ => false
  let s := { s with vpm := { s.vpm with devAbort := false } }
  s.devAuditStart.devAuditEnd

end Sys2Proof.Machine
end

