-- ==== Sys2Proof/Machine/PowerOps.lean ====
section
/-!
DEFINITION. Power operations: operating points and voltage (R280–R283, R335, R336), cluster states, wakes and tickets
(R355–R363), stook order (R364), parking and darkness (R341, R372), field trips (R374), the alert wire (R348), keep-warm
entry (R365–R367) and the loss of rails (R332, R366).
-/

namespace Sys2Proof.Machine

def State.setVpm (s : State) (g : Vpm → Vpm) : State := { s with vpm := g s.vpm }

/-! ### Operating points and voltage -/

/-- R335: the listed points, MHz and tenths of a mV. -/
def vtTable : List (Nat × Nat) := [ (800, 5500), (900, 5800), (1000, 6200), (1100, 6700), (1200, 7200), (1250, 7500)]

/-- R335: VT(f) in tenths of a mV: linear between the listed points, rounded up to 2.5 mV. -/
def vtNominal (f : Nat) : Nat :=
  match (vtTable.zip vtTable.tail).find? fun p => p.1.1 ≤ f ∧ f ≤ p.2.1 with
  | some (a, b) =>
    let d := b.1 - a.1
    (a.2 * d + (b.2 - a.2) * (f - a.1) + 25 * d - 1) / (25 * d) * 25
  | none => if f < 800 then 5500 else 7500

/-- R335: the target of cluster `c` at point `f`, in tenths of a mV, trim included. -/
def State.vtOf (s : State) (c f : Nat) : Nat := ((vtNominal f : Int) + 25 * s.fInt (REG_VT_TRIM c)).toNat

/-- Give the cluster a target (`REG_VT.VT_MV` in whole mV). -/
def State.setVt (s : State) (c v10 : Nat) : State := s.setF (REG_VT_VT_MV c) (v10 / 10)

/-- R335: the target while the cluster wakes on its oscillator. -/
def State.oscPoint (s : State) : Nat := if s.f DEV_GRADE_GRADE = 2 then 850 else 1000

/-- R370, R373, PST_STAT: the ceiling in force: the lower of the cap's and heat's, never below 800 MHz. -/
def State.ceiling (s : State) (c : Nat) : Nat :=
  let m := s.f DEV_GRADE_FMAX_MHZ
  max 800 (m - 25 * max (s.clu c).capCut (s.clu c).heatCut)
def State.showCeil (s : State) (c : Nat) : State := s.setF (PST_STAT_CEIL_MHZ c) (s.ceiling c)

/-- R363, R370, R375: the issue fraction in force: the cap's, or 4/16 under a throttle if lower. -/
def State.showIssue (s : State) (c : Nat) : State :=
  let n := 16 - (s.clu c).issueCut
  s.setF (PST_STAT_ISSUE c) (if s.on (PST_STAT_THROTTLED c) then min n 4 else n)

/-- R280: the highest operating point a cluster may take. -/
def State.topPoint (s : State) (c : Nat) : Nat :=
  min (s.ceiling c) (min (s.f DEV_GRADE_FMAX_MHZ) (s.f (CLK_CTL_FLIM_MHZ c)))

/-- R336: a pending raise is cancelled: the target returns to that of the present point. -/
def State.cancelRaise (s : State) (c : Nat) : State :=
  if s.on (REG_VT_RAISING c) then
    ((s.setF (REG_VT_RAISING c) 0).modClu c fun x => { x with raiseTo := 0 }).setVt c (s.vtOf c (s.f (CLK_STAT_F_MHZ c)))
  else s

/-! ### Sleep and wake (R355–R359) -/

/-- R356: enter Steep. -/
def State.enterSteep (s : State) (c : Nat) : State :=
  ((s.wdogHold c).setF (PST_STAT_STATE c) 1).bump (PST_CNT_STEEPS c) 1 |>.modClu c fun x => { x with steepAt := s.dtime }

/-- R355, R335: enter Rest: PLL off, regulator in low-power mode, 0.500 V. -/
def State.enterRest (s : State) (c : Nat) : State :=
  let s := if s.f (PST_STAT_STATE c) = 0 then s.wdogHold c else s
  let s := ((s.setF (PST_STAT_STATE c) 2).bump (PST_CNT_RESTS c) 1).modClu c fun x => { x with restWant := false, wake := 0 }
  let s := ((s.cancelRaise c).setF (REG_STAT_LPM c) 1).setF (CLK_STAT_LOCK c) 0
  (s.setF (CLK_STAT_GLIDE c) 0).setVt c 5000

/-- R356: the cluster may sleep: it runs or is in Steep, and is idle. -/
def State.maySleep (s : State) (c : Nat) : Bool := s.f (PST_STAT_STATE c) ≤ 1 && s.cluIdle c

/-- R358: a wake from Steep. -/
def State.wakeSteep (s : State) (c : Nat) : State := (((s.setF (PST_STAT_STATE c) 0).wdogGo c).loadCopy c).touch c

/-! ### Tickets (R362, R363) -/

/-- R362: current the field's granted tickets still hold in reserve, A. -/
def State.reserved (s : State) (f : Nat) : Nat :=
  ([ 2 * f, 2 * f + 1].filter fun c => (s.clu c).grantAt ≠ 0 && s.dtime < (s.clu c).grantAt + 20000 * nsU).length
    * s.f (PWR_WAKE_RESERVE_A f)

/-- R362: the check admits a ticket in field `f`. -/
def State.admits (s : State) (f : Nat) : Bool :=
  (s.fld f).iAvg + 1000 * (s.reserved f + s.f (PWR_WAKE_RESERVE_A f)) ≤ 1000 * s.f (PWR_WAKE_FIELD_A f)

/-- R359 step 1: the ticket is granted. -/
def State.grant (s : State) (c : Nat) : State :=
  let s := (s.setF (PST_STAT_TWAIT c) 0).setF (REG_STAT_LPM c) 0
  (s.setVt c (s.vtOf c (if s.f (PST_STAT_STATE c) = 2 then s.oscPoint else 800))).modClu c fun x =>
    { x with wake := 2, refusals := 0, grantAt := s.dtime }

/-- The field's other cluster. -/
def neighbour (c : Nat) : Nat := if c % 2 = 0 then c + 1 else c - 1

/-- R363: the neighbour runs at 4/16 for 20 µs. -/
def State.throttle (s : State) (c : Nat) : State :=
  let n := neighbour c
  if s.f (PST_STAT_STATE n) = 0 then
    ((s.setF (PST_STAT_THROTTLED n) 1).modClu n fun x => { x with throttleEnd := s.dtime + 20000 * nsU }).showIssue n
      |>.bump (PWR_WAKE_CNT_THROTTLES (c / 2)) 1
  else s

/-- R362, R363, R367: one check of a ticket: the ninth grants it and throttles the neighbour. A refusal under the alert wire
does not count toward the eight. -/
def State.ticket (s : State) (c : Nat) : State :=
  let f := c / 2
  let alert := s.on PWR_ALERT_ASSERTED
  let nine := 8 ≤ (s.clu c).refusals
  if s.vpm.govOff || alert || !(s.admits f || nine) then
    (((s.bump (PWR_WAKE_CNT_DEFERS f) 1).setF (PST_STAT_TWAIT c) 1).modClu c fun x =>
      { x with wake := 1, checkAt := s.dtime, refusals := if alert then x.refusals else x.refusals + 1 })
  else if nine then (s.grant c).throttle c
  else s.grant c

/-- R415: a wake cause ends the glean windows that woke a cluster from Steep, and it stays awake. -/
def State.gleanWake (s : State) (c : Nat) : State :=
  ((List.range 32).map (32 * c + ·)).foldl (fun t n =>
    if (t.hart n).gleanSteep then (t.gleanCut n).modHart n fun x => { x with gleanSteep := false } else t) s

/-- R357, R372, R415: a wake cause reaches cluster `c`: Steep runs at once, Rest asks for a ticket, a parked or dark cluster
stays, and a glean window that had woken the cluster ends. -/
def State.wakeClu (s : State) (c : Nat) : State :=
  if s.f (PST_STAT_STATE c) = 1 then s.wakeSteep c
  else if s.f (PST_STAT_STATE c) = 0 then s.gleanWake c
  else if s.f (PST_STAT_STATE c) = 2 ∧ (s.clu c).wake = 0 then s.ticket c
  else s

/-- R361: the cluster asks to leave Off, where nothing else keeps it there. -/
def State.leaveOff (s : State) (c : Nat) : State :=
  let x := s.clu c
  if s.f (PST_STAT_STATE c) = 3 ∧ x.wake = 0 ∧ !s.on (REG_STAT_DARK c) ∧ !x.capParked ∧ !x.heatParked
      ∧ !s.on (FIELD_THERM_TRIP (c / 2)) then s.ticket c
  else s

/-! ### Lost state (R360, R361) -/

/-- Offsets in a core's block that hold its own state (R125): region flags, array and vector state, faults, credits,
queues, movers and pointers; not the settings of R10 that the image gives, nor the identity of R25, R99 and R435. -/
def coreVolatile (o : Nat) : Bool :=
  (0x200 ≤ o && o < 0x240) || (0x310 ≤ o && o < 0x50C) || (0x518 ≤ o && o < 0x614) || (0x618 ≤ o && o < 0xB00)

/-- R125, R360: a control core's registers, counters, tiles and regions become zero; its memories keep their contents. -/
def State.zeroHart (s : State) (h : Nat) : State :=
  let base := hartCsr h * 32
  let s := { s with
    regs := s.regs.drop fun k => base ≤ k && k < base + 0x1000 * 32 && (if isSeqHart h then
      0x500 * 32 ≤ k - base && k - base < 0x560 * 32 && (k - base) / 32 ≠ 0x50C && (k - base) / 32 ≠ 0x510
      else coreVolatile ((k - base) / 32)),
    tiles := s.tiles.drop fun k => !isSeqHart h && k / 262144 = h,
    planes := s.planes.drop fun k => !isSeqHart h && k / 16384 = h,
    grains := s.grains.drop fun k => !isSeqHart h && k / 65536 = h }
  let s := if isSeqHart h then s else s.setF (ARRAY_STATE_COLD h) 1
  s.setHart h { Hart.reset with gen := (s.hart h).gen, gleanAt := (s.hart h).gleanAt, charges := (s.hart h).charges }

/-- R360: every core and the sequencer of a cluster enter IDLE with their state zeroed. -/
def State.zeroClu (s : State) (c : Nat) : State :=
  let s := (cluHarts c).foldl (fun t h => t.zeroHart h) s
  s.modClu c fun x => { x with mail := [], resq := [], resWait := [], hres := [], kettle := [], hints := [] }

/-- R307, R318, R406, R421: start the sequencer of a cluster at its entry. -/
def State.startSeq (s : State) (c : Nat) : State :=
  (s.startHart (1024 + c) (s.f (SEQ_CTL_ENTRY c))).modClu c fun x => { x with seqStarted := true }

/-- R282: a cluster switches to its 800 MHz output; the target stays where it was, and a pending raise is cancelled. -/
def State.cluAlert (s : State) (c : Nat) : State :=
  let s := s.cancelRaise c
  if s.on (CLK_STAT_ALERT c) || s.on (CLK_STAT_SRC c) || 2 ≤ s.f (PST_STAT_STATE c) then s
  else
    let s := s.modClu c fun x => { x with
      mainMHz := s.f (CLK_STAT_F_MHZ c), glideTo := 0, highN := 0,
      glideAt := if x.glideAt = 0 then s.dtime else max s.dtime (x.glideAt + 2000 * nsU) }
    ((s.setF (CLK_STAT_ALERT c) 1).setF (CLK_STAT_F_MHZ c) 800).setF (CLK_STAT_GLIDE c) (bool1 (800 < (s.clu c).mainMHz))

/-- R359, R361: the wake ends and the cluster runs: from Rest on its oscillator, from Off on its PLL at 800 MHz with
nothing kept. -/
def State.wakeReady (s : State) (c : Nat) : State :=
  if (s.clu c).wake ≠ 2 then s
  else
    let off := s.f (PST_STAT_STATE c) = 3
    let s := if off then s.zeroClu c else s.wdogGo c
    let s := (((s.setF (PST_STAT_STATE c) 0).setF (PST_STAT_CAUSE c) 0).modClu c fun x => { x with wake := 0 }).loadCopy c
    if off then
      let s := ((s.setF (CLK_STAT_SRC c) 0).setF (CLK_STAT_LOCK c) 1).setF (CLK_STAT_F_MHZ c) 800
      let s := s.setVt c (s.vtOf c 800)
      let s := if s.on PWR_ALERT_ASSERTED then s.cluAlert c else s
      (if s.partOf c = 0xFF then s else s.startSeq c).touch c
    else ((cluHarts c).foldl State.clkInt ((s.setF (CLK_STAT_SRC c) 1).setF (CLK_STAT_LOCK c) 0)).touch c

/-! ### Off, parking and darkness -/

/-- R355: the cluster is in Off with a cause. -/
def State.enterOff (s : State) (c cause : Nat) : State :=
  let s := ((s.setF (PST_STAT_STATE c) 3).setF (PST_STAT_CAUSE c) cause).modClu c fun x =>
    { x with wake := 0, offWant := false, restWant := false }
  ((((s.cancelRaise c).setF (PST_STAT_TWAIT c) 0).setF (REG_STAT_LPM c) 0).setF (CLK_STAT_LOCK c) 0).setF (REG_VT_VT_MV c) 0

/-- R372, R375: park a cluster, for heat (cause 1) or for the cap (cause 2). -/
def State.park (s : State) (c cause : Nat) : State :=
  let s := s.abortOf c
  let s := s.modClu c fun x => { x with capParked := x.capParked || cause = 2, heatParked := x.heatParked || cause = 1 }
  if s.f (PST_STAT_STATE c) = 3 ∧ s.f (PST_STAT_CAUSE c) ≠ 2 then s
  else s.enterOff c (if (s.clu c).heatParked then 1 else cause)

/-- R26: a logical core becomes ABSENT. -/
def State.coreAway (s : State) (n : Nat) : State := (s.setF (CORE_MAP_PCORE n) 0x3F).setF (CORE_MAP_ABSENT n) 1

/-- R99: `ARRAY_COLS` of a logical core shows the column map of the physical core with key `key`. -/
def State.arrayCols (s : State) (n key : Nat) : State :=
  let m := s.boot.colMaps.get noCols key
  (s.setF (ARRAY_COLS_BAD_A n) (m % 128)).setF (ARRAY_COLS_BAD_B n) (m / 128)

/-- R341: the cluster goes dark for the rest of the start: every logical core of it becomes ABSENT. -/
def State.goDark (s : State) (c sl : Nat) : State :=
  if s.on (REG_STAT_DARK c) then s
  else
    let s := (s.setF (REG_STAT_DARK c) 1).enterOff c 4
    let l := ((List.range 32).map (32 * c + ·)).filter fun n => !s.absent n
    let m := l.foldl (fun m n => m.set 0 n (s.f (CORE_MAP_PCORE n) + 1)) s.boot.darkMap
    let s := l.foldl State.coreAway { s with boot := { s.boot with darkMap := m } }
    (s.setF (CLU_INFO_CORES_PRESENT c) 0).raiseClu clsAlarm 0x052 c sl

/-- R341: a regulator slice fails: switched out, with a lower over-current limit. -/
def State.sliceFail (s : State) (c sl : Nat) (ctrl : Bool) : State :=
  let s :=
    if ctrl || s.f (REG_STAT_SLICE_OK c) / 2 ^ sl % 2 = 0 then s
    else
      (((s.setBit (REG_STAT_SLICE_OK c) sl false).setF (REG_STAT_FAILED c) (s.f (REG_STAT_FAILED c) + 1)).setF
        (REG_OC_LIMIT_A c) (s.f (REG_OC_LIMIT_A c) - 24)).raiseClu clsWarning 0x052 c sl
  if ctrl || 4 < s.f (REG_STAT_FAILED c) then s.goDark c sl else s

/-! ### Stook order (R364) -/

/-- R364: the field order for a boot master's position. -/
def stookFields (p : Nat) : List Nat :=
  match p with
  | 0 => [ 0, 1, 2, 3, 7, 11, 15, 14, 13, 12, 8, 4, 5, 6, 10, 9]
  | 1 => [ 3, 7, 11, 15, 14, 13, 12, 8, 4, 0, 1, 2, 6, 10, 9, 5]
  | 2 => [ 15, 14, 13, 12, 8, 4, 0, 1, 2, 3, 7, 11, 10, 9, 5, 6]
  | _ => [ 12, 8, 4, 0, 1, 2, 3, 7, 11, 15, 14, 13, 9, 5, 6, 10]

/-- R364: the cluster order: the west cluster of a field first. -/
def State.stook (s : State) : List Nat := (stookFields (s.f BOOT_STAT_MASTER)).flatMap fun f => [ 2 * f, 2 * f + 1]

/-! ### The alert wire (R282, R348) -/

/-- Bits of `PWR_ALERT` by cause: FPEAK, FMEAN, PIN, UV, TEMP, SENSE. -/
def alertBit (i : Nat) : Fd :=
  match i with
  | 0 => PWR_ALERT_FPEAK | 1 => PWR_ALERT_FMEAN | 2 => PWR_ALERT_PIN | 3 => PWR_ALERT_UV | 4 => PWR_ALERT_TEMP
  | _ => PWR_ALERT_SENSE

/-- R348: a cause of the alert wire holds. -/
def State.alertOn (s : State) (i : Nat) : State :=
  let s := (s.setF (alertBit i) 1).setVpm fun v => { v with causes := v.causes ||| 2 ^ i }
  if s.on PWR_ALERT_ASSERTED then s
  else
    let s := ((s.setF PWR_ALERT_ASSERTED 1).bump PWR_ALERT_COUNT 1).setVpm fun v => { v with frameAlerts := v.frameAlerts + 1 }
    (List.range 32).foldl (fun t c => t.cluAlert c) s

/-- A cause is clear. -/
def State.alertOff (s : State) (i : Nat) : State :=
  s.setVpm fun v => { v with causes := v.causes - (v.causes &&& 2 ^ i) }

/-- R282: once the alert wire is released, a cluster returns to its main output when that has glided down to a point it may
take. -/
def State.cluUnalert (s : State) (c : Nat) : State :=
  let m := max 800 (s.clu c).mainMHz
  if !s.on (CLK_STAT_ALERT c) || max 800 (s.topPoint c) < m then s
  else
    (((s.setF (CLK_STAT_ALERT c) 0).setF (CLK_STAT_F_MHZ c) m).setF (CLK_STAT_GLIDE c) 0).setVt c (s.vtOf c m)
      |>.modClu c fun x => { x with mainMHz := 0 }

/-! ### Rails -/

/-- Registers kept by a predicate on their offset. -/
def State.keepRegs (s : State) (p : Nat → Bool) : State := { s with regs := s.regs.filter fun e => p (e.1 / 32) }

/-- R366: blocks that stay powered in keep-warm: device and management, corner die position 0, the Octoon, barn, Ethernet
and VPM blocks of the boot master. -/
def keptBlock (o : Nat) : Bool := o < 0x1000000 || (0x20000000 ≤ o && o < 0x21000000) || 0x30000000 ≤ o

/-- R398: what the boot master keeps of the last cold start: core, column and slice maps, trims, test results, the stacks in
service, and what each corner die is (R403). -/
def mapReg (o : Nat) : Bool :=
  (0x10000000 ≤ o && o < 0x12000000 &&
    (if 0x80000 ≤ o % 0x100000 && o % 0x100000 < 0xA0000 then o % 0x1000 = 0 || o % 0x1000 = 0x300
     else o % 0x100000 = 0 || (0x100 ≤ o % 0x100000 && o % 0x100000 < 0x11C) || o % 0x100000 = 0x408 || o % 0x100000 = 0x600))
  || (0x20000000 ≤ o && o < 0x24000000 && o % 0x1000000 = 0) || (0x1000000 ≤ o && o < 0x2000000 && (o % 0x100000 = 0 || o % 0x100000 = 0x5000))

/-- R12: settings in those blocks, which a cold start and a restart bring back to their before-image values: `PTP_CFG`,
`EV_CFG`, the device's event ring, `I3C_CFG`, `PWR_MARGIN`, the telemetry ring, `CAP_CTL`, the floors, `KW_CTL` and `STOOK`. -/
def settingReg (o : Nat) : Bool :=
  ([ 0x320, 0x508, 0x510, 0x514, 0x704, 0x3C000008, 0x3C000010, 0x3C000014, 0x3C000100, 0x3C000104, 0x3C000108, 0x3C000120,
    0x3C000128]).contains o

/-- Blocks on VAON: time, events and the VPM's own (R332). -/
def vaonBlock (o : Nat) : Bool := (0x300 ≤ o && o < 0x400) || (0x500 ≤ o && o < 0x600) || (0x700 ≤ o && o < 0x800) || 0x3C000000 ≤ o

/-- What outlives every rail: the queue of commands, the NAND medium and the flash, the fuses, and the count of free
values. -/
def State.medium (s : State) : State :=
  { State.reset with
    pending := s.pending, free := s.free,
    barn := { Barn.reset with
      bales := s.barn.bales, blocks := s.barn.blocks, formatted := s.barn.formatted, outNext := s.barn.outNext,
      pages := s.barn.pages, cwords := s.barn.cwords, pbytes := s.barn.pbytes, ages := s.barn.ages },
    eth := { Eth.reset with flash := s.eth.flash },
    boot := { Boot.reset with
      owners := s.boot.owners, vendor := s.boot.vendor, seed := s.boot.seed, mapA := s.boot.mapA, mapB := s.boot.mapB } }

/-- R332, R528, R529: every rail but VAON is removed. -/
def State.railsOff (s : State) : State :=
  let r := s.keepRegs vaonBlock
  { s.medium with
    regs := r.regs, dtime := s.dtime, tim := { s.tim with beat := [], stale := [], cdie := [], slips := [] }, ev := s.ev, parts := s.parts.filter fun e => e.1 = devPart,
    vpm := { Vpm.reset with vaon := true, resetLow := s.vpm.resetLow, uv := s.vpm.uv } }

/-- R332: VAON is lost too: DTIME and every count. The barn's account holds across it (R421). -/
def State.vaonOff (s : State) : State := { s.keepAges.medium with vpm := { Vpm.reset with resetLow := s.vpm.resetLow } }

/-- R433: every collector's records and tables move to the buffer on VAON, 1,024 records, with coalescing beyond. -/
def State.flushEvents (s : State) : State :=
  let l := s.ev.stages.flatMap (fun e => e.2.queue ++ e.2.table.map fun x => { x with coal := true })
  let v := s.ev.vaon ++ l
  { s with ev := { s.ev with
      stages := [],
      vaon := (v.drop 1024).foldl (fun t e => if t.any fun x => x.kind = e.kind ∧ x.unit = e.unit ∧ x.code = e.code ∧ x.cls = e.cls
        then coalesce 1024 20 t e else t ++ [e]) (v.take 1024) } }

/-- R375: what a resumption finds of the cap's and heat's cuts of a cluster. -/
def Clu.cuts (x : Clu) : Clu := { Clu.reset with
  capCut := x.capCut, issueCut := x.issueCut, capParked := x.capParked, heatParked := x.heatParked, drawW := x.drawW }

/-- R366, R367 step 4: the rails that keep-warm does not keep are removed, and with them the mesh's outage. HBM keeps its
contents. -/
def State.warmRails (s : State) : State :=
  let s := s.keepRegs fun o => keptBlock o || mapReg o
  let s := { s with
    tim := { s.tim with beat := [], stale := [], cdie := [], slips := [] },
    mem := s.mem.filter fun e => e.1 < clsBase 1, poison := s.poison.filter fun a => a < clsBase 1,
    tiles := [], planes := [], grains := [], harts := [], clus := (s.clus.map fun (e : Nat × Clu) => (e.1, e.2.cuts)).filter fun e => e.2 ≠ Clu.reset,
    flds := [], flits := [], pkts := [],
    net := Net.reset,
    vports := [], rbucket := [], rturn := [],
    olinks := (List.range 16).map fun l => (l, { OLink.reset with unavail := true, downAt := s.dtime }),
    octIn := [], octWait := [], remotes := [] }
  let close (x : Part) : Part :=
    { x with sheafAt := [], groups := [], ledger := [], opened := false, resetting := false, abortAt := 0 }
  let ps : Store Part := s.parts.map fun (e : Nat × Part) => if e.1 = devPart then e else (e.1, close e.2)
  let s : State := { s with parts := ps }
  let s := (List.range 16).foldl (fun t l =>
    ((t.setF (OCT_LSTAT_UP l) 0).setF (OCT_LSTAT_RETRAIN l) 0).setF (FIELD_INFO_MESH_DOWN l) 0) s
  let s := ((s.setF MESH_STAT_DRAIN 0).setF MESH_STAT_DOWN 31).setF MESH_STAT_ALT 0
  (s.setF KW_STAT_STATE 2).setF BARN_STAT_IDLE 1

/-- R367 step 3, R374: the stacks of field `f` in self refresh, or out of it. -/
def State.fieldSr (s : State) (f : Nat) (b : Bool) : State :=
  (List.range 2).foldl (fun u i => if stackAt f i < 24 then u.setF (HBM_STAT_SR f i) (bool1 b) else u) s

/-- R367 step 3: every stack in self refresh. -/
def State.stacksSr (s : State) (b : Bool) : State :=
  ((List.range 16).foldl (fun t f => t.fieldSr f b) s).setVpm fun v => { v with stackRefresh := b }

/-- R365, R367: entry into keep-warm begins, from Serving or from a resumption. -/
def State.kwEnter (s : State) (cause : Nat) : State :=
  if s.f KW_STAT_STATE = 1 ∨ s.f KW_STAT_STATE = 2 then s
  else
    let s := s.raise clsAlarm 0x058 0xFF 5 0 cause
    let s := ((s.setF KW_STAT_STATE 1).setF KW_STAT_CAUSE cause).bump KW_STAT_ENTRIES 1
    let s := (s.setF BOOT_STAT_READY 0).setVpm fun v => { v with govOff := true, kwAt := s.dtime }
    s.deviceAbort

/-- R367 steps 3 and 4, after the device abort. -/
def State.kwFinish (s : State) : State :=
  if s.f KW_STAT_STATE = 1 then (s.flushEvents).warmRails.stacksSr true else s

/-- R365, R401: a start is in progress, and it is a cold one. -/
def State.coldStarting (s : State) : Bool := s.f BOOT_STAT_STEP ≠ 0 && !s.on BOOT_STAT_WARM

/-- R365, R366, R396, R397: the start ends in keep-warm. -/
def State.startFail (s : State) (fail cause : Nat) : State :=
  let s := ((((s.setF BOOT_STAT_FAIL fail).setF BOOT_STAT_STEP 0).setF BOOT_STAT_READY 0).setF KW_STAT_CAUSE cause).bump KW_STAT_ENTRIES 1
  ((s.stacksSr true).flushEvents).warmRails

/-- R518: a restart begins, with P now: the boot master, its sessions and DTIME run through; every other block starts again
from its before-image values, and HBM contents are not guaranteed (log entry 45). -/
def State.restartBegin (s : State) : State :=
  let m := s.f BOOT_STAT_MASTER
  let w := s.warmRails.keepRegs fun o =>
    (vaonBlock o && !settingReg o) || (0x20000000 ≤ o && o < 0x24000000) || (0x38000000 ≤ o && o < 0x39000000) || (0x600 ≤ o && o < 0x700)
  let s := { w with
    mem := [], poison := [], clus := [], parts := w.parts.filter fun e => e.1 = devPart,
    boot := { w.boot with
      maps14 := false, powerAt := w.dtime, inForce := false, streamed := w.boot.restart = 2, restart := 0, testFails := [] } }
  let s := (((s.setF BOOT_STAT_MASTER m).setF BOOT_STAT_STEP 2).setF KW_STAT_STATE 0).timeStart
  s.setVpm fun v => { v with govOff := false, devAbort := false, stackRefresh := false }

/-! ### Beacon paths (R287, R289) -/

/-- The first attach router of the boot master (R287, R382). -/
def beaconFrom (p : Nat) : Nat × Nat :=
  match p with | 0 => (0, 0) | 1 => (15, 0) | 2 => (15, 7) | _ => (0, 7)
/-- The router at which keeper `u`'s beacon lands: a cluster's quadrant 0, or the attach router of corner die `u` − 32. -/
def beaconTo (u : Nat) : Nat × Nat := if u < 32 then (routerX u 0, routerY u 0) else beaconFrom (u - 32)
/-- The fields on the dimension-ordered route between two routers. -/
def routeFields (a b : Nat × Nat) : List Nat :=
  let fld (x y : Nat) : Nat := 4 * (y / 2) + x / 4
  ((List.range 16).filter fun x => min a.1 b.1 ≤ x && x ≤ max a.1 b.1).map (fun x => fld x a.2) ++
    ((List.range 8).filter fun y => min a.2 b.2 ≤ y && y ≤ max a.2 b.2).map fun y => fld b.1 y
/-- R289: the keepers whose beacon path passes field `f` ignore beacons until they are recalibrated. -/
def State.pathsChange (s : State) (f : Nat) : State :=
  let a := beaconFrom (s.f BOOT_STAT_MASTER)
  s.modTim fun x => { x with
    stale := x.stale ++ (List.range 36).filter fun u => (routeFields a (beaconTo u)).contains f && !x.stale.contains u }

/-! ### Field trips (R272, R374) -/

/-- R374, R272, R401: a trip of field `f` stops a start, and the next one is cold; in a second field the device is aborted and enters keep-warm. -/
def State.fieldTrip (s : State) (f : Nat) : State :=
  if s.on (FIELD_THERM_TRIP f) then s
  else
    let second := (List.range 16).any fun g => s.on (FIELD_THERM_TRIP g)
    let s := (s.raise clsAlarm 0x057 0xFF 2 f (s.f (FIELD_THERM_TEMP_C f))).setF (FIELD_THERM_TRIP f) 1
    let s := (s.abortOf (2 * f)).abortOf (2 * f + 1)
    if s.f BOOT_STAT_STEP ≠ 0 then { s with boot := { s.boot with maps14 := false } }.startFail 0 3
    else if second then (s.raise clsAlarm 0x033 0xFF 7 f f).kwEnter 3 else s.setF MESH_STAT_DRAIN 1

/-- R374: every sensor of a tripped field has been below 100 °C for 1 s: its mesh begins to return. -/
def State.fieldRestore (s : State) (f : Nat) : State :=
  if s.on (FIELD_THERM_TRIP f) && s.meshDown f then s.setF MESH_STAT_DRAIN 1 else s

end Sys2Proof.Machine
end

