-- ==== Sys2Proof/Machine/Power.lean ====
section
/-!
DEFINITION. Power events: the frequency controller and its glides (R281–R283, R336), the input (R332, R528), sensing and
regulation (R338–R342), kettle windows and hints at the VPM (R343, R344), over-current and the alert wire (R346–R348) and
telemetry (R349–R351).
-/

namespace Sys2Proof.Machine

/-! ### Frequency (R281–R283, R336) -/

/-- R281: start a glide of one step to point `f`. -/
def State.glide (s : State) (c f : Nat) : State :=
  (s.setF (CLK_STAT_GLIDE c) 1).modClu c fun x => { x with glideTo := f, highN := 0, glideAt := s.dtime }

/-- R281: a step may begin: none is in progress, and 2 µs have passed since the last one began. -/
def State.mayGlide (s : State) (c : Nat) : Bool :=
  !s.on (CLK_STAT_GLIDE c) && ((s.clu c).glideAt = 0 || (s.clu c).glideAt + 2000 * nsU ≤ s.dtime)

/-- R281, R283, R336: one evaluation of a cluster: `m` is 0 for a margin below the low threshold, 2 for one above the high
threshold. A forced step that finds a glide in progress is made at the next evaluation (log entry 78). -/
def State.freqEval (s : State) (c m : Nat) : State :=
  let s := (s.advanceTo (s.clu c).evalAt).toMultiple 1000
  let x := s.clu c
  let f := s.f (CLK_STAT_F_MHZ c)
  let forced := 16 < x.stretchN || x.forceDue
  let s := s.modClu c fun y => { y with
    stretchN := 0, highN := if m = 2 then y.highN + 1 else 0, evalAt := s.dtime + 1, forceDue := false }
  if !s.cluRuns c || s.on (CLK_STAT_SRC c) || s.on (CLK_STAT_ALERT c) then s
  else if !s.mayGlide c then s.modClu c fun y => { y with forceDue := forced && 800 < f }
  else if 800 < f ∧ (forced ∨ m = 0 ∨ s.topPoint c < f) then
    ((if forced then s.bump (CLK_STRETCH_FORCED c) 1 else s).cancelRaise c).glide c (f - 25)
  else if 64 ≤ (s.clu c).highN ∧ f + 25 ≤ s.topPoint c ∧ !s.on (REG_VT_RAISING c) then
    ((s.setF (REG_VT_RAISING c) 1).setVt c (s.vtOf c (f + 25))).modClu c fun y =>
      { y with raiseTo := f + 25, raiseAt := s.dtime, highN := 0 }
  else s

/-- FREQ_EVALUATION (R281). -/
def execFreqEvaluation (c : Fin 32) (m : Fin 3) (s : State) : Out := .next (s.freqEval c.val m.val)

/-- GLIDE_STEP_END (R281, R282, R336): the step is over; a lowered target takes effect in this cycle. While the cluster is on its
800 MHz output it is the main output that glides, until the alert wire is released and it has reached a point that is allowed. -/
def execGlideStepEnd (c : Fin 32) (s : State) : Out :=
  .next (let i := c.val
    if !s.on (CLK_STAT_GLIDE i) then s
    else
      let s := s.advanceTo (s.clu i).glideAt
      if s.on (CLK_STAT_ALERT i) then
        let m := max 800 ((s.clu i).mainMHz - 25)
        let s := ((s.modClu i fun x => { x with mainMHz := m, glideAt := x.glideAt + 2000 * nsU }).setVt i (s.vtOf i m)).setF
          (CLK_STAT_GLIDE i) (bool1 (800 < m))
        if s.on PWR_ALERT_ASSERTED then s else s.cluUnalert i
      else
        let f := (s.clu i).glideTo
        let low := f < s.f (CLK_STAT_F_MHZ i)
        let s := ((s.setF (CLK_STAT_GLIDE i) 0).setF (CLK_STAT_F_MHZ i) f).modClu i fun x => { x with glideTo := 0 }
        if low then s.setVt i (s.vtOf i f) else s)

/-- RAISE_CONFIRM (R281, R336): the glide up begins, if the point still is within R280. -/
def execRaiseConfirm (c : Fin 32) (s : State) : Out :=
  .next (let i := c.val
    if s.on (REG_VT_RAISING i) then
      let f := (s.clu i).raiseTo
      if f ≤ s.topPoint i && s.mayGlide i then ((s.setF (REG_VT_RAISING i) 0).modClu i fun x => { x with raiseTo := 0 }).glide i f
      else s.cancelRaise i
    else s)

/-- RAISE_TIMEOUT (R336): 20 µs without a confirmation cancel the raise. -/
def execRaiseTimeout (c : Fin 32) (s : State) : Out :=
  .next (let i := c.val
    if s.on (REG_VT_RAISING i) then (s.advanceTo ((s.clu i).raiseAt + 20000 * nsU)).cancelRaise i else s)

/-- STRETCH_EVENT (R283): one event of at most 4 stretched periods. -/
def execStretchEvent (c : Fin 32) (s : State) : Out :=
  .next (if s.cluRuns c.val then
    (s.bump (CLK_STRETCH_EVENTS c.val) 1).modClu c.val fun x => { x with stretchN := x.stretchN + 1 } else s)

/-! ### The input (R332, R527, R528) -/

/-- A reading of the input, in 10 mV. -/
def State.vin (s : State) (v : Nat) : State := s.setF PWR_IN_VIN v

/-- INPUT_UNDERVOLTAGE (R332, R348): below 47.0 V for 10 µs. -/
def execInputUndervoltage (v : Nat) (s : State) : Out :=
  .next ((((s.vin v).setVpm fun x => { x with uv := true }).alertOn 3).raise clsWarning 0x050 0xFF 5 0 v)

/-- INPUT_UV_CLEAR (R332): back at 48.0 V for 100 µs. -/
def execInputUvClear (v : Nat) (s : State) : Out :=
  .next (((s.vin v).setVpm fun x => { x with uv := false }).alertOff 3)

/-- INPUT_BELOW_42V (R332): the module is Off; HBM contents are lost. -/
def execInputBelow42v (v : Nat) (s : State) : Out :=
  .next (((s.vin v).raise clsAlarm 0x050 0xFF 5 0 v).railsOff)

/-- VAON_LOSS (R332). -/
def execVaonLoss (s : State) : Out := .next s.vaonOff

/-- INPUT_OVERVOLTAGE (R332): above 60.0 V for 10 µs; operation continues. -/
def execInputOvervoltage (v : Nat) (s : State) : Out := .next ((s.vin v).raise clsWarning 0x050 0xFF 5 0 v)

/-- INPUT_ABOVE_64V (R332): every rail is removed, VAON included. -/
def execInputAbove64v (s : State) : Out := .next s.vaonOff

/-- R528, R540: a reading of the input current, in 0.1 A. -/
def State.iin (s : State) (i : Nat) : State :=
  let s := s.setF PWR_IIN_IIN (min i 4095)
  s.setF PWR_IIN_IPEAK (max (s.f PWR_IIN_IPEAK) (min i 4095))

/-- INPUT_CURRENT_OVER (R528): a mean over 1 ms above 130 A. -/
def execInputCurrentOver (i : Nat) (s : State) : Out :=
  .next (((s.iin i).bump PWR_IIN_OVER 1).raise clsWarning 0x050 0xFF 5 0 (s.f PWR_IN_VIN))

/-- INPUT_CURRENT_TRIP (R528): above 160 A for 10 ms: every rail but VAON is removed. -/
def execInputCurrentTrip (i : Nat) (s : State) : Out :=
  .next (((s.iin i).raise clsAlarm 0x050 0xFF 5 0 (s.f PWR_IN_VIN)).railsOff)

/-! ### Sensing and regulation (R337–R342) -/

/-- The higher target of a field's clusters, in 0.5 mV. -/
def State.highTarget (s : State) (f : Nat) : Nat := 2 * max (s.f (REG_VT_VT_MV (2 * f))) (s.f (REG_VT_VT_MV (2 * f + 1)))

/-- Signed headroom as a register field of 8 bits. -/
def head8 (v : Int) : Nat := ((min 127 (max (-128) v)) % 256).toNat

/-- R338: an output moves toward a demand by at most 10 mV, in steps of 2.5 mV (units of 0.5 mV). -/
def steerStep (now want : Int) : Int :=
  let d := want - now
  let q := if 0 ≤ d then (d + 4) / 5 * 5 else -((-d) / 5 * 5)
  now + min 20 (max (-20) q)

/-- R343, R345: the level of the feed: steered, raised while a window holds it so, and never below the level at which a lost
sense link holds it. -/
def State.feedLevel (s : State) (f : Nat) : Nat :=
  let x := s.fld f
  max x.heldMv (if x.raised.isEmpty then x.steerMv else min 1700 (x.steerMv + 5 * s.f PWR_MARGIN_KN_STEP))
def State.showFeed (s : State) (f : Nat) : State := s.setF (VPM_FSTAT_FEED_MV f) (s.feedLevel f / 2)

/-- R338: minima `w`, `e` and `v`, in 0.5 mV: west cluster, east cluster, VSRAM. A cluster in Off is left out. -/
def State.sense (s : State) (f : Nat) (w e v : Int) : State :=
  let s := ((s.setF (VPM_FSENSE_HEAD_W f) (head8 w)).setF (VPM_FSENSE_HEAD_E f) (head8 e)).setF (VPM_FSENSE_HEAD_S f) (head8 v)
  if (s.fld f).senseLost then s
  else
    let m : Int := 5 * s.f PWR_MARGIN_MARGIN
    let off (c : Nat) : Bool := s.f (PST_STAT_STATE c) = 3
    let lo : Int := if off (2 * f) then (if off (2 * f + 1) then m else e) else if off (2 * f + 1) then w else min w e
    let x := s.fld f
    let want : Int := max (x.steerMv + (m - lo)) (s.highTarget f + 20)
    let feed := min 1700 (max 1040 (steerStep x.steerMv want))
    let sram := min 1600 (max 1400 (steerStep x.vsramMv (x.vsramMv + (m - v))))
    (s.modFld f fun y => { y with steerMv := feed.toNat, vsramMv := sram.toNat }).showFeed f

/-- SENSE_MINIMA (R338): every 100 ns. -/
def execSenseMinima (f : Fin 16) (w e v : Int) (s : State) : Out :=
  let s := (s.advanceTo (s.fld f.val).senseAt).toMultiple 100
  .next ((s.modFld f.val fun x => { x with senseAt := s.dtime + 1 }).sense f.val w e v)

/-- REGULATOR_UPDATE (R339): the cluster's regulator moves VLOG so that its minimum headroom meets the margin, at most to
the feed less its dropout. -/
def execRegulatorUpdate (c : Fin 32) (head : Int) (s : State) : Out :=
  .next (let i := c.val
    if s.f (PST_STAT_STATE i) = 3 then s.modClu i fun x => { x with vlog := 0 }
    else
      let m : Int := 5 * s.f PWR_MARGIN_MARGIN
      let top : Int := (s.feedLevel (i / 2) : Int) - 20
      s.modClu i fun x => { x with vlog := min top (x.vlog + (m - head)) })

/-- SENSE_LOSS (R340): no minimum for 1 µs. -/
def execSenseLoss (f : Fin 16) (s : State) : Out :=
  .next (let i := f.val
    let s := s.modFld i fun x => { x with
      senseLost := true, heldMv := min 1700 (s.highTarget i + 100), vsramMv := s.vpm.vsramSet + 60,
      steerMv := if x.raised.isEmpty then min 1700 (s.highTarget i + 100) else x.steerMv }
    ((s.showFeed i).alertOn 5).raise clsError 0x051 0xFF 2 i i)

/-- SENSE_RESTORE (R340): minima have arrived again for 100 µs. -/
def execSenseRestore (f : Fin 16) (s : State) : Out :=
  .next (let s := (s.modFld f.val fun x => { x with senseLost := false, heldMv := 0 }).showFeed f.val
    if (List.range 16).any fun g => (s.fld g).senseLost then s else s.alertOff 5)

/-- SLICE_FAILURE (R341): slice `sl`, or with `ctrl` the regulator's controller. -/
def execSliceFailure (c : Fin 32) (sl : Fin 16) (ctrl : Bool) (s : State) : Out := .next (s.sliceFail c.val sl.val ctrl)

/-- BROWNOUT (R342, R360): in low-power mode only. The partition is aborted, the cluster zeroed, and a ticket still pending
withdrawn. -/
def execBrownout (c : Fin 32) (s : State) : Out :=
  .next (let i := c.val
    if !s.on (REG_STAT_LPM i) then s
    else
      let s := (s.abortOf i).zeroClu i
      let s := ((s.setF (PST_STAT_STATE i) 2).setF (PST_STAT_CAUSE i) 5).setF (PST_STAT_TWAIT i) 0
      ((s.modClu i fun x => { x with wake := 0, refusals := 0 }).bump (PST_CNT_BROWNOUTS i) 1).raiseClu clsError 0x053 i i)

/-! ### Kettle windows and hints at the controller (R343, R344) -/

/-- KETTLE_NOTICE_ARRIVAL (R343): the oldest notice of cluster `c` reaches its field group controller. A forwarded
cancellation ends the cluster's windows there. -/
def execKettleNoticeArrival (c : Fin 32) (s : State) : Out :=
  .next (match (s.clu c.val).notices with
    | [] => s
    | k :: r =>
      let i := c.val
      let s := s.modClu i fun x => { x with notices := r }
      if k.stop = 0 then
        let s := s.modFld (i / 2) fun x => { x with
          notices := x.notices.filter fun q => q.1 ≠ i, raised := x.raised.filter fun q => q.1 ≠ i }
        (s.setF (VPM_FSTAT_KETTLE (i / 2)) (bool1 (!(s.fld (i / 2)).raised.isEmpty))).showFeed (i / 2)
      else s.modFld (i / 2) fun x => { x with notices := x.notices ++ [(i, k)] })

/-- The notice whose window starts first, the one that arrived first among equals. -/
def firstStart (l : List (Nat × Kettle)) : Option (Nat × Kettle) :=
  l.foldl (fun a q => match a with | none => some q | some x => if q.2.start < x.2.start then some q else some x) none

/-- KETTLE_ACTION (R343): at max(t_r, t − 1,500 ns) the controller brings every phase online and raises the feed. -/
def execKettleAction (f : Fin 16) (s : State) : Out :=
  .next (match firstStart (s.fld f.val).notices with
    | none => s
    | some q =>
      let s := s.advanceTo (q.2.start - 1500 * nsU)
      let s := s.modFld f.val fun x => { x with
        notices := x.notices.erase q, raised := x.raised ++ [ q], lastWin := max x.lastWin q.2.start }
      ((s.setF (VPM_FSTAT_PHASES f.val) 20).setF (VPM_FSTAT_KETTLE f.val) 1).showFeed f.val)

/-- The raised window that ends first. -/
def firstEnd (l : List (Nat × Kettle)) : Option (Nat × Kettle) :=
  l.foldl (fun a q => match a with | none => some q | some x => if q.2.stop < x.2.stop then some q else some x) none

/-- KETTLE_WINDOW_END (R343): the feed returns to its steered level once no window holds it. -/
def execKettleWindowEnd (f : Fin 16) (s : State) : Out :=
  .next (match firstEnd (s.fld f.val).raised with
    | none => s
    | some q =>
      let s := (s.advanceTo q.2.stop).modFld f.val fun x => { x with raised := x.raised.filter fun z => z ≠ q }
      let s := s.setF (VPM_FSTAT_KETTLE f.val) (bool1 (!(s.fld f.val).raised.isEmpty))
      s.showFeed f.val)

/-- PHASES_OFFLINE (R343): no window of either cluster has started for 10 µs; how many phases remain is the controller's
choice, up to 20 (log entry 3). A hint in force may hold them (R344). -/
def execPhasesOffline (f : Fin 16) (s : State) : Out :=
  .next (let x := s.fld f.val
    if !x.raised.isEmpty || s.on (VPM_FSTAT_HINT f.val) then s
    else
      let s := s.advanceTo (x.lastWin + 10000 * nsU)
      let q := s.takeFree
      q.2.setF (VPM_FSTAT_PHASES f.val) (Config.freeNat q.1 % 21))

/-- HINT_END (R344). -/
def execHintEnd (f : Fin 16) (s : State) : Out :=
  .next (if s.on (VPM_FSTAT_HINT f.val) then (s.advanceTo (s.fld f.val).hintEnd).setF (VPM_FSTAT_HINT f.val) 0 else s)

/-- KETTLE_WINDOW_START (R328): the earliest pending window of a cluster reaches its start and is active, as `KN_STAT`
shows. -/
def execKettleWindowStart (c : Fin 32) (s : State) : Out :=
  .next (let l := (s.liveKettle c.val).filter fun k => s.copyU c.val < k.start
    match l with
    | [] => s
    | k :: r =>
      let t := r.foldl (fun a q => min a q.start) k.start
      s.advanceCopy c.val t)

/-! ### Over-current and the alert wire (R346–R348) -/

/-- R346, R347: a trip. -/
def State.ocTrip (s : State) (c amps : Nat) : State :=
  let l := ((s.clu c).trips.filter fun t => s.dtime ≤ t + 100000000 * nsU) ++ [s.dtime]
  let s := (s.setF (REG_STAT_OCGATE c) 1).bump (REG_OC_TRIPS c) 1
  let s := (s.modClu c fun x => { x with trips := l, overN := 0, gateAt := s.dtime }).raiseClu clsError 0x054 c amps
  if 3 ≤ l.length then (s.setF (REG_STAT_OCHELD c) 1).raiseClu clsAlarm 0x054 c amps else s

/-- OC_SAMPLE (R346): every 50 ns; the second of two consecutive samples above the limit trips. -/
def execOcSample (c : Fin 32) (amps : Nat) (s : State) : Out :=
  .next (let i := c.val
    if s.on (REG_STAT_OCGATE i) || s.on (REG_STAT_OCHELD i) || 2 ≤ s.f (PST_STAT_STATE i) then s
    else if s.f (REG_OC_LIMIT_A i) < amps then
      if 1 ≤ (s.clu i).overN then s.ocTrip i amps else s.modClu i fun x => { x with overN := 1 }
    else s.modClu i fun x => { x with overN := 0 })

/-- R346 step 4: the gate ends, two steps lower; a glide that was under way is over. -/
def State.ocResume (s : State) (c : Nat) : State :=
  let s := s.setF (REG_STAT_OCGATE c) 0
  if s.on (CLK_STAT_SRC c) || s.on (CLK_STAT_ALERT c) then s
  else
    let f := max 800 (s.f (CLK_STAT_F_MHZ c) - 50)
    let s := ((s.cancelRaise c).setF (CLK_STAT_GLIDE c) 0).modClu c fun x => { x with glideTo := 0 }
    (s.setF (CLK_STAT_F_MHZ c) f).setVt c (s.vtOf c f)

/-- OC_RESUME (R346): at least 10 µs later, below half the limit, the clock resumes two steps lower. -/
def execOcResume (c : Fin 32) (amps : Nat) (s : State) : Out :=
  .next (let i := c.val
    if s.on (REG_STAT_OCGATE i) && !s.on (REG_STAT_OCHELD i) && 2 * amps < s.f (REG_OC_LIMIT_A i) then
      (s.advanceTo ((s.clu i).gateAt + 10000 * nsU)).ocResume i
    else s)

/-- R346, R347: a write of `REG_OC.RELEASE` ends a hold, and the clock resumes. -/
def State.ocRelease (s : State) (c : Nat) : State :=
  if s.on (REG_STAT_OCHELD c) then (s.setF (REG_STAT_OCHELD c) 0).ocResume c else s

/-- REG_OC_RELEASE (R347). -/
def execRegOcRelease (c : Fin 32) (s : State) : Out := .next (s.ocRelease c.val)

/-- ALERT_ASSERT (R348): cause 0 FPEAK, 1 FMEAN, 2 PIN, 3 UV, 4 TEMP, 5 SENSE. -/
def execAlertAssert (i : Fin 6) (s : State) : Out := .next (s.alertOn i.val)

/-- ALERT_RELEASE (R348): the causes the VPM measures have been clear for 100 µs; the wire is released unless the
undervoltage or a lost sense link still holds it. -/
def execAlertRelease (s : State) : Out :=
  .next (if !s.on PWR_ALERT_ASSERTED || s.vpm.uv || (List.range 16).any fun f => (s.fld f).senseLost then s
    else
      let s := (s.setF PWR_ALERT_ASSERTED 0).setVpm fun v => { v with causes := 0 }
      (List.range 32).foldl (fun t c => t.cluUnalert c) s)

/-! ### Telemetry (R349–R351) -/

/-- R351: what a frame's record of a domain holds: valid, VOLT, I_AVG, I_MAX, ENERGY. -/
abbrev TelRec := Bool × Nat × Nat × Nat × Nat

/-- R351: the four words of record `i`. -/
def State.telRec (s : State) (i : Nat) (r : TelRec) : List Nat :=
  let oc := i < 32 && (s.clu i).trips.any fun t => s.dtime ≤ t + 1000000 * nsU
  let dark := i < 32 && s.on (REG_STAT_DARK i)
  [ i + bool1 r.1 * 256 + bool1 oc * 512 + bool1 dark * 1024 + r.2.1 % 65536 * 65536, r.2.2.1, r.2.2.2.1, r.2.2.2.2]

/-- R350: the header. -/
def State.telHead (s : State) (pin vin temp : Nat) : List Nat :=
  let a := s.vpm.frameAlerts
  [ s.now % 2 ^ 32, s.now / 2 ^ 32, s.f TEL_STAT_SEQ + 114 * 65536 + 2 ^ 24,
    pin % 65536 + s.f DEV_PLIMIT_PSET_W * 65536,
    bool1 (s.on PWR_ALERT_ASSERTED || a ≠ 0) + bool1 (s.f KW_STAT_STATE = 2) * 2 + min a 255 * 256,
    vin % 65536 + temp % 256 * 65536, 0, 0]

/-- R349: append a frame to the ring, in slots of 2,048 bytes (log entry 79); one that cannot be written is counted. -/
def State.telRing (s : State) (ws : List Nat) : State :=
  let n := s.f TEL_RING1_FRAMES
  let a := devAddr 0 (s.f TEL_RING0_BASE_LO + 2 ^ 32 * s.f TEL_RING1_BASE_HI + 2048 * (s.vpm.telPos % n))
  if n = 0 then s
  else if s.f KW_STAT_STATE = 2 || s.runStatus a (4 * ws.length) ≠ .ok then s.bump TEL_STAT_SKIPPED 1
  else (s.storeDev a (ws.flatMap (leBytes 4))).1.setVpm fun v => { v with telPos := v.telPos + 1 }

/-- R349, R456: deliver a frame: TEL_LAST, the ring, the subscribers. -/
def State.telDeliver (s : State) (ws : List Nat) : State :=
  let s := ((ws.zipIdx).foldl (fun t (w, i) => t.setF (TEL_LAST_WORD i) w) s).telRing ws
  let subs := s.eth.sessions.filter fun (x : Session) => x.tel
  subs.foldl (fun t x => t.caddySend x.id 6 (numBytes ws)) { s with eth := { s.eth with telemetry := ws } }

/-- TELEMETRY_FRAME (R349): each millisecond. The field-feed records are what ticket admission reads (R362). -/
def execTelemetryFrame (pin vin temp : Nat) (rs : List TelRec) (s : State) : Out :=
  .next (let s := (s.advanceTo s.vpm.telAt).toMultiple 1000000
    let s := s.setVpm fun v => { v with telAt := s.dtime + 1 }
    let rs := (List.range 114).map fun i => rs.getD i (false, 0, 0, 0, 0)
    let s := (List.range 16).foldl (fun t f =>
      t.modFld f fun x => { x with iAvg := (rs.getD (32 + f) (false, 0, 0, 0, 0)).2.2.1 }) s
    let s := ((s.setF PWR_IN_VIN vin).setF PWR_IN_PIN_W pin).setF TEL_STAT_SEQ (s.f TEL_STAT_SEQ + 1)
    let ws := s.telHead pin vin temp ++ (rs.zipIdx.flatMap fun (r, i) => s.telRec i r)
    (s.telDeliver ws).setVpm fun v => { v with frameAlerts := 0 })

end Sys2Proof.Machine
end

