-- ==== Sys2Proof/Machine/MatOps.lean ====
section
/-!
DEFINITION. What a pass of the matrix array computes (R44–R51, R66–R69, R91–R95), from operands held as bytes: an
activation run, a weight set, a mode and a grain scale.
-/

namespace Sys2Proof.Machine

/-! ### Operands -/

/-- The part of a table from key `lo` on, `len` keys, renumbered from 0. -/
def Store.slice {α : Type} (m : Store α) (lo len : Nat) : Store α :=
  (m.filter fun e => lo ≤ e.1 && e.1 < lo + len).map fun e => (e.1 - lo, e.2)

/-- A run of elements in row-major order (R42, R67): its format, the bits of element `j`, and the scale of its block. -/
structure Opnd where
  fmt : Fmt
  bits : Nat → Nat
  scale : Nat → Option Int

/-- Element `j` of a run of bytes. -/
def byteElem (f : Fmt) (m : Store Byte) (j : Nat) : Nat :=
  if f.bits < 8 then (m.get 0 (j * f.bits / 8)).toNat / 2 ^ (j * f.bits % 8) % 2 ^ f.bits
  else leVal ((List.range (f.bits / 8)).map fun i => m.get 0 (j * (f.bits / 8) + i))

/-- An operand from its bytes and the scales of its blocks of 32. -/
def opndOf (f : Fmt) (bytes scales : Store Byte) : Opnd :=
  ⟨f, byteElem f bytes, fun j => if f.isMx then scaleExp (scales.get 0 (j / 32)) else some 0⟩

/-- A tile run as an operand. -/
def State.opnd (s : State) (n t0 : Nat) (f : Fmt) : Opnd :=
  ⟨f, fun j => s.runBits f n t0 j, fun j => s.elemScale f n (runElem f t0 j).1 (runElem f t0 j).2⟩

/-- Bytes of a tile run from its byte `lo`, renumbered from 0; a tile register holds 4,096 bytes in every format. -/
def State.runBytes (s : State) (n t0 lo len : Nat) : Store Byte := s.tiles.slice (tileKey n t0 lo) len

/-- Scales of the blocks of a tile run from block `b0`, renumbered from 0. -/
def State.runScales (s : State) (f : Fmt) (n t0 b0 len : Nat) : Store Byte :=
  if !f.isMx then []
  else (List.range len).filterMap fun i =>
    let b := b0 + i
    let v := s.plane n (t0 + b / (2 * f.rows)) (b % (2 * f.rows))
    if v = 0 then none else some (i, v)

/-- A weight set of `tiles` tiles from tile `t0` (R68). -/
def State.wset (s : State) (op : Nat) (f : Fmt) (n t0 tiles : Nat) : WeightSet :=
  ⟨op, fmtCode f, s.runBytes n t0 0 (4096 * tiles), s.runScales f n t0 0 (tiles * 2 * f.rows)⟩

/-- The weight set as an operand. -/
def WeightSet.opnd (w : WeightSet) : Opnd := opndOf ((fmtOf w.fmt).getD .int8) w.bytes w.scales

/-- R67: the place of K element `k` of activation row `m` in a run with `kk` elements a row. -/
def actPlace (kk m k : Nat) : Nat := 64 * (kk / 64 * m + k / 64) + k % 64
/-- R67: the place of K element `k` of weight column `c`. -/
def wtPlace (c k : Nat) : Nat := 64 * (64 * (k / 64) + c) + k % 64

/-! ### Rounding points (R45, R47, R48, R93) -/

/-- A rounding point: its grain, whether the conversion saturated, whether it was a substitution, and whether a nonzero
value became 0. -/
structure Point where
  g : Int
  sat : Bool
  nonfin : Bool
  lost : Bool
deriving DecidableEq, Repr

/-- R45: a block or product that contributes zero. -/
def Point.bad : Point := ⟨0, false, true, false⟩

/-- R47, R50, R51: an exact value converted to the unit 2^e. -/
def toPoint (d : Dy) (e : Int) : Point :=
  let r := grainSat (d.toUnit e)
  ⟨r.1, r.2, false, d.m ≠ 0 && r.1 = 0⟩

/-- One term of a block (R92): the product, the difference's magnitude or square, or 1 where a exceeds b. -/
def termOf (op : Nat) (a b : Dy) : Dy :=
  match op with
  | 2 => let d := a.sub b; ⟨d.m.natAbs, d.e⟩
  | 3 => let d := a.sub b; d.mul d
  | 4 => if b.lt a then ⟨1, 0⟩ else Dy.zero
  | _ => a.mul b

/-- A block of `len` elements from K element `k0`, of row `m` and column `c`. Only the multiply modes read scales. -/
def blockPoint (op : Nat) (e : Int) (kk : Nat) (a w : Opnd) (m c k0 len : Nat) : Point :=
  let ks := (List.range len).map (k0 + ·)
  let vs := ks.map fun k => (a.fmt.val (a.bits (actPlace kk m k)), w.fmt.val (w.bits (wtPlace c k)))
  let sc : Option Int :=
    if op ≠ 1 then some 0
    else match a.scale (actPlace kk m k0), w.scale (wtPlace c k0) with
      | some x, some y => some (x + y)
      | _, _ => none
  match sc with
  | none => Point.bad
  | some k =>
    if vs.any fun v => !v.1.isFin || !v.2.isFin then Point.bad
    else toPoint ((vs.foldl (fun t v => t.add (termOf op v.1.dy v.2.dy)) Dy.zero).scale k) e

/-- R92: the differing bits of row `m` and column `c`. -/
def hammingPoint (e : Int) (kk : Nat) (a w : Opnd) (m c : Nat) : Point :=
  toPoint ⟨((List.range kk).countP fun k => a.bits (actPlace kk m k) ≠ w.bits (wtPlace c k) : Nat), 0⟩ e

/-- The rounding points of one output (R69): blocks of 32, single products in the 16-bit formats, one count in
HAMMING. -/
def points (op : Nat) (e : Int) (kk : Nat) (a w : Opnd) (m c : Nat) : List Point :=
  if op = 7 then [hammingPoint e kk a w m c]
  else
    let len := if a.fmt.bits = 16 then 1 else 32
    (List.range (kk / len)).map fun b => blockPoint op e kk a w m c (b * len) len

/-- One output: its grain, its flags, how many conversions saturated (R52), and whether an addition across its blocks
did. -/
structure Cell where
  g : Int
  fl : Flags
  nsat : Nat
  asat : Bool
deriving DecidableEq, Repr

/-- R49, R50: the points of an output added as grains, from north to south. -/
def sumPoints (l : List Point) : Cell :=
  l.foldl (fun t p =>
    let r := grainSat (t.g + p.g)
    ⟨r.1, t.fl.or ⟨p.sat || r.2, p.nonfin, false, p.lost⟩, t.nsat + bool1 p.sat, t.asat || r.2⟩) ⟨0, Flags.zero, 0, false⟩

/-- R71: the 64 outputs of row `m`, as the array drains them. -/
def drainRow (op : Nat) (e : Int) (kk : Nat) (a w : Opnd) (m : Nat) : List Cell :=
  (List.range 64).map fun c => sumPoints (points op e kk a w m c)

/-- Rows `m0` on, `rows` of them. -/
def drainRows (op : Nat) (e : Int) (kk : Nat) (a w : Opnd) (m0 rows : Nat) : List Cell :=
  (List.range rows).flatMap fun i => drainRow op e kk a w (m0 + i)

def cellFlags (l : List Cell) : Flags := Flags.any (l.map Cell.fl)

/-! ### MAXPLUS and MINPLUS (R94, R95) -/

/-- A rounded extreme: the bits written, SAT and NONFIN. -/
structure Ext where
  bits : Nat
  sat : Bool
  nonfin : Bool
deriving DecidableEq, Repr

/-- R94: an exact value rounded to the input format, held at 448 or ±127. -/
def plusRound (f : Fmt) (d : Dy) : Nat × Bool :=
  if f = .e4m3 then
    let r := ffE4M3.heldRound 0x7E (d.m < 0) d.m.natAbs d.e
    (if r.1 % 128 = 0 then 0 else r.1, r.2)
  else
    let v := d.toUnit 0
    let h := max (-127) (min 127 v)
    ((h % 256).toNat, h ≠ v)

/-- R94: the bits of an output none of whose terms counts. -/
def plusEmpty (f : Fmt) (mx : Bool) : Nat :=
  if f = .e4m3 then (if mx then 0xFE else 0x7E) else if mx then 0x81 else 0x7F

/-- R94: the extreme of row `m` and column `c`. -/
def plusCell (mx : Bool) (kk : Nat) (a w : Opnd) (m c : Nat) : Ext :=
  let vs := (List.range kk).map fun k => (a.fmt.val (a.bits (actPlace kk m k)), w.fmt.val (w.bits (wtPlace c k)))
  let bad := vs.any fun v => v.1.isNan || v.2.isNan
  let ds := (vs.filter fun v => !(v.1.isNan || v.2.isNan)).map fun v => v.1.dy.add v.2.dy
  match ds with
  | [] => ⟨plusEmpty a.fmt mx, false, bad⟩
  | d :: r =>
    let x := r.foldl (fun t y => if (if mx then t.lt y else y.lt t) then y else t) d
    let q := plusRound a.fmt x
    ⟨q.1, q.2, bad⟩

/-- R95: ACC combines a new value with the one in the tile; an old NaN is disregarded. An old INT8 value of −128 that stands is
written as −127, without SAT (DEDUCED, log entry 34). -/
def plusAcc (f : Fmt) (mx : Bool) (old : Nat) (x : Ext) : Ext :=
  match f.val old with
  | .nan => { x with nonfin := true }
  | v =>
    let n := f.val x.bits
    if (if mx then n.dy.lt v.dy else v.dy.lt n.dy) then ⟨(plusRound f v.dy).1, x.sat, x.nonfin⟩ else x

/-! ### Gating and the ramp (R81, R84–R86) -/

/-- R81: columns whose weights are all zero, in the multiply modes. -/
def WeightSet.gated (w : WeightSet) (kk : Nat) : Nat :=
  if w.op ≠ 1 then 0
  else (List.range 64).countP fun c => (List.range kk).all fun k => (w.opnd.fmt.val (w.opnd.bits (wtPlace c k))).isZero

/-- R86: a kettle notice of the cluster, issued 2,000 ns before, announced a window that contains now. -/
def State.announced (s : State) (c : Nat) : Bool :=
  let t := s.copyU c
  (s.clu c).kettle.any fun k => k.start ≤ t && t < k.stop && k.issued + 2000 * nsU ≤ t

/-- R85: a ramp begins. -/
def State.rampStart (s : State) (n : Nat) : State :=
  let s := ((s.setF (ARRAY_STATE_COLD n) 0).setF (ARRAY_STATE_RAMPING n) 1).bump (ARRAY_STATE_RAMPS n) 1
  s.modHart n fun x => { x with rampAt := s.copyU (hartClu n) }

/-- R85: the ramp ends and the first row slot may enter. -/
def State.rampEnd (s : State) (n : Nat) : State :=
  let s := s.advanceCopy (hartClu n) ((s.hart n).rampAt + 2000 * nsU)
  (s.setF (ARRAY_STATE_RAMPING n) 0).setF (ARRAY_STATE_GROUPS n) 8

/-- R84–R86: the array takes a first row slot: at once when warm or announced, else after its ramp. -/
def State.warmArray (s : State) (n : Nat) : State :=
  let s :=
    if s.on (ARRAY_STATE_RAMPING n) then s.rampEnd n
    else if s.coldArray n then
      (if s.announced (hartClu n) then (s.setF (ARRAY_STATE_COLD n) 0).setF (ARRAY_STATE_GROUPS n) 8
       else (s.rampStart n).rampEnd n)
    else s.setF (ARRAY_STATE_GROUPS n) 8
  s.modHart n fun x => { x with lastSlot := s.copyU (hartClu n) }

end Sys2Proof.Machine
end

