-- ==== Sys2Proof/Machine/WinnowOps.lean ====
section
/-!
DEFINITION. Winnow and retirement: the generator (R406), the choice of witness and third core (R407), capture of a
sample (R408), its rerun (R409), charges and verdicts (R411, R412), and the remap of a retired core (R24, R413).
-/

namespace Sys2Proof.Machine

/-! ### The generator (R406) -/

/-- R406: one step of G. -/
def genStep (g : Word) : Word := if g.getLsbD 0 then (g >>> 1) ^^^ 0x80200003#32 else g >>> 1

/-- R406: the unit is selected. -/
def genSelects (log2f : Nat) (g : Word) : Bool := log2f ≠ 0 && g.toNat % 2 ^ log2f = 0

/-- R406: the seed of logical core `n`. -/
def genSeed (seed n : Nat) : Word :=
  let x := BitVec.ofNat 32 seed ^^^ BitVec.ofNat 32 n
  if x = 0 then 1 else x

/-- R406: reseed one core. -/
def State.seedCore (s : State) (p n : Nat) : State :=
  s.modHart n fun x => { x with gen := genSeed (s.f (WN_SEED_SEED (partCsr p))) n }

/-- R406: reseed every core of a partition. -/
def State.seedPart (s : State) (p : Nat) : State :=
  ((s.partClus p).flatMap fun c => (List.range 32).map (32 * c + ·)).foldl (fun t n => t.seedCore p n) s

/-! ### Witness and third core (R407) -/

/-- The clusters of a partition in their cycle, after cluster `c`. -/
def State.cycleAfter (s : State) (p c : Nat) : List Nat :=
  let l := s.partClus p
  (l.filter (c < ·)) ++ (l.filter (· < c))

/-- A core that may be chosen. -/
def State.mayWitness (s : State) (n : Nat) : Bool := !s.absent n && !s.retiring n

/-- The first core that may be chosen from index `k` on in cluster `c`, but for those of a list. -/
def State.pickCore (s : State) (c k : Nat) (skip : List Nat) : Option Nat :=
  ((List.range 32).map fun i => 32 * c + (k + i) % 32).find? fun n => s.mayWitness n && !skip.contains n

/-- R407: the witness of a unit of core `n`. -/
def State.witness (s : State) (n : Nat) : Option Nat :=
  let c := n / 32
  let l := s.cycleAfter (s.partOf c) c
  match l.find? fun d => d / 2 ≠ c / 2 with
  | some d => s.pickCore d (n % 32) []
  | none =>
    match l.head? with
    | some d => s.pickCore d (n % 32) []
    | none => s.pickCore c (n % 32 + 1) [n]

/-- R407: the third core. -/
def State.thirdCore (s : State) (n w : Nat) : Option Nat :=
  let c := n / 32
  let d := w / 32
  let l := s.cycleAfter (s.partOf c) d ++ [d]
  match l.find? fun e => e / 2 ≠ c / 2 ∧ e / 2 ≠ d / 2 with
  | some e => s.pickCore e (n % 32) [n, w]
  | none =>
    match l.find? fun e => e ≠ c ∧ e ≠ d with
    | some e => s.pickCore e (n % 32) [n, w]
    | none => s.pickCore d (w % 32 + 1) [n, w]

/-! ### Samples (R405, R408, R409) -/

/-- The partition registers of a core. -/
def State.wnBase (s : State) (n : Nat) : Nat := partCsr (s.partOf (n / 32))

/-- R408: samples not yet compared, of the cluster of core `n`. -/
def State.wnPend (s : State) (n : Nat) (up : Bool) : State :=
  let d := WN_PEND_PENDING (n / 32)
  s.setF d (if up then min (s.f d + 1) 65535 else s.f d - 1)

/-- R408: a selected unit is captured in slot O of core `n` and its copy sent to the witness's slot W; skipped where a
slot is held or no core may witness. -/
def State.capture (s : State) (n : Nat) (x : Sample) : State :=
  let skip := s.bump (WN_STAT_SKIPPED (s.wnBase n)) 1
  if (s.hart n).slotO.isSome then skip
  else
    match s.witness n with
    | none => skip
    | some w =>
      if (s.hart w).slotW.isSome then skip
      else
        let x := { x with src := n, wit := w, third := (s.thirdCore n w).getD 1024, landed := 0 }
        let s := s.modHart n fun y => { y with slotO := some x }
        let s := s.modHart w fun y => { y with slotW := some x, witRows := [], witFlags := none }
        s.wnPend n true

/-- The grain scale of a sample's pass (R179). -/
def Sample.scale (x : Sample) : Int := wsigned (x.words.getD 3 0) 16 8
/-- Its opcode and formats. -/
def Sample.op (x : Sample) : Nat := wbits (x.words.getD 0 0) 0 8
def Sample.afmt (x : Sample) : Fmt := (fmtOf (wbits (x.words.getD 2 0) 0 4)).getD .int8
def Sample.wfmt (x : Sample) : Fmt := (fmtOf (wbits (x.words.getD 2 0) 4 4)).getD .int8

/-- R409: what a sound array gives for a sample: rows and flags. -/
def Sample.run (x : Sample) : List Int × Flags :=
  match mqGeom x.op x.afmt x.wfmt with
  | none => ([], Flags.zero)
  | some g =>
    let l := drainRows x.op x.scale g.k (opndOf x.afmt x.act x.actScale) x.wts.opnd 0 x.nrows
    (l.map Cell.g, cellFlags l)

/-- A result with the errors that a failing array made: grain `i` reads as given, and place 4,096 the flags. -/
def withErrs (r : List Int × Flags) (l : List (Nat × Int)) : List Int × Flags :=
  l.foldl (fun t e => if e.1 = 4096 then (t.1, Flags.ofBits e.2.toNat) else (t.1.set e.1 e.2, t.2)) r

/-- R409: a witness runs a sample only while its MQ holds no command; MQ empty means that its array is not busy. -/
def State.wnIdle (s : State) (n : Nat) : Bool :=
  s.cluRuns (n / 32) && !s.absent n && (s.qCmds n 0).isEmpty

/-- Free the slots of the sample that core `w` witnesses. -/
def State.freeSample (s : State) (w : Nat) : State :=
  match (s.hart w).slotW with
  | none => s
  | some x =>
    let s := s.modHart w fun y => { y with slotW := none, witRows := [], witFlags := none }
    let s := s.modHart x.src fun y => { y with slotO := none }
    match (s.hart x.third).slotC with
    | some z => if z.src = x.src ∧ z.wit = w then s.modHart x.third fun y => { y with slotC := none } else s
    | none => s

/-- The sample that core `w` witnesses is in classification (R410): its result was compared and found different. -/
def State.classifying (s : State) (w : Nat) : Bool :=
  match (s.hart w).slotW with
  | some x => match (s.hart x.third).slotC with
    | some z => z.src = x.src && z.wit = w
    | none => false
  | none => false

/-! ### Retirement (R413) -/

/-- R24 step 4: the lowest good unused spare of cluster `c`. -/
def State.spare (s : State) (c : Nat) : Option Nat :=
  ([ 32, 33, 34, 35]).find? fun p =>
    !s.boot.badTest.contains (c, p) &&
      !((List.range 32).any fun k => !s.absent (32 * c + k) && s.f (CORE_MAP_PCORE (32 * c + k)) = p)

/-- R413: a core becomes retiring. -/
def State.retire (s : State) (n : Nat) : State :=
  if s.absent n ∨ s.retiring n then s
  else (s.setF (WN_CORE_RETIRING n) 1).raiseCore clsError 0x072 n ((s.spare (n / 32)).getD 0x3F)

/-- R413: the remap begins: records that wait are discarded and counted as popped. -/
def State.remapStart (s : State) (n : Nat) : State :=
  if !s.retiring n ∨ (s.hart n).remap.isSome ∨ !s.cluIdle (n / 32) ∨ !(s.hart n).cmds.isEmpty then s
  else
    let s := s.ledgerAdd (s.partOf (n / 32)) lPopped (s.hart n).recs.length
    let s := (s.gleanCut n).modHart n fun x => { x with recs := [], remap := some s.dtime }
    s

/-- R413, R24, R26, R99: the remap ends: the spare serves the core with its own column map. -/
def State.remapFinish (s : State) (n : Nat) : State :=
  if (s.hart n).remap.isNone then s
  else
    let c := n / 32
    let p := s.partOf c
    let old := s.f (CORE_MAP_PCORE n)
    let s := s.ledgerAdd p lReclaimed (s.heldCredits n)
    let sp := s.spare c
    let s := { s with
      boot := { s.boot with badTest := s.boot.badTest ++ [(c, old)] },
      mem := s.mem.filter fun e => e.1 < loftAddr n 0 || loftAddr (n + 1) 0 ≤ e.1,
      poison := s.poison.filter fun a => a < loftAddr n 0 || loftAddr (n + 1) 0 ≤ a }
    let s := s.zeroHart n
    let s := s.modHart n fun x => { x with charges := [], gleanAt := s.copyU c }
    let s := ((((s.setF (WN_CORE_RETIRE n) 0).setF (WN_CORE_RETIRING n) 0).setF (WN_CORE_WIPED n) 0).setF
      (WN_CORE_CHARGES n) 0).setF (WN_CORE_WINDOWS n) 0
    let s :=
      match sp with
      | some q =>
        let s := ((s.setF (CORE_MAP_PCORE n) q).setF (CORE_MAP_RX n) (routerX c (q / 9))).setF (CORE_MAP_RY n) (routerY c (q / 9))
        let s := s.setF (CLU_INFO_CORE_SPARES_LEFT c) (s.f (CLU_INFO_CORE_SPARES_LEFT c) - 1)
        (s.arrayCols n (36 * c + q)).seedCore p n
      | none =>
        (s.coreAway n).setF (CLU_INFO_CORES_PRESENT c)
          (s.f (CLU_INFO_CORES_PRESENT c) - 1)
    let s := s.setBit (WN_RETIRE_RETIRED c) (n % 32) true
    if p = 0xFF then s else s.bump (WN_CLASS_RETIRED (partCsr p)) 1

/-! ### Charges and verdicts (R411, R412) -/

/-- Show the charges of a core: those of the last 3,600 s of DTIME. -/
def State.showCharges (s : State) (n : Nat) : State :=
  let l := (s.hart n).charges.filter fun t => s.copyU (n / 32) < t + 3600000000000 * nsU
  (s.modHart n fun x => { x with charges := l }).setF (WN_CORE_CHARGES n) (min l.length 2)

/-- R412: a transient charge; the third within 3,600 s makes the core permanent, and the Bool says so. -/
def State.charge (s : State) (n : Nat) : State × Bool :=
  let s := (s.modHart n fun x => { x with charges := x.charges ++ [s.copyU (n / 32)] }).showCharges n
  if 3 ≤ (s.hart n).charges.length then (s.retire n, true) else (s, false)

/-- R411: the rows of the table, 0 to 8, from agreement of T with S2 and W2, of S1 and W1 with T, and of S2 with W2. -/
def verdictRow (ts tw s1 w1 sw : Bool) : Nat :=
  if ts && tw then (if !s1 && w1 then 0 else if s1 && !w1 then 1 else 2)
  else if tw then (if !s1 then 3 else 4)
  else if ts then (if !w1 then 5 else 6)
  else if sw then 7 else 8

/-- R411: event class of a row. -/
def verdictClass (row : Nat) : Nat :=
  match row with
  | 1 | 6 => clsNote
  | 3 | 5 | 8 => clsError
  | _ => clsWarning

/-- R411: the core a row names. -/
def verdictCore (row : Nat) (x : Sample) : Nat :=
  match row with
  | 1 | 5 | 6 => x.wit
  | 7 => x.third
  | _ => x.src

/-- R411: the cores a row charges with a transient. -/
def verdictCharged (row : Nat) (x : Sample) : List Nat :=
  match row with
  | 0 | 4 => [x.src]
  | 1 | 6 => [x.wit]
  | 2 => [x.src, x.wit]
  | 7 => [x.third]
  | _ => []

/-- R411, R412: a verdict on the sample that core `w` witnesses. -/
def State.verdict (s : State) (w : Nat) (row : Nat) : State :=
  match (s.hart w).slotW with
  | none => s
  | some x =>
    let b := s.wnBase x.src
    let n := verdictCore row x
    let r := (verdictCharged row x).foldl (fun t m =>
      let q := t.1.charge m
      (q.1, t.2 || q.2)) (s, false)
    let s := if row = 3 ∨ row = 5 then r.1.retire n else r.1
    let s := if row = 8 then s.bump (WN_CLASS_INDET b) 1
      else if row = 3 ∨ row = 5 ∨ r.2 then s.bump (WN_CLASS_PERMANENT b) 1 else s.bump (WN_CLASS_TRANSIENT b) 1
    (s.raiseCore (verdictClass row) 0x071 n (row + n * 16)).freeSample w

/-- R542: at keep-warm entry a sample not compared is discarded and a classification in progress ends INDETERMINATE. -/
def State.wnFlush (s : State) : State :=
  (List.range 1024).foldl (fun t w =>
    if (t.hart w).slotW.isNone then t else if t.classifying w then t.verdict w 8 else t.freeSample w) s

end Sys2Proof.Machine
end

