-- ==== Sys2Proof/Machine/States.lean ====
section
/-!
DEFINITION. Power states, caps and heat: sleeping and waking (R316, R355–R363), the cap governor (R369–R371), heat and
field trips (R373, R374), keep-warm entry (R365–R367), HBM's scheduler (R230, R234, R235) and the granary's scrub (R225).
-/

namespace Sys2Proof.Machine

/-! ### Sleeping and waking -/

/-- STEEP_ENTRY (R356): idle for STEEP_US. -/
def execSteepEntry (c : Fin 32) (s : State) : Out :=
  .next (let i := c.val
    let us := s.f (PST_TMR_STEEP_US i)
    if s.f (PST_STAT_STATE i) ≠ 0 ∨ us = 0 ∨ !s.cluIdle i then s
    else
      let t := (s.clu i).idleAt + us * 1000 * nsU
      (s.advanceCopy i t).enterSteep i)

/-- R356, R361: a written REST or OFF takes effect at the first moment the cluster is idle. -/
def State.wantDone (s : State) (c : Nat) : State :=
  if (s.clu c).offWant && s.maySleep c then s.enterOff c 0
  else if (s.clu c).restWant && s.maySleep c then s.enterRest c
  else s

/-- REST_ENTRY (R356): in Steep for REST_MS; or a written REST or OFF finds the cluster idle. -/
def State.restEntry (s : State) (c : Nat) : State :=
  if ((s.clu c).offWant || (s.clu c).restWant) && s.maySleep c then s.wantDone c
  else if s.f (PST_STAT_STATE c) = 1 ∧ s.f (PST_TMR_REST_MS c) ≠ 0 then
    (s.advanceTo ((s.clu c).steepAt + s.f (PST_TMR_REST_MS c) * 1000000 * nsU)).enterRest c
  else s

/-- REST_ENTRY (R356). -/
def execRestEntry (c : Fin 32) (s : State) : Out := .next (s.restEntry c.val)

/-- R356: a write of `PST_CTL.REST`. -/
def State.pstRest (s : State) (c : Nat) : State :=
  if s.maySleep c then s.enterRest c
  else if s.f (PST_STAT_STATE c) ≤ 1 then s.modClu c fun x => { x with restWant := true } else s

/-- PST_CTL_REST (R356). -/
def execPstCtlRest (c : Fin 32) (s : State) : Out := .next (s.pstRest c.val)

/-- PST_CTL_WAKE (R357). -/
def execPstCtlWake (c : Fin 32) (s : State) : Out := .next (s.wakeClu c.val)

/-- R361: a write of `PST_CTL.OFF`: only for a cluster in no partition. -/
def State.pstOff (s : State) (c : Nat) : State :=
  if s.partOf c ≠ 0xFF then s.setF (PST_STAT_WIGN c) 1
  else if s.f (PST_STAT_STATE c) = 2 ∨ s.maySleep c then s.enterOff c 0
  else if s.f (PST_STAT_STATE c) ≤ 1 then s.modClu c fun x => { x with offWant := true } else s

/-- PST_CTL_OFF (R361). -/
def execPstCtlOff (c : Fin 32) (s : State) : Out := .next (s.pstOff c.val)

/-- R361: a write of `PST_CTL.ON`: only out of Off with cause COMMAND. -/
def State.pstOn (s : State) (c : Nat) : State :=
  if s.f (PST_STAT_STATE c) = 3 ∧ s.f (PST_STAT_CAUSE c) = 0 then s.leaveOff c else s

/-- PST_CTL_ON (R361). -/
def execPstCtlOn (c : Fin 32) (s : State) : Out := .next (s.pstOn c.val)

/-- TICKET_RECHECK (R363): 20 µs after the last check. -/
def execTicketRecheck (c : Fin 32) (s : State) : Out :=
  .next (if (s.clu c.val).wake = 1 then (s.advanceTo ((s.clu c.val).checkAt + 20000 * nsU)).ticket c.val else s)

/-- NEIGHBOUR_THROTTLE_END (R363). -/
def execNeighbourThrottleEnd (c : Fin 32) (s : State) : Out :=
  .next (if s.on (PST_STAT_THROTTLED c.val) then
    ((s.advanceTo (s.clu c.val).throttleEnd).setF (PST_STAT_THROTTLED c.val) 0).showIssue c.val else s)

/-- REST_WAKE_READY (R359, R361). -/
def execRestWakeReady (c : Fin 32) (s : State) : Out := .next (s.wakeReady c.val)

/-- PLL_LOCK (R359 step 4). -/
def execPllLock (c : Fin 32) (s : State) : Out :=
  .next (if s.f (PST_STAT_STATE c.val) = 0 && s.on (CLK_STAT_SRC c.val) then s.setF (CLK_STAT_LOCK c.val) 1 else s)

/-- R316: the earliest launch time among the heads of the cluster's queues. -/
def State.alarmTime (s : State) (c : Nat) : Option Nat :=
  let qs := (cluHarts c).flatMap fun h => (if isSeqHart h then [ 0] else List.range 5).filterMap fun q =>
    match s.headCmd h q with
    | some k => if k.timed then some k.launch else none
    | none => none
  match qs with
  | [] => none
  | t :: r => some (r.foldl min t)

/-- R316: the keeper's alarm fires 200 ns ahead in Steep, 6,000 ns ahead in Rest. -/
def State.wakeAlarm (s : State) (c : Nat) : State :=
  match s.alarmTime c with
  | none => s
  | some t =>
    let st := s.f (PST_STAT_STATE c)
    if st ≠ 1 ∧ st ≠ 2 then s
    else
      let at_ : Int := (t : Int) - ((if st = 1 then 200 else 6000) * nsU : Nat) - s.keepOfs c
      (s.advanceTo at_.toNat).wakeClu c

/-- WAKE_ALARM (R316). -/
def execWakeAlarm (c : Fin 32) (s : State) : Out := .next (s.wakeAlarm c.val)

/-! ### The cap (R369–R371) -/

/-- R369, CAP_CTL: the classes in order: 0 links, 1 memory, 2 compute. -/
def State.capOrder (s : State) : List Nat :=
  let v := s.f CAP_CTL_ORDER
  [ v % 4, v / 4 % 4, v / 16 % 4]

/-- Floors of links, memory and compute. -/
def State.capFloor (s : State) (i : Nat) : Nat :=
  match i with
  | 0 => s.f CAP_FLOOR0_LINK_W | 1 => s.f CAP_FLOOR0_MEM_W | _ => s.f CAP_FLOOR1_CMP_W

/-- R369 step 1: floors in order while tokens remain. -/
def giveFloors (floor : Nat → Nat) : List Nat → Nat → List (Nat × Nat)
  | [], _ => []
  | i :: r, n => (i, min (floor i) n) :: giveFloors floor r (n - min (floor i) n)

/-- R369 step 2: further tokens up to the draws, in order. -/
def giveDraws (draw : Nat → Nat) (a : Nat → Nat) : List Nat → Nat → List (Nat × Nat) × Nat
  | [], n => ([], n)
  | i :: r, n =>
    let x := min (draw i - a i) n
    let y := giveDraws draw a r (n - x)
    ((i, a i + x) :: y.1, y.2)

/-- The amount of class `i` in a list. -/
def capOf (l : List (Nat × Nat)) (i : Nat) : Nat := ((l.find? fun x => x.1 = i).map Prod.snd).getD 0

/-- R369: floors given and allocations, with PSET_W tokens. -/
def State.capAlloc (s : State) (draw : Nat → Nat) : List (Nat × Nat) × List (Nat × Nat) :=
  let p := s.f DEV_PLIMIT_PSET_W
  let fl := giveFloors s.capFloor s.capOrder p
  let left := p - (fl.foldl (fun a x => a + x.2) 0)
  let g := giveDraws draw (capOf fl) s.capOrder left
  (fl, match g.1 with
    | [] => []
    | (i, v) :: r => (i, v + g.2) :: r)

/-- Clusters that run, in stook order. -/
def State.running (s : State) : List Nat := s.stook.filter fun c => s.f (PST_STAT_STATE c) ≤ 2

/-- R370: compute is cut by one step: ceiling, then issue, then park; a park waits for the one before to complete. -/
def State.cutCompute (s : State) : State :=
  let l := s.running
  let m := s.f DEV_GRADE_FMAX_MHZ
  if l.any fun c => 800 < m - 25 * (s.clu c).capCut then
    l.foldl (fun t c => if 800 < m - 25 * (t.clu c).capCut then
      (t.modClu c fun x => { x with capCut := x.capCut + 1 }).showCeil c else t) s
  else if l.any fun c => (s.clu c).issueCut < 15 then
    l.foldl (fun t c => if (t.clu c).issueCut < 15 then
      (t.modClu c fun x => { x with issueCut := x.issueCut + 1 }).showIssue c else t) s
  else if (List.range 32).any fun c => (s.clu c).capParked && s.partOf c ≠ 0xFF && s.f (PART_STAT_ABORT (partCsr (s.partOf c))) ≠ 0 then s
  else
    match l.reverse with
    | c :: _ => s.park c 2
    | [] => s

/-- R370: memory is cut by one step. -/
def State.cutMemory (s : State) : State :=
  let v := s.f CAP_STAT_MEMLIM
  if v = 0 then s.setF CAP_STAT_MEMLIM 15 else if 4 < v then s.setF CAP_STAT_MEMLIM (v - 1) else s

/-- R370: nothing of the class is left to cut. -/
def State.atLimit (s : State) (i : Nat) : Bool :=
  match i with
  | 0 => true
  | 1 => s.f CAP_STAT_MEMLIM ≠ 0 && s.f CAP_STAT_MEMLIM ≤ 4
  | _ => s.running.isEmpty

/-- R371: clusters parked for the cap that may come back, the last parked first. -/
def State.unparkable (s : State) (spare : Nat) : Option Nat :=
  s.stook.find? fun c => (s.clu c).capParked && 11 * (s.clu c).drawW < 10 * spare && !s.on (FIELD_THERM_TRIP (c / 2))

/-- R371: one cut is undone: an unpark, else issue fraction, else ceiling, else memory. -/
def State.uncut (s : State) (spare : Nat) : State :=
  if (List.range 32).any fun c => (s.clu c).capParked then
    match s.unparkable spare with
    | none => s
    | some c =>
      let s := s.modClu c fun x => { x with capParked := false }
      if (s.clu c).heatParked then s else s.leaveOff c
  else if (List.range 32).any fun c => (s.clu c).issueCut ≠ 0 then
    (List.range 32).foldl (fun t c => (t.modClu c fun x => { x with issueCut := x.issueCut - 1 }).showIssue c) s
  else if (List.range 32).any fun c => (s.clu c).capCut ≠ 0 then
    (List.range 32).foldl (fun t c => (t.modClu c fun x => { x with capCut := x.capCut - 1 }).showCeil c) s
  else
    let v := s.f CAP_STAT_MEMLIM
    if v = 0 then s else if v = 15 then s.setF CAP_STAT_MEMLIM 0 else s.setF CAP_STAT_MEMLIM (v + 1)

/-- CAP_STAT: the deepest cut in force, and the clusters parked. -/
def State.showCap (s : State) : State :=
  let any (p : Clu → Bool) : Bool := (List.range 32).any fun c => p (s.clu c)
  let st := if s.f CAP_STAT_MEMLIM ≠ 0 then 4 else if any fun x => x.capParked then 3
    else if any fun x => x.issueCut ≠ 0 then 2 else if any fun x => x.capCut ≠ 0 then 1 else 0
  (s.setF CAP_STAT_STAGE st).setF CAP_STAT_PARKED ((List.range 32).countP fun c => (s.clu c).capParked)

/-- R369–R371: one evaluation, with the draws of links, memory and compute and of each running cluster. -/
def State.capEval (s : State) (link mem cmp : Nat) (clu : List Nat) : State :=
  if s.vpm.govOff then (if s.f DEV_PLIMIT_PSET_W < link + mem + cmp then s.setF CAP_STAT_UNMET 1 else s)
  else
    let s := (s.advanceTo s.vpm.capAt).toMultiple 100000
    let s := s.setVpm fun v => { v with capAt := s.dtime + 1 }
    let draw (i : Nat) : Nat := match i with | 0 => link | 1 => mem | _ => cmp
    let pin := link + mem + cmp
    let pset := s.f DEV_PLIMIT_PSET_W
    let s := s.running.foldl (fun t c => t.modClu c fun x => { x with drawW := clu.getD c 0 }) s
    let (fl, al) := s.capAlloc draw
    let cut := [ 0, 1, 2].any fun i => capOf fl i < s.capFloor i
    let spare := pset - pin
    let s := (((((s.setF PWR_IN_PIN_W pin).setF CAP_STAT_FLOORCUT (bool1 cut)).setF CAP_ALLOC0_LINK_W (capOf al 0)).setF
      CAP_ALLOC0_MEM_W (capOf al 1)).setF CAP_ALLOC1_CMP_W (capOf al 2)).setF CAP_ALLOC1_SPARE_W spare
    let acct (l : Store Nat) : Store Nat :=
      ledgerWrite (ledgerWrite (ledgerWrite (ledgerWrite l lPower (capOf al 0)) (lPower + 1) (capOf al 1)) (lPower + 2)
        (capOf al 2)) (lPower + 3) pset
    let s := s.modPart devPart fun x => { x with ledger := acct x.ledger }
    let above (i : Nat) : Bool := capOf al i < draw i && capOf fl i < draw i
    let stuck := pset < pin && [ 1, 2].all fun i => !above i || s.atLimit i
    let s := if above 1 && !s.atLimit 1 then s.cutMemory else s
    let s := if above 2 && !s.atLimit 2 then s.cutCompute else s
    let s := s.setVpm fun v => { v with rebuild := false, okN := if 100 * pin ≤ 97 * pset then v.okN + 1 else 0 }
    let s := if stuck then (if s.on CAP_STAT_UNMET then s else (s.setF CAP_STAT_UNMET 1).raise clsWarning 0x056 0xFF 5 0 pin)
      else if pin ≤ pset then s.setF CAP_STAT_UNMET 0 else s
    (if 10 ≤ s.vpm.okN then s.uncut spare else s).showCap

/-- CAP_EVALUATION (R369): every 100 µs. -/
def execCapEvaluation (link mem cmp : Nat) (clu : List Nat) (s : State) : Out := .next (s.capEval link mem cmp clu)

/-! ### Heat (R373, R374) -/

/-- R373: a cluster's hottest junction sensor. -/
def State.heatClu (s : State) (c temp : Nat) : State :=
  let x := s.clu c
  let was := s.on (CLU_THERM_HOT c)
  let s := (s.setF (CLU_THERM_TEMP_C c) (min temp 255)).setF (CLU_THERM_HOT c) (bool1 (100 ≤ temp))
  let s := s.modClu c fun y => { y with
    hotN := if 110 ≤ temp then y.hotN + 1 else 0, coolN := if y.heatParked && temp < 90 then y.coolN + 1 else 0,
    heatCut := if 100 ≤ temp then (if 800 < s.f DEV_GRADE_FMAX_MHZ - 25 * y.heatCut then y.heatCut + 1 else y.heatCut)
      else y.heatCut - 1 }
  let s := s.showCeil c
  let s := if 100 ≤ temp ∧ !was then s.raiseClu clsWarning 0x057 c temp else s
  if 11 ≤ (s.clu c).hotN ∧ !x.heatParked ∧ s.f (PST_STAT_STATE c) ≠ 3 then (s.park c 1).raiseClu clsError 0x057 c temp
  else if 1001 ≤ (s.clu c).coolN then
    (s.modClu c fun y => { y with heatParked := false, coolN := 0 }).leaveOff c
  else s

/-- R373, R374: a field's hottest sensor. -/
def State.heatField (s : State) (f temp : Nat) : State :=
  let s := s.setF (FIELD_THERM_TEMP_C f) (min temp 255)
  let s := s.modFld f fun x => { x with
    tripN := if 120 ≤ temp then x.tripN + 1 else 0,
    coolN := if s.on (FIELD_THERM_TRIP f) && temp < 100 then x.coolN + 1 else 0 }
  if 2 ≤ (s.fld f).tripN then s.fieldTrip f
  else if (s.fld f).coolN = 10001 then s.fieldRestore f else s

/-- THERMAL_SAMPLE (R373): every 100 µs, the hottest sensors of the 32 clusters and the 16 fields. -/
def execThermalSample (clu fields : List Nat) (s : State) : Out :=
  .next (let s := (s.advanceTo s.vpm.heatAt).toMultiple 100000
    let s := s.setVpm fun v => { v with heatAt := s.dtime + 1 }
    let s := (List.range 32).foldl (fun t c => t.heatClu c (clu.getD c 0)) s
    (List.range 16).foldl (fun t f => t.heatField f (fields.getD f 0)) s)

/-! ### Keep-warm entry (R365–R367) -/

/-- PWR_WARN_LOW (R365, R533): low for 10 µs. -/
def execPwrWarnLow (s : State) : Out :=
  .next (((s.setF MOD_PINS_PWRWARN 0).setVpm fun v => { v with warnLow := true }) |> fun s =>
    if s.coldStarting then (if s.f BOOT_STAT_STEP ≤ 3 then s else s.startFail 4 0)
    else if s.vpm.good then s.kwEnter 0 else s)

/-- PWR_WARN_HIGH (R368). -/
def execPwrWarnHigh (s : State) : Out :=
  .next ((s.setF MOD_PINS_PWRWARN 1).setVpm fun v => { v with warnLow := false, warnHighAt := s.dtime })

/-- KEEPWARM_ENTRY (R365, R367): with its cause as `KW_STAT.CAUSE` codes it. -/
def execKeepwarmEntry (cause : Fin 6) (s : State) : Out := .next (s.kwEnter cause.val)

/-- DEVICE_ABORT_END (R425, R367, R518): the device abort ends; a keep-warm entry goes on to self refresh and rail removal,
and a restart begins. -/
def execDeviceAbortEnd (s : State) : Out :=
  .next (if s.vpm.devAbort then
      let s := (if s.f KW_STAT_STATE = 1 then s.deviceAbortEnd.wnFlush else s.deviceAbortEnd).kwFinish
      if s.boot.restart = 0 then s else s.restartBegin
    else s)

/-- KW_ENTER (R365). -/
def execKwEnter (s : State) : Out := .next (s.kwEnter 2)

/-! ### HBM and granary (R225, R230, R234, R235) -/

/-- HBM_TEMPERATURE_READ (R234): each 1 ms. -/
def execHbmTemperatureRead (st : Fin 24) (temp : Nat) (s : State) : Out :=
  .next (let p := stackField st.val
    if !s.stackOk st.val then s
    else
      let was := s.on (HBM_STAT_THROT p.1 p.2)
      let s := (s.setF (HBM_STAT_TEMP_C p.1 p.2) (min temp 255)).setF (HBM_STAT_HOTREF p.1 p.2) (bool1 (85 ≤ temp))
      if 100 ≤ temp then
        if was then s else (s.setF (HBM_STAT_THROT p.1 p.2) 1).raise clsWarning 0x021 0xFF 4 st.val temp
      else if temp < 95 then s.setF (HBM_STAT_THROT p.1 p.2) 0
      else s)

/-- HBM_ECC_REPORT (R235): each 100 ms: errors the device corrected, words it found uncorrectable, and errors the stack
alone reported. -/
def execHbmEccReport (st : Fin 24) (ce odecc : Nat) (ue : List Nat) (s : State) : Out :=
  .next (let p := stackField st.val
    if !s.stackOk st.val then s
    else
      let s := (s.bump (HBM_ECC_CE p.1 p.2) ce).bump (HBM_ECC_ODECC p.1 p.2) odecc
      let s := (ue.filter fun o => (hbmPlace (s.f HBM_MAP_LOCAL) o).1 = st.val).foldl (fun t o =>
        let w := devAddr 0 (o / 32 * 32)
        { t with poison := if t.poison.contains w then t.poison else t.poison ++ [w] }.countUe w) s
      if 1000 < odecc then s.raise clsWarning 0x021 0xFF 4 st.val odecc else s)

/-- REFRESH_MANAGEMENT (R230): the scheduler issues what the stack requests; `HBM_STAT.RFM` counts it. -/
def execRefreshManagement (st : Fin 24) (s : State) : Out :=
  .next (let p := stackField st.val
    if s.stackOk st.val then s.bump (HBM_STAT_RFM p.1 p.2) 1 else s)

/-- GRANARY_SCRUB (R225): slice and line of a granary, how many of its words have a correctable error, those
found with an uncorrectable one beside those that have it already, and whether the line ends a pass. -/
def execGranaryScrub (c : Fin 32) (off ce : Nat) (ue : List (Fin 4)) (last : Bool) (s : State) : Out :=
  .next (if s.f (GRN_SCRUB_PASS_MS c.val) = 0 || s.on (GRN_STAT_ABSENT c.val) then s
    else
      let base := off / 128 * 128
      let s := s.bump (GRN_ECC_CE c.val) ce
      let s := (List.range 4).foldl (fun t i =>
        let w := granaryAddr c.val (base + 32 * i)
        if t.poison.contains w then t.countUe w
        else if ue.any fun j => j.val = i then { t with poison := t.poison ++ [ w] }.countUe w
        else t) s
      if last then s.bump (GRN_SCRUB_PASSES c.val) 1 else s)

end Sys2Proof.Machine
end

