-- ==== Sys2Proof/Machine/Matrix.lean ====
section
/-!
DEFINITION. The matrix array (R66–R101): running a pass, loading weights and the activity ramp. A pass runs as one
step: bubbles and uncorrectable errors met are what its row is given.
-/

namespace Sys2Proof.Machine

/-! ### Passes into the accumulator (R88–R90) -/

/-- Rows added to a region (R49, R50, R64): the state, the flags this adds and the saturated results, in which a grain whose
additions saturate counts once (R52). -/
def State.addRows (s : State) (n g hb : Nat) (cells : List Cell) : State × Flags × Nat :=
  cells.zipIdx.foldl (fun (t : State × Flags × Nat) (c, i) =>
    let r := grainSat (t.1.grain n g i + c.g)
    (t.1.setGrain n g i r.1, t.2.1.or (c.fl.or ⟨r.2, false, guardHit hb r.1, false⟩), t.2.2 + c.nsat + bool1 (c.asat || r.2)))
    (s, Flags.zero, 0)

/-- One region of a pass: opened with clear or accumulated into, and closed where the pass declares it. -/
def State.passRegion (s : State) (n g : Nat) (f : MqF) (cells : List Cell) : State × Flags :=
  let s := if f.clear then (s.clearRegion n g).openClear n g f.scale f.hb else s
  let s := s.setF (GSTAT_OPEN n g) 1
  let r := s.addRows n g (s.f (GSTAT_GUARD_HB n g)) cells
  let s := (r.1.orRegionFlags n g r.2.1).bump (GSTAT_SAT_COUNT n g) r.2.2
  (if f.close then s.setF (GSTAT_OPEN n g) 0 else s, r.2.1)

/-- R405, R406, R408: the winnow unit that a pass writes to one region: G steps, and a selected unit is captured. -/
def State.winnowUnit (s : State) (n : Nat) (k : Cmd) (g : Geom) (w : WeightSet) (u : Nat) (cells : List Cell)
    (ue : Bool) : State :=
  let p := s.partOf (n / 32)
  let x := genStep (s.hart n).gen
  let s := s.modHart n fun y => { y with gen := x }
  if p = 0xFF ∨ ue ∨ !genSelects (s.f (WN_CFG_LOG2F (partCsr p))) x then s
  else
    let a := (fmtOf k.mq.afmt).getD .int8
    let rows := cells.length / 64
    let len := rows * g.k * a.bits / 8
    s.capture n {
      src := n, wit := 0, third := 0, words := k.words, region := k.mq.gb + u, nrows := rows,
      act := s.runBytes n k.mq.ta (64 * u * (g.k * a.bits / 8)) len,
      actScale := s.runScales a n k.mq.ta (64 * u * g.k / 32) (rows * g.k / 32),
      wts := w, rows := cells.map Cell.g, flags := cellFlags cells, landed := 0 }

/-- The regions of a pass, in order. -/
def State.passRegions (s : State) (n : Nat) (k : Cmd) (g : Geom) (w : WeightSet) (ue : Bool) : State × Flags :=
  let f := k.mq
  let a := s.opnd n f.ta ((fmtOf f.afmt).getD .int8)
  (List.range f.outUnits).foldl (fun t u =>
    let cells := drainRows k.op f.scale g.k a w.opnd (64 * u) (min 64 (f.m - 64 * u))
    let r := (t.1.winnowUnit n k g w u cells ue).passRegion n (f.gb + u) f cells
    let s := if ue then r.1.freeRegion n (f.gb + u) else r.1
    (s, t.2.or r.2)) (s, Flags.zero)

/-! ### Passes into tile registers (R94, R95) -/

/-- One output of MAXPLUS or MINPLUS written to its tile: the state and what it adds to SAT and NONFIN. -/
def State.plusOut (s : State) (n : Nat) (k : Cmd) (f : Fmt) (x : Ext) (i : Nat) : State × Flags :=
  let t := k.mq.tout + i / 4096
  let y := if k.mq.acc then plusAcc f (k.op = 5) (s.elem f n t (i % 4096)) x else x
  (s.setElem f n t (i % 4096) y.bits, ⟨y.sat, y.nonfin, false, false⟩)

/-- R95: the output tiles of a MAXPLUS or MINPLUS pass. -/
def State.passTiles (s : State) (n : Nat) (k : Cmd) (g : Geom) (w : WeightSet) : State × Flags :=
  let f := (fmtOf k.mq.afmt).getD .int8
  let a := s.opnd n k.mq.ta f
  let outs := (List.range k.mq.m).flatMap fun m => (List.range 64).map fun c => plusCell (k.op = 5) g.k a w.opnd m c
  let r := outs.zipIdx.foldl (fun t (x, i) =>
    let q := t.1.plusOut n k f x i
    (q.1, t.2.or q.2)) (s, Flags.zero)
  if f = .e4m3 then
    ((List.range k.mq.outUnits).foldl (fun t u =>
      (List.range 128).foldl (fun v b => v.setPlane n (k.mq.tout + u) b 0x7F) t) r.1, r.2)
  else r

/-! ### A pass -/

/-- R76, R89: what stops a pass when it starts: KEEP without a set of its mode and format, or an accumulating pass
whose scale differs from a region's. -/
def State.passBad (s : State) (n : Nat) (k : Cmd) : Bool :=
  let f := k.mq
  let keepBad :=
    match (s.hart n).active with
    | some w => w.op ≠ k.op || w.fmt ≠ f.wfmt
    | none => true
  (f.keep && keepBad) ||
    (!isPlus k.op && !f.clear && (List.range f.outUnits).any fun u => s.fInt (GSTAT_SCALE n (f.gb + u)) ≠ f.scale)

/-- The weight set of a pass: kept, loaded ahead for it (R72, R73), or loaded now (R75). -/
def State.passWeights (s : State) (n : Nat) (k : Cmd) (g : Geom) : WeightSet :=
  let fresh := s.wset k.op ((fmtOf k.mq.wfmt).getD .int8) n k.mq.tw g.wt
  if k.mq.keep then (s.hart n).active.getD fresh
  else if (s.hart n).standbyFor = k.id then (s.hart n).standby.getD fresh else fresh

/-- The standby registers once pass `k` has taken, or been refused, the set that was loaded for it. -/
def Hart.spent (x : Hart) (k : Cmd) : Option WeightSet := if x.standbyFor = k.id then none else x.standby

/-- R66–R95, R101, R170: core `n` runs the oldest issued pass of opcode `op`, with `bub` bubbles; `ue` says that an
operand read, weight load or accumulator access met an uncorrectable error. -/
def State.runPass (s : State) (n op bub : Nat) (ue : Bool) : State :=
  match s.issuedCmd n 0 op with
  | none => s
  | some k =>
    if !s.cluRuns (n / 32) then s
    else
      match k.mqGeo with
      | none => s
      | some g =>
        if s.passBad n k then (s.stopCmd n k.id .range).modHart n fun x => { x with standby := x.spent k }
        else
          let w := s.passWeights n k g
          let s := (s.warmArray n).modHart n fun x => { x with active := some w, standby := x.spent k }
          let s := ((s.setF (ARRAY_STATE_GATED n) (w.gated g.k)).bump (ARRAY_VALID_VALID n) k.mq.m).bump
            (ARRAY_BUBBLE_BUBBLE n) bub
          let r := if isPlus op then s.passTiles n k g w else s.passRegions n k g w ue
          let s := if isPlus op && ue then r.1.freeRows n k.mq.tout k.mq.m ((fmtOf k.mq.afmt).getD .int8) else r.1
          (s.ranCmd n k.id ((if r.2.sat then [Status.sat] else []) ++ if ue then [Status.ecc] else []) r.2 k.mq.m).touch
            (n / 32)

/-- MQ_MUL (R66). -/
def execMqMul (n : Fin 1024) (bub : Nat) (ue : Bool) (s : State) : Out := .next (s.runPass n.val 1 bub ue)
/-- L1 (R92). -/
def execL1 (n : Fin 1024) (bub : Nat) (ue : Bool) (s : State) : Out := .next (s.runPass n.val 2 bub ue)
/-- L2 (R92). -/
def execL2 (n : Fin 1024) (bub : Nat) (ue : Bool) (s : State) : Out := .next (s.runPass n.val 3 bub ue)
/-- CMPCOUNT (R92). -/
def execCmpcount (n : Fin 1024) (bub : Nat) (ue : Bool) (s : State) : Out := .next (s.runPass n.val 4 bub ue)
/-- MAXPLUS (R94). -/
def execMaxplus (n : Fin 1024) (bub : Nat) (ue : Bool) (s : State) : Out := .next (s.runPass n.val 5 bub ue)
/-- MINPLUS (R94). -/
def execMinplus (n : Fin 1024) (bub : Nat) (ue : Bool) (s : State) : Out := .next (s.runPass n.val 6 bub ue)
/-- HAMMING (R92). -/
def execHamming (n : Fin 1024) (bub : Nat) (ue : Bool) (s : State) : Out := .next (s.runPass n.val 7 bub ue)

/-! ### Weight loads and the ramp -/

/-- WEIGHT_LOAD (R72, R74): the next weight set enters the standby registers. -/
def execWeightLoad (n : Fin 1024) (s : State) : Out :=
  .next (if !s.loadGoes n.val then s
    else
      match s.nextLoad n.val with
      | none => s
      | some k => s.modHart n.val fun x => { x with
          standby := some (s.wset k.op ((fmtOf k.mq.wfmt).getD .int8) n.val k.mq.tw ((k.mqGeo.map Geom.wt).getD 2)),
          standbyFor := k.id })

/-- ARRAY_COLD (R84): no row slot has entered for 10,000 ns. -/
def execArrayCold (n : Fin 1024) (s : State) : Out :=
  .next (if s.coldArray n.val || s.on (ARRAY_STATE_RAMPING n.val) then s
    else
      let s := s.advanceCopy (n.val / 32) ((s.hart n.val).lastSlot + 10000 * nsU)
      (s.setF (ARRAY_STATE_COLD n.val) 1).setF (ARRAY_STATE_GROUPS n.val) 0)

/-- A pass has issued and waits for its first row slot. -/
def State.passWaits (s : State) (n : Nat) : Bool := (s.qCmds n 0).any fun k => k.phase = .issued

/-- COLUMN_GROUP_ENABLE (R85, R86): the next column group, or all of them where a heavy window was announced. -/
def execColumnGroupEnable (n : Fin 1024) (s : State) : Out :=
  .next (if s.on (ARRAY_STATE_RAMPING n.val) then
      let g := s.f (ARRAY_STATE_GROUPS n.val)
      if 8 ≤ g then s
      else (s.advanceCopy (n.val / 32) ((s.hart n.val).rampAt + 250 * g * nsU)).setF (ARRAY_STATE_GROUPS n.val) (g + 1)
    else if s.coldArray n.val && s.passWaits n.val then
      (if s.announced (n.val / 32) then (s.setF (ARRAY_STATE_COLD n.val) 0).setF (ARRAY_STATE_GROUPS n.val) 8
       else (s.rampStart n.val).setF (ARRAY_STATE_GROUPS n.val) 1)
    else s)

/-- FIRST_SLOT_ADMIT (R85): 2,000 ns after the ramp began. -/
def execFirstSlotAdmit (n : Fin 1024) (s : State) : Out :=
  .next (if s.on (ARRAY_STATE_RAMPING n.val) then s.warmArray n.val else s)

end Sys2Proof.Machine
end

