-- ==== Sys2Proof/Machine/Winnow.lean ====
section
/-!
DEFINITION. Winnow rows (R408–R412), retirement (R413), glean windows (R415, R416), and the rows of aborts and audits
(R422–R424).
-/

namespace Sys2Proof.Machine

/-- WINNOW_COPY_LANDING (R408): the copy of core `n`'s sample is in its witness's slot W. -/
def execWinnowCopyLanding (n : Fin 1024) (s : State) : Out :=
  .next (match (s.hart n.val).slotO with
    | none => s
    | some x =>
      if x.landed ≠ 0 then s
      else
        let t := max 1 (s.copyU (n.val / 32))
        let set (o : Option Sample) : Option Sample := o.map fun y => if y.src = n.val then { y with landed := t } else y
        (s.modHart n.val fun y => { y with slotO := set y.slotO }).modHart x.wit fun y => { y with slotW := set y.slotW })

/-- WITNESS_RUN (R409): witness `w` runs its sample while its MQ is empty. `errs` are results that a failing array gives. -/
def execWitnessRun (w : Fin 1024) (errs : List (Nat × Int)) (s : State) : Out :=
  .next (match (s.hart w.val).slotW with
    | none => s
    | some x =>
      if x.landed = 0 || (s.hart w.val).witFlags.isSome || s.classifying w.val || !s.wnIdle w.val then s
      else
        let r := withErrs x.run errs
        (s.warmArray w.val).modHart w.val fun y => { y with witRows := r.1, witFlags := some r.2 })

/-- WINNOW_COMPARE (R410): witness `w`'s rows and flags against the source's; `ue`: a slot held an uncorrectable error. -/
def execWinnowCompare (w : Fin 1024) (ue : Bool) (s : State) : Out :=
  .next (match (s.hart w.val).slotW, (s.hart w.val).witFlags with
    | some x, some g =>
      let b := s.wnBase x.src
      if s.classifying w.val then s
      else if ue then ((s.wnPend x.src false).bump (WN_STAT_SKIPPED b) 1).freeSample w.val
      else if (s.hart w.val).witRows = x.rows ∧ g = x.flags then
        ((s.wnPend x.src false).bump (WN_STAT_SAMPLES b) 1).freeSample w.val
      else
        let s := ((s.wnPend x.src false).bump (WN_STAT_MISMATCH b) 1).raiseCore clsWarning 0x070 x.src w.val
        let s :=
          if x.third < 1024 ∧ (s.hart x.third).slotC.isNone then s.modHart x.third fun y => { y with slotC := some x }
          else s.verdict w.val 8
        if s.on (WN_CFG_AUTOABORT b) then s.abort (s.partOf (x.src / 32)) else s
    | _, _ => s)

/-- SAMPLE_EXPIRY (R409): 10 ms after its landing the sample of witness `w` has not run. -/
def execSampleExpiry (w : Fin 1024) (s : State) : Out :=
  .next (match (s.hart w.val).slotW with
    | none => s
    | some x =>
      if x.landed = 0 || (s.hart w.val).witFlags.isSome then s
      else
        let s := s.advanceCopy (w.val / 32) (x.landed + 10000000 * nsU)
        ((s.wnPend x.src false).bump (WN_STAT_SKIPPED (s.wnBase x.src)) 1).freeSample w.val)

/-- CLASSIFICATION_VERDICT (R411): the three reruns are complete, with the errors each array made; `ue`: one of them met an
uncorrectable error. -/
def execClassificationVerdict (w : Fin 1024) (se we te : List (Nat × Int)) (ue : Bool) (s : State) : Out :=
  .next (match (s.hart w.val).slotW, (s.hart w.val).witFlags with
    | some x, some g =>
      if !s.classifying w.val then s
      else if ue then s.verdict w.val 8
      else
        let s1 := (x.rows, x.flags)
        let w1 := ((s.hart w.val).witRows, g)
        let s2 := withErrs x.run se
        let w2 := withErrs x.run we
        let t := withErrs x.run te
        s.verdict w.val (verdictRow (t = s2) (t = w2) (s1 = t) (w1 = t) (s2 = w2))
    | _, _ => s)

/-- CLASSIFICATION_TIMEOUT (R411): a rerun has not completed within 10 ms. -/
def execClassificationTimeout (w : Fin 1024) (s : State) : Out :=
  .next (if s.classifying w.val then s.verdict w.val 8 else s)

/-- CHARGE_EXPIRY (R412): the oldest charge of core `n` passes 3,600 s. -/
def execChargeExpiry (n : Fin 1024) (s : State) : Out :=
  .next (match (s.hart n.val).charges with
    | [] => s
    | t :: _ => (s.advanceCopy (n.val / 32) (t + 3600000000000 * nsU)).showCharges n.val)

/-- WN_SEED_WRITE (R406). -/
def execWnSeedWrite (p : Fin 32) (v : BitVec 32) (s : State) : Out :=
  .next (if (s.part p.val).held then (s.setF (WN_SEED_SEED (partCsr p.val)) v.toNat).seedPart p.val else s)

/-- R413: a write of 1 to `WN_CORE.RETIRE`. -/
def State.retireWrite (s : State) (n : Nat) : State :=
  if s.absent n then s else (s.setF (WN_CORE_RETIRE n) 1).retire n

/-- WN_CORE_RETIRE (R413). -/
def execWnCoreRetire (n : Fin 1024) (s : State) : Out := .next (s.retireWrite n.val)

/-- RETIREMENT_REMAP (R413). -/
def execRetirementRemap (n : Fin 1024) (s : State) : Out := .next (s.remapStart n.val)

/-- R97, R99: the columns that the array of the spare of core `n`'s cluster leaves out, from the map formed at start. -/
def State.spareCols (s : State) (n : Nat) : Option (Nat × Nat) :=
  (s.spare (n / 32)).map fun q =>
    let m := s.boot.colMaps.get noCols (36 * (n / 32) + q)
    (m % 128, m / 128)

/-- REMAP_END (R413). A report of columns other than those of the spare's map is none that can arrive (log entry 49). -/
def execRemapEnd (n : Fin 1024) (badA badB : Nat) (s : State) : Out :=
  .next (if (s.spareCols n.val).all fun m => m = (badA, badB) then s.remapFinish n.val else s)

/-! ### Glean windows (R415, R416) -/

/-- R415: core `n` may run a window. -/
def State.gleanReady (s : State) (n : Nat) : Bool :=
  let c := n / 32
  let p := s.partOf c
  p ≠ 0xFF && s.on (WN_CFG_GLEAN (partCsr p)) && !s.absent n && (s.hart n).remap.isNone && (s.hart n).gleanEnd.isNone
    && s.f (CC_STAT_STATE n) = 0 && s.f (PST_STAT_STATE c) ≤ 1 && s.cluIdle c && s.boot.packKernels ≠ 0

/-- R416: a kernel failed; `twice` its second run too. Each failure raises a Warning. -/
def State.gleanFail (s : State) (n kern : Nat) (twice : Bool) : State :=
  let s := s.raiseCore clsWarning 0x073 n kern
  if twice then (s.raiseCore clsWarning 0x073 n kern).retire n else (s.charge n).1

/-- GLEAN_WINDOW (R415, R416): core `n`, once due, runs `ks` kernels of the pack; `fails` are kernels that differed, with the
outcome of the second run. -/
def execGleanWindow (n : Fin 1024) (ks : Nat) (fails : List (Nat × Bool)) (s : State) : Out :=
  .next (if !s.gleanReady n.val then s
    else
      let c := n.val / 32
      let b := s.wnBase n.val
      let s := s.advanceCopy c ((s.hart n.val).gleanAt + s.f (WN_CFG_GL_PERIOD_S b) * 1000000000 * nsU)
      let steep := s.f (PST_STAT_STATE c) = 1
      let idle := (s.clu c).idleAt
      let s := if steep then (s.wakeSteep c).modClu c fun x => { x with idleAt := idle } else s
      let s := s.modHart n.val fun x => { x with
        gleanEnd := some (s.copyU c + s.f (WN_CFG_GL_WIN_MS b) * 1000000 * nsU), gleanSteep := steep,
        gleanPos := (x.gleanPos + ks) % s.boot.packKernels }
      let s := (s.setF (WN_CORE_WIPED n.val) 1).bump (WN_CORE_WINDOWS n.val) 1
      let s := (List.range 80).foldl (fun t u => t.freeUnit n.val u) s
      fails.foldl (fun t e => t.gleanFail n.val e.1 e.2) s)

/-- GLEAN_WINDOW_END (R415). -/
def execGleanWindowEnd (n : Fin 1024) (s : State) : Out :=
  .next (match (s.hart n.val).gleanEnd with
    | none => s
    | some e =>
      let c := n.val / 32
      let back := (s.hart n.val).gleanSteep
      let s := s.gleanCut n.val
      let s := (s.advanceCopy c e).modHart n.val fun x => { x with gleanAt := max x.gleanAt e, gleanSteep := false }
      if back && s.f (PST_STAT_STATE c) = 0 && s.cluIdle c then s.enterSteep c else s)

/-! ### Aborts and audits -/

/-- PART_CTL_ABORT (R423). -/
def execPartCtlAbort (p : Fin 32) (s : State) : Out := .next (s.abort p.val)
/-- ABORT_WRITEOFF (R424 step 3). -/
def execAbortWriteoff (p : Fin 32) (s : State) : Out := .next (s.writeOff p.val)
/-- ABORT_RECONCILE (R424 step 4). -/
def execAbortReconcile (p : Fin 32) (s : State) : Out := .next (s.reconcile p.val)
/-- PART_CTL_LEDGER_AUDIT (R422). -/
def execPartCtlLedgerAudit (p : Fin 32) (s : State) : Out := .next (s.auditStart p.val)
/-- LEDGER_STAT_AUDIT (R422). -/
def execLedgerStatAudit (s : State) : Out := .next s.devAuditStart
/-- AUDIT_VERDICT (R422): of partition `p`, or of the device for 32. -/
def execAuditVerdict (p : Fin 33) (s : State) : Out := .next (if p.val = 32 then s.devAuditEnd else s.auditEnd p.val)

end Sys2Proof.Machine
end

