-- ==== Sys2Proof/Machine/CsrFx.lean ====
section
/-!
DEFINITION. Register writes with what they trigger (R10, R31): append pointers (R208), sheaves (R264, R268), barriers
(R325), the summary of a cluster on its oscillator (R155), starting a sequencer (R307), clock limits (R3, R303), power states, aborts and audits, rings (R431), posts, and
keep-warm (R365, R368); and the rows that are one register write.
-/

namespace Sys2Proof.Machine

/-! ### Operations that a write starts -/

/-- R406, R421: a partition's sequencers start for the first time: its cores are seeded and its accounts open at zero. -/
def State.firstStart (s : State) (p : Nat) : State :=
  if p = 0xFF ∨ (s.part p).opened then s
  else (s.modPart p fun x => { x with opened := true, ledger := [] }).seedPart p

/-- R307, R357: a START write to a sequencer. -/
def State.seqCtlStart (s : State) (c : Nat) : State :=
  if s.f (CC_STAT_STATE (1024 + c)) = 1 then s.raiseClu clsWarning 0x012 c 0
  else ((s.firstStart (s.partOf c)).startSeq c).wakeClu c

/-- R368: resumption from keep-warm is asked for; refused while PWR_WARN# is low. It is warm where step 14 of the last cold
start had completed (R401). -/
def State.resume (s : State) : State :=
  if s.f KW_STAT_STATE ≠ 2 then s
  else if s.vpm.warnLow || !s.on MOD_PINS_PWRWARN then s.raise clsWarning 0x058 0xFF 5 0 (s.f KW_STAT_CAUSE)
  else
    let s := ((s.setF KW_STAT_STATE 3).setF BOOT_STAT_WARM (bool1 s.boot.maps14)).setF BOOT_STAT_STEP (if s.boot.maps14 then 1 else 4)
    let s := ((s.setF BOOT_STAT_READY 0).setF BOOT_STAT_FALLBACK 0).setF BOOT_STAT_FAIL 0
    let s := (List.range 32).foldl (fun t p =>
      let b := partCsr p
      ((t.setF (WN_STAT_SAMPLES b) 0).setF (WN_STAT_MISMATCH b) 0).setF (WN_STAT_SKIPPED b) 0) s
    { s with boot := { s.boot with powerAt := s.dtime } }.timeStart

/-- R431: the ring whose registers lie at `b`, of partition `p` or of the device (32): a setting outside its ranges sets
SIZE to 0 with a Warning. -/
def State.ringCheck (s : State) (b p : Nat) : State :=
  let n := s.f (EV_RINGH_SIZE b)
  let base := s.f (EV_RINGL_BASE_LO b) + 2 ^ 32 * s.f (EV_RINGH_BASE_HI b)
  let len := 32 * n
  let ok := if p = 32 then
      base + len ≤ 0x30000000000 && s.heldParts.all fun q => (s.part q).hbm.all fun r => base + len ≤ r.1 || r.2 < base
    else (s.part p).hbm.any fun r => r.1 ≤ base && base + len ≤ r.2 + 1
  if n = 0 ∨ ok then s
  else (s.setF (EV_RINGH_SIZE b) 0).raise clsWarning 0x005 (if p = 32 then 0xFF else p) 11 0 base

/-- R208: pointer `a` of mover `m` may be written. -/
def State.apIdle (s : State) (n m a : Nat) : Bool :=
  !s.on (AP_STAT_OPEN n m a) &&
    !(s.qCmds n (2 + m)).any fun k => (k.op = 4 || k.op = 5) && k.aptr = a

/-- R264, R268: a write of `SHF_CTL`; one that sets both bits is ignored. -/
def State.shfCtl (s : State) (c i : Nat) (w : Word) : State :=
  match wbits w 0 2 with
  | 1 => s.arm c i none
  | 2 => if s.f (SHF_STAT_STATE c i) = 2 then s.shCancel c i else s
  | _ => s

/-- R355–R361: a write of `PST_CTL`. -/
def State.pstCtl (s : State) (c : Nat) (w : Word) : State :=
  let s := if wbits w 0 1 = 1 then s.wakeClu c else s
  let s := if wbits w 1 1 = 1 then s.pstRest c else s
  let s := if wbits w 2 1 = 1 then s.pstOff c else s
  if wbits w 3 1 = 1 then s.pstOn c else s

/-- R444: slots up to HEAD are ready to send. -/
def State.txHead (s : State) (c : Nat) : State := s.modClu c fun x => { x with txReady := s.f (TX_IDX_HEAD c) }

/-- What a write of `w` at offset `r` of a cluster's block triggers, once the fields hold their values. -/
def State.cluFx (s : State) (c r : Nat) (w : Word) : State :=
  if r = 0x300 then
    let s := if s.on (REG_VT_RAISING c) && s.topPoint c < (s.clu c).raiseTo then s.cancelRaise c else s
    if s.f DEV_GRADE_FMAX_MHZ < wbits w 0 12 then s.raiseClu clsWarning 0x005 c (wbits w 0 12) else s
  else if r = 0x404 then if wbits w 31 1 = 1 then s.ocRelease c else s
  else if r = 0x504 then s.pstCtl c w
  else if r = 0x1000 then if wbits w 31 1 = 1 then s.seqCtlStart c else s
  else if r = 0x1508 then s.clkInt (1024 + c)
  else if 0x1100 ≤ r ∧ r < 0x1180 ∧ r % 16 = 0 then if wbits w 31 1 = 1 then s.barrier c ((r - 0x1100) / 16) else s
  else if r = 0x1C00 then s.oxPost c (wbits w 0 4)
  else if r = 0x1F00 then s.barnPost false c (wbits w 0 3)
  else if r = 0x1D04 then s.txHead c
  else if 0x22000 ≤ r ∧ r < 0x22800 ∧ r % 8 = 0 then s.shfCtl c ((r - 0x22000) / 8) w
  else s

/-- What a write triggers in a partition's registers (R423, R406, R431). -/
def State.partFx (s : State) (p r : Nat) (w : Word) : State :=
  if r = 0x00 then
    let s := if wbits w 0 1 = 1 then s.abort p else s
    if wbits w 1 1 = 1 then s.auditStart p else s
  else if r = 0x0C then s.seedPart p
  else if r = 0x20 ∨ r = 0x24 then s.ringCheck (partCsr p) p
  else s

/-- What a write triggers in the device's registers. -/
def State.devFx (s : State) (o : Nat) (w : Word) : State :=
  if o = 0x320 then s.reSource
  else if o = 0x100 then s.raise clsWarning 0x005 0xFF 11 0 w.toNat
  else if o = 0x500 then if s.f EV_ALARM_PENDING = 0 then { s with ev := { s.ev with faultPin := false } } else s
  else if o = 0x510 ∨ o = 0x514 then s.ringCheck (0x510 - 0x20) 32
  else if o = 0x520 then if wbits w 0 1 = 1 then s.devAuditStart else s
  else if o = 0x3C000010 ∨ o = 0x3C000014 then s.setVpm fun v => { v with telPos := 0 }
  else if o = 0x3C000120 then
    let s := if wbits w 1 1 = 1 then s.kwEnter 2 else s
    if wbits w 2 1 = 1 then s.resume else s
  else if o = 0x30000040 then if wbits w 0 1 = 1 then s.rebuild else s
  else if o = 0x30000500 then s.barnPost true 0 (wbits w 0 3)
  else s

/-- R10, R31, R434: a register write with all its effects. A pointer's registers take a write only while the pointer is
idle (R208). -/
def State.csrWrite (s : State) (off : Nat) (w : Word) : State :=
  match s.homeOff off with
  | none => s
  | some o =>
    if 0x10000000 ≤ o ∧ o < 0x12000000 then
      let c := (o - 0x10000000) / 0x100000
      let r := o % 0x100000
      if 0x80000 ≤ r ∧ r < 0xA0000 then
        let n := 32 * c + (r - 0x80000) / 0x1000
        let q := r % 0x1000
        if s.absent n then s
        else if 0x700 ≤ q ∧ q < 0xB00 ∧ q % 32 ≤ 0x10 then
          let m := (q - 0x700) / 0x200
          let a := (q - 0x700) % 0x200 / 32
          if s.apIdle n m a then
            let s := s.csrStore o w
            if q % 32 = 0x10 then s.setF (AP_PEND_PENDING n m a) w.toNat else s
          else s.setF (AP_STAT_WIGN n m a) 1
        else if q = 0xC00 then if wbits w 0 1 = 1 then s.retireWrite n else s
        else if q = 0x508 then (s.csrStore o w).clkInt n
        else s.csrStore o w
      else (s.csrStore o w).cluFx c r w
    else if 0x10000 ≤ o ∧ o < 0x12000 then (s.csrStore o w).partFx ((o - 0x10000) / 0x100) (o % 0x100) w
    else (s.csrStore o w).devFx o w

/-! ### Rows that are one register write -/

/-- SEQ_CTL_START (R307): a write of START with `entry`. -/
def execSeqCtlStart (c : Fin 32) (entry : BitVec 18) (s : State) : Out :=
  .next (s.csrWrite (cluCsr c.val + 0x1000) (BitVec.ofNat 32 (2 ^ 31 + entry.toNat)))

/-- SEQ_BAR_ARRIVE (R325): with EXPECT as it stands, since a write to `SEQ_BAR` carries both. -/
def execSeqBarArrive (c : Fin 32) (b : Fin 8) (s : State) : Out :=
  .next (s.csrWrite (cluCsr c.val + 0x1100 + 16 * b.val) (BitVec.ofNat 32 (2 ^ 31 + s.f (SEQ_BAR_EXPECT c.val b.val))))

/-- Offset of a register of append pointer `a` (R216). -/
def apOff (n m a r : Nat) : Nat := hartCsr n + 0x700 + 0x200 * m + 0x20 * a + r

/-- AP_BASEL_WRITE (R208). -/
def execApBaselWrite (n : Fin 1024) (m : Fin 2) (a : Fin 16) (v : BitVec 32) (s : State) : Out :=
  .next (s.csrWrite (apOff n.val m.val a.val 0x00) v)
/-- AP_BASEH_WRITE (R208). -/
def execApBasehWrite (n : Fin 1024) (m : Fin 2) (a : Fin 16) (v : BitVec 32) (s : State) : Out :=
  .next (s.csrWrite (apOff n.val m.val a.val 0x04) v)
/-- AP_LIMIT_WRITE (R208). -/
def execApLimitWrite (n : Fin 1024) (m : Fin 2) (a : Fin 16) (v : BitVec 32) (s : State) : Out :=
  .next (s.csrWrite (apOff n.val m.val a.val 0x08) v)
/-- AP_STEP_WRITE (R208). -/
def execApStepWrite (n : Fin 1024) (m : Fin 2) (a : Fin 16) (v : BitVec 32) (s : State) : Out :=
  .next (s.csrWrite (apOff n.val m.val a.val 0x0C) v)
/-- AP_COMMIT_WRITE (R208). -/
def execApCommitWrite (n : Fin 1024) (m : Fin 2) (a : Fin 16) (v : BitVec 32) (s : State) : Out :=
  .next (s.csrWrite (apOff n.val m.val a.val 0x10) v)

/-- CLK_CTL_WRITE (R303). -/
def execClkCtlWrite (c : Fin 32) (mhz : BitVec 12) (s : State) : Out :=
  .next (s.csrWrite (cluCsr c.val + 0x300) (BitVec.ofNat 32 mhz.toNat))

/-- HBM_MAP_WRITE (R232): ignored after start, with a Warning. -/
def execHbmMapWrite (v : BitVec 32) (s : State) : Out := .next (s.csrWrite 0x100 v)

/-- REGISTER_WRITE (R10): any register, by its access types. -/
def execRegisterWrite (off : Nat) (v : BitVec 32) (s : State) : Out := .next (s.csrWrite off v)

/-- SHF_ARM (R264). -/
def execShfArm (c : Fin 32) (i : Fin 256) (s : State) : Out := .next (s.csrWrite (cluCsr c.val + 0x22000 + 8 * i.val) 1)
/-- SHF_CANCEL (R268). -/
def execShfCancel (c : Fin 32) (i : Fin 256) (s : State) : Out := .next (s.csrWrite (cluCsr c.val + 0x22000 + 8 * i.val) 2)

/-- TX_IDX_HEAD_WRITE (R444). -/
def execTxIdxHeadWrite (c : Fin 32) (head : BitVec 16) (s : State) : Out :=
  .next (s.csrWrite (cluCsr c.val + 0x1D04) (BitVec.ofNat 32 head.toNat))

/-- EV_RINGH_WRITE (R431): of partition `p`, or of the device for 32. -/
def execEvRinghWrite (p : Fin 33) (v : BitVec 32) (s : State) : Out :=
  .next (s.csrWrite (if p.val = 32 then 0x514 else partCsr p.val + 0x24) v)

/-- EV_ALARM_CLEAR (R432): FAULT# is released. -/
def execEvAlarmClear (s : State) : Out := .next (s.csrWrite 0x500 1)

/-- KW_RESUME (R368). -/
def execKwResume (s : State) : Out := .next s.resume

end Sys2Proof.Machine
end

