-- ==== Sys2Proof/WellFormed.lean ====
section
/-!
DEFINITION. Well-formed instructions: those that are not ILLEGAL under R126 on the control core that executes them,
with the field constraints of R127–R135 and R309 and the differences of R305. An ILLEGAL instruction is still a
command: it raises the exception of R150.
-/

namespace Sys2Proof

/-- R134, R305: the selectors of BC that are listed. -/
def bcSelOk (seq : Bool) (sel : Nat) : Bool :=
  sel ≤ 0x0C || (0x20 ≤ sel && sel ≤ 0x29) || sel = 0x30 || sel = 0x31 || (0x40 ≤ sel && sel ≤ 0x4F)
    || (!seq && ((0x10 ≤ sel && sel ≤ 0x14) || (0x18 ≤ sel && sel ≤ 0x1C) || sel = 0x32 || sel = 0x33))

/-- R311: the selectors of SBC that are listed. -/
def sbcSelOk (sel : Nat) : Bool := sel ≤ 4 || (8 ≤ sel && sel ≤ 0x19)

/-- R129: the function codes of ALU. -/
def aluFnOk (b : BitVec 5) (fn : BitVec 11) : Bool :=
  let f := fn.toNat % 32
  fn.toNat / 32 % 8 = 0 && f ≤ 0x13 && (f = 0x11 || fn.toNat / 256 = 0) && (!(f = 0x12 || f = 0x13) || b = 0)

/-- R130: the function codes of FPU. -/
def fpuFnOk (b : BitVec 5) (fn : BitVec 11) : Bool := fn.toNat ≤ 8 && (fn.toNat < 5 || b = 0)

/-- R131: the function codes of AOP and the fields each leaves 0. -/
def aopOk (dst src1 b sh fn : BitVec 5) : Bool :=
  match fn.toNat with
  | 0 => dst.toNat < 16 && src1.toNat < 16
  | 1 => dst.toNat < 16 && sh = 0
  | 2 | 3 => src1.toNat < 16 && b = 0 && sh = 0
  | 4 => dst.toNat < 16 && src1.toNat < 16 && b = 0 && sh = 0
  | _ => false

/-- R133: the function codes of PLOG. -/
def plogOk (d a b : BitVec 5) (fn : BitVec 11) : Bool :=
  match fn.toNat with
  | 0 | 1 | 2 | 3 => d.toNat < 8 && a.toNat < 8 && b.toNat < 8
  | 4 => a = 0 && b = 0
  | 5 => d = 0 && b = 0
  | _ => false

/-- R126: an instruction of a control core that is not ILLEGAL there; any other command is always well formed. -/
def Instr.wf : Instr → Bool
  | .alu _ _ _ b fn => aluFnOk b fn
  | .fpu _ _ _ b fn => fpuFnOk b fn
  | .shi _ _ _ imm => imm.toNat / 128 = 0 && imm.toNat / 32 % 4 ≠ 3
  | .lui _ _ a _ => a = 0
  | .la _ z _ _ _ => z = 0
  | .sa _ z _ _ _ => z = 0
  | .aop _ dst src1 b k z fn => z = 0 && aopOk dst src1 b k fn
  | .aaddi _ z1 _ z0 _ _ => z1 = 0 && z0 = 0
  | .cmp _ z1 _ _ _ z0 cond => z1 = 0 && z0 = 0 && cond.toNat ≤ 9
  | .cmpi _ cond _ _ _ => cond.toNat ≤ 5
  | .plog _ d a b fn => plogOk d a b fn
  | .bp _ _ _ z _ => z = 0
  | .bc ag _ c z _ => z = 0 && bcSelOk ag.isSeq c.toNat
  | .bflag ag _ k i _ _ => !ag.isSeq && (k = 1 || i.toNat ≤ 15)
  | .push ag q _ _ _ _ _ _ => !ag.isSeq && q.toNat < 5
  | .cpop ag d q z => !ag.isSeq && d.toNat % 4 = 0 && q.toNat < 5 && z = 0
  | .waitq ag z1 q z0 n => !ag.isSeq && z1 = 0 && q.toNat < 5 && z0 = 0 && n.toNat ≤ 32
  | .strm ag _ _ _ _ z => !ag.isSeq && z = 0
  | .sig ag t cn _ b z => z = 0 && (t = 1 || (!ag.isSeq && cn = 0 && b = 0))
  | .cwait _ z1 _ z0 imm => z1 = 0 && z0 = 0 && imm ≠ 0
  | .csrr _ _ z _ => z = 0
  | .csrw _ _ z _ => z = 0
  | .rdtime _ d z => d.toNat % 2 = 0 && z = 0
  | .waitt _ z1 a z0 => z1 = 0 && a.toNat % 2 = 0 && z0 = 0
  | .knote _ z1 a _ z0 => z1 = 0 && a.toNat % 2 = 0 && z0 = 0
  | .nop _ z arg => z = 0 && arg = 0
  | .halt _ z _ => z = 0
  | .ifence _ z arg => z = 0 && arg = 0
  | .wdog _ z arg => z = 0 && arg = 0
  | .clksel _ z arg => z = 0 && arg.toNat < 8
  | .spush ag tq _ _ _ _ _ _ => ag.isSeq && tq.toNat ≤ 11
  | .spop ag d z => ag.isSeq && d.toNat % 4 = 0 && z = 0
  | .swaitq ag z n => ag.isSeq && z = 0 && n.toNat ≤ 64
  | .sstrm ag _ _ _ _ z => ag.isSeq && z = 0
  | .ssig ag _ _ z => ag.isSeq && z = 0
  | .srecv ag d _ _ z => ag.isSeq && d.toNat % 2 = 0 && z = 0
  | .sres ag d _ _ z => ag.isSeq && d.toNat % 4 = 0 && z = 0
  | .sbc ag _ c z _ => ag.isSeq && z = 0 && sbcSelOk c.toNat
  | _ => true

end Sys2Proof
end

