-- ==== Sys2Proof/Machine/TcsOps.lean ====
section
/-!
DEFINITION. Shared operations of the control core's instructions (R123–R150, R305, R309): issuing one instruction with
its exceptions and stalls, loads and stores of data memory, the integer functions, the branch conditions, capturing a
pushed command, and popping a record.
-/

namespace Sys2Proof.Machine

/-- What the effect of an instruction comes to: it retires; it retires and jumps; it stalls (R137); it raises an
exception (R150), of a memory word for IECC and DECC. -/
inductive TRes where
  | go (s : State)
  | jump (pc : Nat) (s : State)
  | wait
  | exc (cause : Nat)
  | excMem (cause m : Nat)

/-- An instruction's effect, with the scalar registers and predicates it reads or writes (R117, R119). -/
structure Tcs where
  regs : List Nat
  preds : List Nat
  body : State → TRes

/-- R150, R305: first fetch address outside instruction memory. -/
def imemTop (h : Nat) : Nat := if isSeqHart h then 0x40000 else 0x10000
/-- R150, R305: first address outside data memory. -/
def dmemTop (h : Nat) : Nat := if isSeqHart h then 0x10000 else 0x8000

/-- R124, R148, R355: control core `h` can issue: in RUN, in a cluster whose clocks run, and not ABSENT. -/
def State.canIssue (s : State) (h : Nat) : Bool :=
  s.f (CC_STAT_STATE h) = 1 && s.cluRuns (hartClu h) && (isSeqHart h || !s.absent h)

/-- The instruction waits (R137). -/
def State.stallOn (s : State) (h : Nat) (i : Instr) : State := s.modHart h fun x => { x with stall := some i }

/-- The instruction has retired and the next one lies at `pc`. -/
def State.retired (s : State) (h pc : Nat) : State :=
  (s.modHart h fun x => { x with pc := pc, stall := none }).touch (hartClu h)

/-- R117, R119: a register or predicate of the instruction is reserved. -/
def State.reservedAny (s : State) (h : Nat) (t : Tcs) : Bool :=
  t.regs.any (fun r => r ≠ 0 && s.reservedS h r) || t.preds.any fun p => p ≠ 0 && s.reservedP h p

/-- R126, R137, R150, R155: control core `h` issues an instruction at its program counter. -/
def State.tcsRun (s : State) (h : Nat) (i : Instr) (t : Tcs) : State :=
  if !s.canIssue h then s
  else
    let pc := (s.hart h).pc
    let s := if s.on (CLK_STAT_SRC (hartClu h)) then s.setF (CC_FSUM_CLKINT h) 1 else s
    if imemTop h ≤ pc ∨ pc % 4 ≠ 0 then s.exc h 2 pc
    else if s.poisoned (hartImem h pc) 4 then s.excMem h 5 pc (hartImem h pc)
    else if !i.wf then s.exc h 1 pc
    else if s.reservedAny h t then s.stallOn h i
    else
      match t.body s with
      | .go u => u.retired h (pc + 4)
      | .jump a u => u.retired h a
      | .wait => s.stallOn h i
      | .exc c => s.exc h c pc
      | .excMem c m => s.excMem h c pc m

/-! ### Immediates and branches (R127) -/

def sx16 (imm : BitVec 16) : Word := imm.signExtend 32
def zx16 (imm : BitVec 16) : Word := imm.zeroExtend 32

/-- R127: a branch target: a signed count of instructions from the branch's own address. -/
def branchTo (pc : Nat) (off : Int) : Nat := (((pc : Int) + 4 * off) % (2 ^ 32 : Nat)).toNat

/-- A branch that is taken or not. -/
def State.branch (s : State) (h : Nat) (c : Bool) (off : Int) : TRes :=
  if c then .jump (branchTo (s.hart h).pc off) s else .go s

/-! ### Integer functions (R129) -/

/-- R129: leading zeros, 0–32. -/
def clz (a : Word) : Nat := if a = 0 then 32 else 31 - Nat.log2 a.toNat
/-- R129: number of 1 bits. -/
def popc (a : Word) : Nat := ((List.range 32).filter fun i => a.getLsbD i).length
def word01 (b : Bool) : Word := if b then 1 else 0
/-- The high 32 bits of a product. -/
def mulHigh (x : Int) : Word := BitVec.ofInt 32 (x / (2 ^ 32 : Nat))

/-- R129: the ALU functions; `p` is the predicate of SEL. -/
def aluFn (fn : Nat) (p : Bool) (a b : Word) : Word :=
  match fn with
  | 0x00 => a + b
  | 0x01 => a - b
  | 0x02 => a &&& b
  | 0x03 => a ||| b
  | 0x04 => a ^^^ b
  | 0x05 => a <<< (b.toNat % 32)
  | 0x06 => a >>> (b.toNat % 32)
  | 0x07 => a.sshiftRight (b.toNat % 32)
  | 0x08 => word01 (a.slt b)
  | 0x09 => word01 (a.ult b)
  | 0x0A => a * b
  | 0x0B => mulHigh (a.toInt * b.toInt)
  | 0x0C => mulHigh ((a.toNat * b.toNat : Nat) : Int)
  | 0x0D => if a.slt b then a else b
  | 0x0E => if a.slt b then b else a
  | 0x0F => if a.ult b then a else b
  | 0x10 => if a.ult b then b else a
  | 0x11 => if p then a else b
  | 0x12 => BitVec.ofNat 32 (clz a)
  | _ => BitVec.ofNat 32 (popc a)

/-- R130: the FPU functions; FMIN and FMAX return the operand that is no NaN. -/
def fpuFn (fn : Nat) (a b : Word) : Word :=
  match fn with
  | 0 => (fadd a b).w
  | 1 => (fsub a b).w
  | 2 => (fmul a b).w
  | 3 => (vmin a b).w
  | 4 => (vmax a b).w
  | 5 => fcvtws a
  | 6 => fcvtsw a
  | 7 => a &&& 0x7FFFFFFF
  | _ => a ^^^ 0x80000000

/-! ### Data memory (R128, R150, R228) -/

/-- R150: the exception of an access of `k` bytes aligned to `al` at data memory address `a`, if it has one. -/
def dmemExc (h a al : Nat) : Option Nat :=
  if a % al ≠ 0 then some 3 else if dmemTop h ≤ a then some 4 else none

/-- The first uncorrectable word of a run of data memory. -/
def State.dmemBad (s : State) (h a k : Nat) : Option Nat := s.poison.find? (touches (hartDmem h a) k)

/-- A load of `k` bytes into what `g` writes. -/
def State.load (s : State) (h a k : Nat) (g : Nat → State → State) : TRes :=
  match dmemExc h a k with
  | some c => .exc c
  | none =>
    match s.dmemBad h a k with
    | some m => .excMem 6 m
    | none => .go (g (leVal (s.rdN (hartDmem h a) k)) s)

/-- R150, R228: a store of `k` bytes; one that covers part of a word reads the word first. -/
def State.storeDmem (s : State) (h a k v : Nat) : TRes :=
  match dmemExc h a k with
  | some c => .exc c
  | none =>
    match (if k < 4 then s.dmemBad h a k else none) with
    | some m => .excMem 6 m
    | none => .go (s.store (hartDmem h a) (leBytes k v)).1

/-- Sa + imm as an address. -/
def State.ea (s : State) (h a : Nat) (imm : BitVec 16) : Nat := (s.sreg h a + sx16 imm).toNat

/-! ### Branch conditions -/

/-- The two words of a pair as a 64-bit value (R157). -/
def State.pair (s : State) (h a : Nat) : Nat := (s.sreg h a).toNat + 2 ^ 32 * (s.sreg h (a + 1)).toNat

/-- R134: the conditions of BC. -/
def State.bcCond (s : State) (h sel : Nat) : Bool :=
  if sel = 0 then s.fsum h ≠ 0
  else if sel ≤ 0x0C then s.fsum h / 2 ^ (sel - 1) % 2 = 1
  else if 0x10 ≤ sel ∧ sel ≤ 0x14 then !(s.qCmds h (sel - 0x10)).isEmpty
  else if 0x18 ≤ sel ∧ sel ≤ 0x1C then !(s.qRecs h (sel - 0x18)).isEmpty
  else if 0x20 ≤ sel ∧ sel ≤ 0x28 then s.f (CC_CCR_STATUS h) = sel - 0x20
  else if sel = 0x29 then s.on (CC_CCR_NONFIN h)
  else if sel = 0x30 then s.on (CLK_STAT_LOCK (hartClu h))
  else if sel = 0x31 then s.on (CLK_STAT_SRC (hartClu h))
  else if sel = 0x32 ∨ sel = 0x33 then (s.aqOf h (sel - 0x32)).length < 256
  else s.credit h (sel - 0x40) ≠ 0

/-- R311: the conditions of SBC. -/
def State.sbcCond (s : State) (c sel : Nat) : Bool :=
  let h := 1024 + c
  if sel = 0 then !(s.hart h).cmds.isEmpty
  else if sel = 1 then !(s.hart h).recs.isEmpty
  else if sel = 2 then s.iqHeld h < 64
  else if sel = 3 then !(s.clu c).mail.isEmpty
  else if sel = 4 then !(s.clu c).resq.isEmpty
  else if sel ≤ 0x0F then (s.aqOf h (sel - 8)).length < 256
  else if sel ≤ 0x17 then s.f (SEQ_BAR_ARRIVED c (sel - 0x10)) ≠ 0
  else if sel = 0x18 then s.f (SEQ_EXCM_EXC c) ≠ 0
  else s.f (SEQ_HALTED_HALTED c) ≠ 0

/-- R135: an earlier-pushed command that has not finished writes unit `u` (64 and up: regions). -/
def State.writerOf (s : State) (h u : Nat) : Bool :=
  (s.hart h).cmds.any fun e => e.phase ≠ .ran && (e.writes h).contains u

/-- One of the four flags of R51, by number. -/
def Flags.bit (g : Flags) (i : Nat) : Bool :=
  match i with | 0 => g.sat | 1 => g.nonfin | 2 => g.guard | _ => g.lost

/-! ### Pushing a command (R139, R162, R310) -/

/-- R139: an address register replaces the address in words `i` and `i + 1`. -/
def withAddr (l : List Word) (i : Nat) (v : Off48) : List Word :=
  (l.set i (v.extractLsb' 0 32)).set (i + 1)
    (BitVec.ofNat 32 ((l.getD (i + 1) 0).toNat / 65536 * 65536 + (v.extractLsb' 32 16).toNat))

/-- The eight words of the template at data memory address `a`. -/
def State.template (s : State) (h a : Nat) : List Word := (List.range 8).map fun j => s.rd32 (hartDmem h (a + 4 * j))

/-- Scalar registers a command names as operand values (R139): the launch time, and in VQ the operands of R181. -/
def Cmd.opRegs (k : Cmd) (h : Nat) : List Nat :=
  (if k.timed then [k.treg % 32, (k.treg + 1) % 32] else []) ++
  (if isSeqHart h || k.q ≠ 1 then []
   else
    (if k.vq.bkind = 1 then [k.vq.tb % 32] else []) ++ (if k.vq.pen then [k.vq.sx] else []) ++
      (match vqRow k.op with | some r => if r.sy then [k.vq.sy] else [] | none => []))

/-- R139: the command that PUSH carries: the template with X and Y applied and the operand values of this cycle. -/
def State.captureCmd (s : State) (h q a : Nat) (ax ay : Off48) (x y : Bool) : Cmd :=
  let w := s.template h a
  let w := if x then withAddr w 2 ax else w
  let w := if y then withAddr w 4 ay else w
  let k : Cmd :=
    { id := (s.hart h).nextId, q := q, words := w, xy := x || y, launch := 0, sb := 0, sx := 0, sy := 0,
      phase := .waiting, sts := [], flags := Flags.zero, clkint := false, result := 0, extS := none, extD := none,
      wait := 0, fixed := false, since := 0, pos := 0 }
  let v := !isSeqHart h && q = 1
  { k with
    launch := if k.timed then (s.sreg h (k.treg % 32)).toNat + 2 ^ 32 * (s.sreg h ((k.treg + 1) % 32)).toNat else 0
    sb := if v && k.vq.bkind = 1 then s.sreg h (k.vq.tb % 32) else 0
    sx := if v && k.vq.pen then s.sreg h k.vq.sx else 0
    sy := if v then (match vqRow k.op with | some r => if r.sy then s.sreg h k.vq.sy else 0 | none => 0) else 0 }

/-- R139, R140, R310: push the command at data memory address `a` to queue or target `q`; `full` says that no slot is
free. -/
def State.pushCmd (s : State) (h q a : Nat) (ax ay : Off48) (x y full : Bool) : TRes :=
  match dmemExc h a 32 with
  | some c => .exc c
  | none =>
    if full then .wait
    else
      match s.dmemBad h a 32 with
      | some m => .excMem 6 m
      | none =>
        let k := s.captureCmd h q a ax ay x y
        if (k.opRegs h).any fun r => r ≠ 0 && s.reservedS h r then .wait
        else
          let s := s.modHart h fun z => { z with nextId := z.nextId + 1, cmds := z.cmds ++ [k] }
          .go ((s.ledgerAdd (s.partOf (hartClu h)) lPushed 1).settle h q (if isSeqHart h then 64 else 32))

/-! ### Popping a record (R141, R309) -/

/-- Remove the first record for which `p` holds. -/
def dropRec (p : Rec → Bool) : List Rec → List Rec
  | [] => []
  | r :: l => if p r then l else r :: dropRec p l

/-- R141: copy the record into Sd to Sd+3, unless d is 0, and set `CC_CCR`. -/
def State.takeRec (s : State) (h d : Nat) (r : Rec) : State :=
  let s := if d = 0 then s else
    (((s.setS h d r.w0).setS h (d + 1) r.w1).setS h (d + 2) r.w2).setS h (d + 3) r.w3
  (s.setF (CC_CCR_STATUS h) (wbits r.w0 20 4)).setF (CC_CCR_NONFIN h) (wbits r.w0 25 1)

/-- Pop the oldest record for which `p` holds; stall while there is none. A record copy of a core (R171) is no command
of the sequencer's account. -/
def State.popRec (s : State) (h d : Nat) (p : Rec → Bool) : TRes :=
  match (s.hart h).recs.find? p with
  | none => .wait
  | some r =>
    let s := s.modHart h fun x => { x with recs := dropRec p x.recs }
    let s := if r.q = 15 then s else s.ledgerAdd (s.partOf (hartClu h)) lPopped 1
    .go (s.takeRec h d r)

/-! ### Signals (R147, R309) -/

/-- R324: the source word of an inbox word from control core `h`. -/
def srcWord (h : Nat) : Word :=
  BitVec.ofNat 32 ((if isSeqHart h then 0x3FF else h) + 65536 * hartClu h)

/-- R147, R251, R259, R309: send an inbox word to the sequencer of cluster `c`; it stalls while the endpoint has no flit to
spend. -/
def State.sendInbox (s : State) (h c : Nat) (w : Word) : TRes :=
  let p := s.partOf (hartClu h)
  if p = 0xFF ∨ s.partOf c ≠ p then
    let s := s.ledgerAdd p lSent (inboxCredits w)
    .go (((s.setF (CC_FSUM_RANGE h) 1).raiseHart clsWarning 0x002 h (routerX c 0 + 16 * routerY c 0)).ledgerAdd p lRefused
      (inboxCredits w))
  else if !s.mayInject h then .wait
  else .go ((s.ledgerAdd p lSent (inboxCredits w)).inject h (.inbox p c w (srcWord h)))

/-- R147: SIG with T = 1. -/
def State.sigCredit (s : State) (h core cn amt : Nat) : TRes :=
  let p := s.partOf (hartClu h)
  if amt = 0 then .go s
  else if p ≠ 0xFF && s.partOf (core / 32) = p && !s.absent core && !s.mayInject h then .wait
  else .go (s.sendCredit h core cn amt false)

/-! ### The clock source (R156) -/

/-- R156: the cluster switches from its oscillator to its PLL. Its operating point is then the lowest one, as after Off
(R361). -/
def State.toPll (s : State) (c : Nat) : State :=
  let s := (s.setF (CLK_STAT_SRC c) 0).setF (CLK_STAT_F_MHZ c) 800
  let s := s.setVt c (s.vtOf c 800)
  if s.on PWR_ALERT_ASSERTED then s.cluAlert c else s

end Sys2Proof.Machine
end

