-- ==== Sys2Proof/Machine/Tcs.lean ====
section
/-!
DEFINITION. The instructions of the TCS set (R123–R158) and of the sequencer's extension (R309), each as its effect on
control core `h` (a `do…`), with the registers it reads or writes; then retrying a stalled instruction (R137), and the
meaning of each row.
-/

namespace Sys2Proof.Machine

/-! ### Arithmetic (R127–R133) -/

/-- ALU (R129). -/
def doAlu (h : Nat) (d a b : BitVec 5) (fn : BitVec 11) : Tcs where
  regs := [ d.toNat, a.toNat, b.toNat]
  preds := if fn.toNat % 32 = 0x11 then [ fn.toNat / 256] else []
  body s := .go (s.setS h d.toNat
    (aluFn (fn.toNat % 32) (s.pred h (fn.toNat / 256)) (s.sreg h a.toNat) (s.sreg h b.toNat)))

/-- FPU (R130). -/
def doFpu (h : Nat) (d a b : BitVec 5) (fn : BitVec 11) : Tcs where
  regs := [ d.toNat, a.toNat, b.toNat]
  preds := []
  body s := .go (s.setS h d.toNat (fpuFn fn.toNat (s.sreg h a.toNat) (s.sreg h b.toNat)))

/-- ADDI (R128). -/
def doAddi (h : Nat) (d a : BitVec 5) (imm : BitVec 16) : Tcs where
  regs := [ d.toNat, a.toNat]
  preds := []
  body s := .go (s.setS h d.toNat (s.sreg h a.toNat + sx16 imm))

/-- ANDI (R128). -/
def doAndi (h : Nat) (d a : BitVec 5) (imm : BitVec 16) : Tcs where
  regs := [ d.toNat, a.toNat]
  preds := []
  body s := .go (s.setS h d.toNat (s.sreg h a.toNat &&& zx16 imm))

/-- ORI (R128). -/
def doOri (h : Nat) (d a : BitVec 5) (imm : BitVec 16) : Tcs where
  regs := [ d.toNat, a.toNat]
  preds := []
  body s := .go (s.setS h d.toNat (s.sreg h a.toNat ||| zx16 imm))

/-- XORI (R128). -/
def doXori (h : Nat) (d a : BitVec 5) (imm : BitVec 16) : Tcs where
  regs := [ d.toNat, a.toNat]
  preds := []
  body s := .go (s.setS h d.toNat (s.sreg h a.toNat ^^^ zx16 imm))

/-- SLTI (R128). -/
def doSlti (h : Nat) (d a : BitVec 5) (imm : BitVec 16) : Tcs where
  regs := [ d.toNat, a.toNat]
  preds := []
  body s := .go (s.setS h d.toNat (word01 ((s.sreg h a.toNat).slt (sx16 imm))))

/-- SLTIU (R127, R128): the immediate is sign-extended and the comparison unsigned. -/
def doSltiu (h : Nat) (d a : BitVec 5) (imm : BitVec 16) : Tcs where
  regs := [ d.toNat, a.toNat]
  preds := []
  body s := .go (s.setS h d.toNat (word01 ((s.sreg h a.toNat).ult (sx16 imm))))

/-- SHI (R128): kind 0 SLL, 1 SRL, 2 SRA. -/
def doShi (h : Nat) (d a : BitVec 5) (imm : BitVec 16) : Tcs where
  regs := [ d.toNat, a.toNat]
  preds := []
  body s :=
    let n := imm.toNat % 32
    let v := s.sreg h a.toNat
    .go (s.setS h d.toNat (match imm.toNat / 32 % 4 with
      | 0 => v <<< n | 1 => v >>> n | _ => v.sshiftRight n))

/-- LUI (R128). -/
def doLui (h : Nat) (d : BitVec 5) (imm : BitVec 16) : Tcs where
  regs := [ d.toNat]
  preds := []
  body s := .go (s.setS h d.toNat (zx16 imm <<< 16))

/-! ### Data memory -/

/-- LW (R128). -/
def doLw (h : Nat) (d a : BitVec 5) (imm : BitVec 16) : Tcs where
  regs := [ d.toNat, a.toNat]
  preds := []
  body s := s.load h (s.ea h a.toNat imm) 4 fun v t => t.setS h d.toNat (BitVec.ofNat 32 v)

/-- LHU (R128). -/
def doLhu (h : Nat) (d a : BitVec 5) (imm : BitVec 16) : Tcs where
  regs := [ d.toNat, a.toNat]
  preds := []
  body s := s.load h (s.ea h a.toNat imm) 2 fun v t => t.setS h d.toNat (BitVec.ofNat 32 v)

/-- LBU (R128). -/
def doLbu (h : Nat) (d a : BitVec 5) (imm : BitVec 16) : Tcs where
  regs := [ d.toNat, a.toNat]
  preds := []
  body s := s.load h (s.ea h a.toNat imm) 1 fun v t => t.setS h d.toNat (BitVec.ofNat 32 v)

/-- SW (R128). -/
def doSw (h : Nat) (b a : BitVec 5) (imm : BitVec 16) : Tcs where
  regs := [ b.toNat, a.toNat]
  preds := []
  body s := s.storeDmem h (s.ea h a.toNat imm) 4 (s.sreg h b.toNat).toNat

/-- SH (R128). -/
def doSh (h : Nat) (b a : BitVec 5) (imm : BitVec 16) : Tcs where
  regs := [ b.toNat, a.toNat]
  preds := []
  body s := s.storeDmem h (s.ea h a.toNat imm) 2 ((s.sreg h b.toNat).toNat % 2 ^ 16)

/-- SB (R128). -/
def doSb (h : Nat) (b a : BitVec 5) (imm : BitVec 16) : Tcs where
  regs := [ b.toNat, a.toNat]
  preds := []
  body s := s.storeDmem h (s.ea h a.toNat imm) 1 ((s.sreg h b.toNat).toNat % 2 ^ 8)

/-- LA (R128). -/
def doLa (h : Nat) (ad : BitVec 4) (a : BitVec 5) (imm : BitVec 16) : Tcs where
  regs := [ a.toNat]
  preds := []
  body s := s.load h (s.ea h a.toNat imm) 8 fun v t => t.setA h ad.toNat (BitVec.ofNat 48 v)

/-- SA (R128). -/
def doSa (h : Nat) (ab : BitVec 4) (a : BitVec 5) (imm : BitVec 16) : Tcs where
  regs := [ a.toNat]
  preds := []
  body s := s.storeDmem h (s.ea h a.toNat imm) 8 (s.areg h ab.toNat).toNat

/-! ### Address registers, comparisons, predicates (R128, R131–R133) -/

/-- R131: the scalar registers of an AOP. -/
def aopRegs (fn dst src1 b : Nat) : List Nat :=
  match fn with
  | 0 => [ b]
  | 1 => [ b, src1]
  | 2 | 3 => [ dst]
  | _ => []

/-- AOP (R131). -/
def doAop (h : Nat) (dst src1 b sh fn : BitVec 5) : Tcs where
  regs := aopRegs fn.toNat dst.toNat src1.toNat b.toNat
  preds := []
  body s :=
    let aa := s.areg h src1.toNat
    let sb := s.sreg h b.toNat
    match fn.toNat with
    | 0 => .go (s.setA h dst.toNat (aa + (sb.signExtend 48 <<< sh.toNat)))
    | 1 => .go (s.setA h dst.toNat (BitVec.ofNat 48 (sb.toNat % 2 ^ 16 * 2 ^ 32 + (s.sreg h src1.toNat).toNat)))
    | 2 => .go (s.setS h dst.toNat (BitVec.ofNat 32 aa.toNat))
    | 3 => .go (s.setS h dst.toNat (BitVec.ofNat 32 (aa.toNat / 2 ^ 32)))
    | _ => .go (s.setA h dst.toNat aa)

/-- AADDI (R128). -/
def doAaddi (h : Nat) (ad aa : BitVec 4) (imm : BitVec 16) : Tcs where
  regs := []
  preds := []
  body s := .go (s.setA h ad.toNat (s.areg h aa.toNat + imm.signExtend 48))

/-- CMP (R132). -/
def doCmp (h : Nat) (pd : BitVec 3) (a b : BitVec 5) (cond : BitVec 4) : Tcs where
  regs := [ a.toNat, b.toNat]
  preds := [ pd.toNat]
  body s :=
    match cmpCode cond.toNat (s.sreg h a.toNat) (s.sreg h b.toNat) with
    | some r => .go (s.setP h pd.toNat r)
    | none => .exc 1

/-- CMPI (R132). -/
def doCmpi (h : Nat) (cond : BitVec 4) (pd : BitVec 3) (a : BitVec 5) (imm : BitVec 14) : Tcs where
  regs := [ a.toNat]
  preds := [ pd.toNat]
  body s :=
    match cmpCode cond.toNat (s.sreg h a.toNat) (imm.signExtend 32) with
    | some r => .go (s.setP h pd.toNat r)
    | none => .exc 1

/-- R133: the eight predicates in bits [7:0]. -/
def State.predWord (s : State) (h : Nat) : Word :=
  BitVec.ofNat 32 ((List.range 8).foldl (fun a p => a + (if s.pred h p then 2 ^ p else 0)) 0)

/-- PLOG (R133). -/
def doPlog (h : Nat) (d a b : BitVec 5) (fn : BitVec 11) : Tcs where
  regs := match fn.toNat with | 4 => [ d.toNat] | 5 => [ a.toNat] | _ => []
  preds := if fn.toNat ≤ 3 then [ d.toNat, a.toNat, b.toNat] else List.range 8
  body s :=
    let pa := s.pred h a.toNat
    let pb := s.pred h b.toNat
    match fn.toNat with
    | 0 => .go (s.setP h d.toNat (pa && pb))
    | 1 => .go (s.setP h d.toNat (pa || pb))
    | 2 => .go (s.setP h d.toNat (pa != pb))
    | 3 => .go (s.setP h d.toNat (pa && !pb))
    | 4 => .go (s.setS h d.toNat (s.predWord h))
    | _ =>
      let v := s.sreg h a.toNat
      .go ((List.range 7).foldl (fun t i => t.setP h (i + 1) (v.getLsbD (i + 1))) s)

/-! ### Branches and jumps (R134–R136) -/

/-- BP (R136). -/
def doBp (h : Nat) (n : BitVec 1) (pp : BitVec 3) (off : BitVec 16) : Tcs where
  regs := []
  preds := [ pp.toNat]
  body s := s.branch h (s.pred h pp.toNat != (n = 1)) off.toInt

/-- BC (R134). -/
def doBc (h : Nat) (n : BitVec 1) (sel : BitVec 8) (off : BitVec 16) : Tcs where
  regs := []
  preds := []
  body s := s.branch h (s.bcCond h sel.toNat != (n = 1)) off.toInt

/-- BFLAG (R135): of region Gi for K = 0, of tile register Ti for K = 1, once every earlier-pushed writer of it has
finished; one that closes a chain is such a writer. -/
def doBflag (h : Nat) (n k : BitVec 1) (i : BitVec 6) (flag : BitVec 2) (off : BitVec 16) : Tcs where
  regs := []
  preds := []
  body s :=
    if s.writerOf h (if k = 1 then i.toNat else 64 + i.toNat) then .wait
    else
      let g := if k = 1 then s.tileFlags h i.toNat else s.regionFlags h i.toNat
      s.branch h (g.bit flag.toNat != (n = 1)) off.toInt

/-- BCMP (R128). -/
def doBcmp (h : Nat) (cond : BitVec 2) (a b : BitVec 5) (off : BitVec 14) : Tcs where
  regs := [ a.toNat, b.toNat]
  preds := []
  body s := s.branch h (bcmpCode cond.toNat (s.sreg h a.toNat) (s.sreg h b.toNat)) off.toInt

/-- JAL (R128). -/
def doJal (h : Nat) (d : BitVec 5) (off : BitVec 21) : Tcs where
  regs := [ d.toNat]
  preds := []
  body s := .jump (branchTo (s.hart h).pc off.toInt) (s.setS h d.toNat (BitVec.ofNat 32 ((s.hart h).pc + 4)))

/-- JALR (R128): Sa is read before Sd is written. -/
def doJalr (h : Nat) (d a : BitVec 5) (imm : BitVec 16) : Tcs where
  regs := [ d.toNat, a.toNat]
  preds := []
  body s := .jump (s.ea h a.toNat imm) (s.setS h d.toNat (BitVec.ofNat 32 ((s.hart h).pc + 4)))

/-! ### Queues (R139–R143) -/

/-- PUSH (R139, R140). -/
def doPush (h : Nat) (q : BitVec 3) (a : BitVec 5) (ax ay : BitVec 4) (x y : BitVec 1) (u : BitVec 8) : Tcs where
  regs := [ a.toNat]
  preds := []
  body s := s.pushCmd h q.toNat (s.sreg h a.toNat + BitVec.ofNat 32 (32 * u.toNat)).toNat (s.areg h ax.toNat)
    (s.areg h ay.toNat) (x = 1) (y = 1) (32 ≤ s.held h q.toNat)

/-- CPOP (R141). -/
def doCpop (h : Nat) (d : BitVec 5) (q : BitVec 3) : Tcs where
  regs := if d = 0 then [] else (List.range 4).map (d.toNat + ·)
  preds := []
  body s := s.popRec h d.toNat fun r => r.q = q.toNat

/-- WAITQ (R128). -/
def doWaitq (h : Nat) (q : BitVec 3) (n : BitVec 6) : Tcs where
  regs := []
  preds := []
  body s := if (s.qCmds h q.toNat).length ≤ n.toNat then .go s else .wait

/-- An entry of the address queue of mover `m` (R143). -/
def State.strm (s : State) (h m : Nat) (last : Bool) (off : Off48) (len : Word) : TRes :=
  if 256 ≤ (s.aqOf h m).length then .wait
  else .go (s.modHart h fun x => { x with aq := x.aq ++ [ AqEntry.mk m off.toNat len.toNat last] })

/-- STRM (R143). -/
def doStrm (h : Nat) (m last : BitVec 1) (aa : BitVec 4) (b : BitVec 5) : Tcs where
  regs := [ b.toNat]
  preds := []
  body s := s.strm h m.toNat (last = 1) (s.areg h aa.toNat) (s.sreg h b.toNat)

/-! ### Credits, registers, time (R144–R158) -/

/-- SIG (R147): credits to a core for T = 1, a word to the cluster's own sequencer for T = 0. -/
def doSig (h : Nat) (t : BitVec 1) (cn : BitVec 4) (a b : BitVec 5) : Tcs where
  regs := [ a.toNat, b.toNat]
  preds := []
  body s :=
    if t = 1 then s.sigCredit h ((s.sreg h b.toNat).toNat % 1024) cn.toNat ((s.sreg h a.toNat).toNat % 65536)
    else s.sendInbox h (hartClu h) (s.sreg h a.toNat)

/-- CWAIT (R145). -/
def doCwait (h : Nat) (cn : BitVec 4) (imm : BitVec 16) : Tcs where
  regs := []
  preds := []
  body s :=
    if imm.toNat ≤ s.credit h cn.toNat then
      .go ((s.setF (CC_CRED_COUNT h cn.toNat) (s.credit h cn.toNat - imm.toNat)).ledgerAdd (s.partOf (hartClu h)) lTaken
        imm.toNat)
    else .wait

/-- CSRR (R159, R305). -/
def doCsrr (h : Nat) (d : BitVec 5) (off : BitVec 12) : Tcs where
  regs := [ d.toNat]
  preds := []
  body s :=
    if off.toNat % 4 ≠ 0 then .exc 7
    else
      let r := s.csrRead (hartCsr h + off.toNat)
      .go (r.2.setS h d.toNat r.1)

/-- CSRW (R159, R305). -/
def doCsrw (h : Nat) (b : BitVec 5) (off : BitVec 12) : Tcs where
  regs := [ b.toNat]
  preds := []
  body s := if off.toNat % 4 ≠ 0 then .exc 7 else .go (s.csrWrite (hartCsr h + off.toNat) (s.sreg h b.toNat))

/-- RDTIME (R157). -/
def doRdtime (h : Nat) (d : BitVec 5) : Tcs where
  regs := [ d.toNat, d.toNat + 1]
  preds := []
  body s :=
    let t := s.copy (hartClu h)
    .go ((s.setS h d.toNat (BitVec.ofNat 32 t)).setS h (d.toNat + 1) (BitVec.ofNat 32 (t / 2 ^ 32)))

/-- WAITT (R157). -/
def doWaitt (h : Nat) (a : BitVec 5) : Tcs where
  regs := [ a.toNat, a.toNat + 1]
  preds := []
  body s := if s.pair h a.toNat ≤ s.copy (hartClu h) then .go s else .wait

/-- KNOTE (R158, R328). -/
def doKnote (h : Nat) (a b : BitVec 5) : Tcs where
  regs := [ a.toNat, a.toNat + 1, b.toNat]
  preds := []
  body s := .go (s.knote (hartClu h) (s.pair h a.toNat) (s.sreg h b.toNat).toNat)

/-! ### SYS (R128) -/

/-- NOP. -/
def doNop : Tcs where
  regs := []
  preds := []
  body s := .go s

/-- HALT (R149). -/
def doHalt (h : Nat) (arg : BitVec 8) : Tcs where
  regs := []
  preds := []
  body s := .go (s.haltHart h arg.toNat)

/-- IFENCE (R152). -/
def doIfence (h : Nat) : Tcs where
  regs := []
  preds := []
  body s := .go (s.landHeld h)

/-- WDOG (R151). -/
def doWdog (h : Nat) : Tcs where
  regs := []
  preds := []
  body s := .go (s.wdogLoad h)

/-- CLKSEL (R156). -/
def doClksel (h : Nat) (arg : BitVec 8) : Tcs where
  regs := []
  preds := [ arg.toNat % 8]
  body s :=
    let c := hartClu h
    if !s.on (CLK_STAT_SRC c) then .go (s.setP h (arg.toNat % 8) true)
    else if !s.on (CLK_STAT_LOCK c) then .go (s.setP h (arg.toNat % 8) false)
    else .go ((s.toPll c).setP h (arg.toNat % 8) true)

/-! ### The sequencer's extension (R309) -/

/-- SPUSH (R309, R310). -/
def doSpush (h : Nat) (tq : BitVec 4) (a : BitVec 5) (ax ay : BitVec 4) (x y : BitVec 1) (u : BitVec 7) : Tcs where
  regs := [ a.toNat]
  preds := []
  body s := s.pushCmd h tq.toNat (s.sreg h a.toNat + BitVec.ofNat 32 (32 * u.toNat)).toNat (s.areg h ax.toNat)
    (s.areg h ay.toNat) (x = 1) (y = 1) (64 ≤ s.iqHeld h)

/-- SPOP (R309): the oldest record or copy. -/
def doSpop (h : Nat) (d : BitVec 5) : Tcs where
  regs := if d = 0 then [] else (List.range 4).map (d.toNat + ·)
  preds := []
  body s := s.popRec h d.toNat fun _ => true

/-- SWAITQ (R309). -/
def doSwaitq (h : Nat) (n : BitVec 7) : Tcs where
  regs := []
  preds := []
  body s := if (s.hart h).cmds.length ≤ n.toNat then .go s else .wait

/-- SSTRM (R309). -/
def doSstrm (h : Nat) (m : BitVec 3) (last : BitVec 1) (aa : BitVec 4) (b : BitVec 5) : Tcs where
  regs := [ b.toNat]
  preds := []
  body s := s.strm h m.toNat (last = 1) (s.areg h aa.toNat) (s.sreg h b.toNat)

/-- SSIG (R309, R324). -/
def doSsig (h : Nat) (a b : BitVec 5) : Tcs where
  regs := [ a.toNat, b.toNat]
  preds := []
  body s := s.sendInbox h ((s.sreg h b.toNat).toNat % 32) (s.sreg h a.toNat)

/-- SRECV (R324). -/
def doSrecv (h : Nat) (d : BitVec 5) (pp : BitVec 3) (nb : BitVec 1) : Tcs where
  regs := [ d.toNat, d.toNat + 1]
  preds := [ pp.toNat]
  body s :=
    let c := hartClu h
    match (s.clu c).mail with
    | m :: r =>
      let s := s.modClu c fun x => { x with mail := r }
      .go (((s.setS h d.toNat m.1).setS h (d.toNat + 1) m.2).setP h pp.toNat true)
    | [] => if nb = 1 then .go (s.setP h pp.toNat false) else .wait

/-- R327: the third word of SRES. -/
def sresWord (r : SheafRes) : Word := BitVec.ofNat 32 (r.id + 256 * r.status.code + 4096 * r.flags.bits)

/-- SRES (R327). -/
def doSres (h : Nat) (d : BitVec 5) (pp : BitVec 3) (nb : BitVec 1) : Tcs where
  regs := (List.range 4).map (d.toNat + ·)
  preds := [ pp.toNat]
  body s :=
    let c := hartClu h
    match (s.clu c).resq with
    | x :: r =>
      let s := s.modClu c fun y => { y with resq := r }
      let s := ((s.setS h d.toNat x.lo).setS h (d.toNat + 1) x.hi).setS h (d.toNat + 2) (sresWord x)
      .go ((s.setS h (d.toNat + 3) 0).setP h pp.toNat (x.status = .ok))
    | [] => if nb = 1 then .go (s.setP h pp.toNat false) else .wait

/-- SBC (R311). -/
def doSbc (h : Nat) (n : BitVec 1) (sel : BitVec 8) (off : BitVec 16) : Tcs where
  regs := []
  preds := []
  body s := s.branch h (s.sbcCond (h - 1024) sel.toNat != (n = 1)) off.toInt


/-! ### Retrying a stalled instruction (R137) -/

/-- The effect an instruction has, with the control core that executes it; none for a row that is no instruction. -/
def tcsOf (i : Instr) : Option (Nat × Tcs) :=
  match i with
  | .alu ag d a b fn => some (ag.hart, doAlu ag.hart d a b fn)
  | .fpu ag d a b fn => some (ag.hart, doFpu ag.hart d a b fn)
  | .addi ag d a imm => some (ag.hart, doAddi ag.hart d a imm)
  | .andi ag d a imm => some (ag.hart, doAndi ag.hart d a imm)
  | .ori ag d a imm => some (ag.hart, doOri ag.hart d a imm)
  | .xori ag d a imm => some (ag.hart, doXori ag.hart d a imm)
  | .slti ag d a imm => some (ag.hart, doSlti ag.hart d a imm)
  | .sltiu ag d a imm => some (ag.hart, doSltiu ag.hart d a imm)
  | .shi ag d a imm => some (ag.hart, doShi ag.hart d a imm)
  | .lui ag d _ imm => some (ag.hart, doLui ag.hart d imm)
  | .lw ag d a imm => some (ag.hart, doLw ag.hart d a imm)
  | .lhu ag d a imm => some (ag.hart, doLhu ag.hart d a imm)
  | .lbu ag d a imm => some (ag.hart, doLbu ag.hart d a imm)
  | .sw ag b a imm => some (ag.hart, doSw ag.hart b a imm)
  | .sh ag b a imm => some (ag.hart, doSh ag.hart b a imm)
  | .sb ag b a imm => some (ag.hart, doSb ag.hart b a imm)
  | .la ag _ ad a imm => some (ag.hart, doLa ag.hart ad a imm)
  | .sa ag _ ab a imm => some (ag.hart, doSa ag.hart ab a imm)
  | .aop ag dst src1 b sh _ fn => some (ag.hart, doAop ag.hart dst src1 b sh fn)
  | .aaddi ag _ ad _ aa imm => some (ag.hart, doAaddi ag.hart ad aa imm)
  | .cmp ag _ pd a b _ cond => some (ag.hart, doCmp ag.hart pd a b cond)
  | .cmpi ag cond pd a imm => some (ag.hart, doCmpi ag.hart cond pd a imm)
  | .plog ag d a b fn => some (ag.hart, doPlog ag.hart d a b fn)
  | .bp ag n pp _ off => some (ag.hart, doBp ag.hart n pp off)
  | .bc ag n sel _ off => some (ag.hart, doBc ag.hart n sel off)
  | .bflag ag n k i flag off => some (ag.hart, doBflag ag.hart n k i flag off)
  | .bcmp ag cond a b off => some (ag.hart, doBcmp ag.hart cond a b off)
  | .jal ag d off => some (ag.hart, doJal ag.hart d off)
  | .jalr ag d a imm => some (ag.hart, doJalr ag.hart d a imm)
  | .push ag q a ax ay x y u => some (ag.hart, doPush ag.hart q a ax ay x y u)
  | .cpop ag d q _ => some (ag.hart, doCpop ag.hart d q)
  | .waitq ag _ q _ n => some (ag.hart, doWaitq ag.hart q n)
  | .strm ag m last aa b _ => some (ag.hart, doStrm ag.hart m last aa b)
  | .sig ag t cn a b _ => some (ag.hart, doSig ag.hart t cn a b)
  | .cwait ag _ cn _ imm => some (ag.hart, doCwait ag.hart cn imm)
  | .csrr ag d _ off => some (ag.hart, doCsrr ag.hart d off)
  | .csrw ag b _ off => some (ag.hart, doCsrw ag.hart b off)
  | .rdtime ag d _ => some (ag.hart, doRdtime ag.hart d)
  | .waitt ag _ a _ => some (ag.hart, doWaitt ag.hart a)
  | .knote ag _ a b _ => some (ag.hart, doKnote ag.hart a b)
  | .nop ag _ _ => some (ag.hart, doNop)
  | .halt ag _ arg => some (ag.hart, doHalt ag.hart arg)
  | .ifence ag _ _ => some (ag.hart, doIfence ag.hart)
  | .wdog ag _ _ => some (ag.hart, doWdog ag.hart)
  | .clksel ag _ arg => some (ag.hart, doClksel ag.hart arg)
  | .spush ag tq a ax ay x y u => some (ag.hart, doSpush ag.hart tq a ax ay x y u)
  | .spop ag d _ => some (ag.hart, doSpop ag.hart d)
  | .swaitq ag _ n => some (ag.hart, doSwaitq ag.hart n)
  | .sstrm ag m last aa b _ => some (ag.hart, doSstrm ag.hart m last aa b)
  | .ssig ag a b _ => some (ag.hart, doSsig ag.hart a b)
  | .srecv ag d pp nb _ => some (ag.hart, doSrecv ag.hart d pp nb)
  | .sres ag d pp nb _ => some (ag.hart, doSres ag.hart d pp nb)
  | .sbc ag n sel _ off => some (ag.hart, doSbc ag.hart n sel off)
  | _ => none

/-- A stalled instruction tries again; nothing happens where it must still wait. -/
def State.retry (s : State) (h : Nat) : State :=
  match (s.hart h).stall with
  | none => s
  | some i =>
    match tcsOf i with
    | some t => s.tcsRun h i t.2
    | none => s

/-- R137: instructions issue one at a time in program order: an instruction that has stalled tries first, and while it
waits no later one issues. -/
def State.tcs (s : State) (h : Nat) (i : Instr) (t : Tcs) : State :=
  let s := s.retry h
  if (s.hart h).stall.isSome then s else s.tcsRun h i t

/-! ### The rows -/

/-- ALU (R129). -/
def execAlu (ag : Agent) (d a b : BitVec 5) (fn : BitVec 11) (s : State) : Out :=
  .next (s.tcs ag.hart (.alu ag d a b fn) (doAlu ag.hart d a b fn))

/-- FPU (R130). -/
def execFpu (ag : Agent) (d a b : BitVec 5) (fn : BitVec 11) (s : State) : Out :=
  .next (s.tcs ag.hart (.fpu ag d a b fn) (doFpu ag.hart d a b fn))

/-- ADDI (R128). -/
def execAddi (ag : Agent) (d a : BitVec 5) (imm : BitVec 16) (s : State) : Out :=
  .next (s.tcs ag.hart (.addi ag d a imm) (doAddi ag.hart d a imm))

/-- ANDI (R128). -/
def execAndi (ag : Agent) (d a : BitVec 5) (imm : BitVec 16) (s : State) : Out :=
  .next (s.tcs ag.hart (.andi ag d a imm) (doAndi ag.hart d a imm))

/-- ORI (R128). -/
def execOri (ag : Agent) (d a : BitVec 5) (imm : BitVec 16) (s : State) : Out :=
  .next (s.tcs ag.hart (.ori ag d a imm) (doOri ag.hart d a imm))

/-- XORI (R128). -/
def execXori (ag : Agent) (d a : BitVec 5) (imm : BitVec 16) (s : State) : Out :=
  .next (s.tcs ag.hart (.xori ag d a imm) (doXori ag.hart d a imm))

/-- SLTI (R128). -/
def execSlti (ag : Agent) (d a : BitVec 5) (imm : BitVec 16) (s : State) : Out :=
  .next (s.tcs ag.hart (.slti ag d a imm) (doSlti ag.hart d a imm))

/-- SLTIU (R128). -/
def execSltiu (ag : Agent) (d a : BitVec 5) (imm : BitVec 16) (s : State) : Out :=
  .next (s.tcs ag.hart (.sltiu ag d a imm) (doSltiu ag.hart d a imm))

/-- SHI (R128). -/
def execShi (ag : Agent) (d a : BitVec 5) (imm : BitVec 16) (s : State) : Out :=
  .next (s.tcs ag.hart (.shi ag d a imm) (doShi ag.hart d a imm))

/-- LUI (R128). -/
def execLui (ag : Agent) (d a : BitVec 5) (imm : BitVec 16) (s : State) : Out :=
  .next (s.tcs ag.hart (.lui ag d a imm) (doLui ag.hart d imm))

/-- LW (R128). -/
def execLw (ag : Agent) (d a : BitVec 5) (imm : BitVec 16) (s : State) : Out :=
  .next (s.tcs ag.hart (.lw ag d a imm) (doLw ag.hart d a imm))

/-- LHU (R128). -/
def execLhu (ag : Agent) (d a : BitVec 5) (imm : BitVec 16) (s : State) : Out :=
  .next (s.tcs ag.hart (.lhu ag d a imm) (doLhu ag.hart d a imm))

/-- LBU (R128). -/
def execLbu (ag : Agent) (d a : BitVec 5) (imm : BitVec 16) (s : State) : Out :=
  .next (s.tcs ag.hart (.lbu ag d a imm) (doLbu ag.hart d a imm))

/-- SW (R128). -/
def execSw (ag : Agent) (b a : BitVec 5) (imm : BitVec 16) (s : State) : Out :=
  .next (s.tcs ag.hart (.sw ag b a imm) (doSw ag.hart b a imm))

/-- SH (R228). -/
def execSh (ag : Agent) (b a : BitVec 5) (imm : BitVec 16) (s : State) : Out :=
  .next (s.tcs ag.hart (.sh ag b a imm) (doSh ag.hart b a imm))

/-- SB (R228). -/
def execSb (ag : Agent) (b a : BitVec 5) (imm : BitVec 16) (s : State) : Out :=
  .next (s.tcs ag.hart (.sb ag b a imm) (doSb ag.hart b a imm))

/-- LA (R128). -/
def execLa (ag : Agent) (z : BitVec 1) (ad : BitVec 4) (a : BitVec 5) (imm : BitVec 16) (s : State) : Out :=
  .next (s.tcs ag.hart (.la ag z ad a imm) (doLa ag.hart ad a imm))

/-- SA (R128). -/
def execSa (ag : Agent) (z : BitVec 1) (ab : BitVec 4) (a : BitVec 5) (imm : BitVec 16) (s : State) : Out :=
  .next (s.tcs ag.hart (.sa ag z ab a imm) (doSa ag.hart ab a imm))

/-- AOP (R131). -/
def execAop (ag : Agent) (dst src1 b sh : BitVec 5) (z : BitVec 1) (fn : BitVec 5) (s : State) : Out :=
  .next (s.tcs ag.hart (.aop ag dst src1 b sh z fn) (doAop ag.hart dst src1 b sh fn))

/-- AADDI (R128). -/
def execAaddi (ag : Agent) (z1 : BitVec 1) (ad : BitVec 4) (z0 : BitVec 1) (aa : BitVec 4) (imm : BitVec 16) (s : State) : Out :=
  .next (s.tcs ag.hart (.aaddi ag z1 ad z0 aa imm) (doAaddi ag.hart ad aa imm))

/-- CMP (R132). -/
def execCmp (ag : Agent) (z1 : BitVec 2) (pd : BitVec 3) (a b : BitVec 5) (z0 : BitVec 7) (cond : BitVec 4) (s : State) : Out :=
  .next (s.tcs ag.hart (.cmp ag z1 pd a b z0 cond) (doCmp ag.hart pd a b cond))

/-- CMPI (R132). -/
def execCmpi (ag : Agent) (cond : BitVec 4) (pd : BitVec 3) (a : BitVec 5) (imm : BitVec 14) (s : State) : Out :=
  .next (s.tcs ag.hart (.cmpi ag cond pd a imm) (doCmpi ag.hart cond pd a imm))

/-- PLOG (R133). -/
def execPlog (ag : Agent) (d a b : BitVec 5) (fn : BitVec 11) (s : State) : Out :=
  .next (s.tcs ag.hart (.plog ag d a b fn) (doPlog ag.hart d a b fn))

/-- BP (R136). -/
def execBp (ag : Agent) (n : BitVec 1) (pp : BitVec 3) (z : BitVec 6) (off : BitVec 16) (s : State) : Out :=
  .next (s.tcs ag.hart (.bp ag n pp z off) (doBp ag.hart n pp off))

/-- BC (R134). -/
def execBc (ag : Agent) (n : BitVec 1) (sel : BitVec 8) (z : BitVec 1) (off : BitVec 16) (s : State) : Out :=
  .next (s.tcs ag.hart (.bc ag n sel z off) (doBc ag.hart n sel off))

/-- BFLAG (R135). -/
def execBflag (ag : Agent) (n k : BitVec 1) (i : BitVec 6) (flag : BitVec 2) (off : BitVec 16) (s : State) : Out :=
  .next (s.tcs ag.hart (.bflag ag n k i flag off) (doBflag ag.hart n k i flag off))

/-- BCMP (R128). -/
def execBcmp (ag : Agent) (cond : BitVec 2) (a b : BitVec 5) (off : BitVec 14) (s : State) : Out :=
  .next (s.tcs ag.hart (.bcmp ag cond a b off) (doBcmp ag.hart cond a b off))

/-- JAL (R128). -/
def execJal (ag : Agent) (d : BitVec 5) (off : BitVec 21) (s : State) : Out :=
  .next (s.tcs ag.hart (.jal ag d off) (doJal ag.hart d off))

/-- JALR (R128). -/
def execJalr (ag : Agent) (d a : BitVec 5) (imm : BitVec 16) (s : State) : Out :=
  .next (s.tcs ag.hart (.jalr ag d a imm) (doJalr ag.hart d a imm))

/-- PUSH (R139). -/
def execPush (ag : Agent) (q : BitVec 3) (a : BitVec 5) (ax ay : BitVec 4) (x y : BitVec 1) (u : BitVec 8) (s : State) : Out :=
  .next (s.tcs ag.hart (.push ag q a ax ay x y u) (doPush ag.hart q a ax ay x y u))

/-- CPOP (R141). -/
def execCpop (ag : Agent) (d : BitVec 5) (q : BitVec 3) (z : BitVec 18) (s : State) : Out :=
  .next (s.tcs ag.hart (.cpop ag d q z) (doCpop ag.hart d q))

/-- WAITQ (R128). -/
def execWaitq (ag : Agent) (z1 : BitVec 5) (q : BitVec 3) (z0 : BitVec 12) (n : BitVec 6) (s : State) : Out :=
  .next (s.tcs ag.hart (.waitq ag z1 q z0 n) (doWaitq ag.hart q n))

/-- STRM (R143). -/
def execStrm (ag : Agent) (m last : BitVec 1) (aa : BitVec 4) (b : BitVec 5) (z : BitVec 15) (s : State) : Out :=
  .next (s.tcs ag.hart (.strm ag m last aa b z) (doStrm ag.hart m last aa b))

/-- SIG (R147). -/
def execSig (ag : Agent) (t : BitVec 1) (cn : BitVec 4) (a b : BitVec 5) (z : BitVec 11) (s : State) : Out :=
  .next (s.tcs ag.hart (.sig ag t cn a b z) (doSig ag.hart t cn a b))

/-- CWAIT (R145). -/
def execCwait (ag : Agent) (z1 : BitVec 1) (cn : BitVec 4) (z0 : BitVec 5) (imm : BitVec 16) (s : State) : Out :=
  .next (s.tcs ag.hart (.cwait ag z1 cn z0 imm) (doCwait ag.hart cn imm))

/-- CSRR (R159). -/
def execCsrr (ag : Agent) (d : BitVec 5) (z : BitVec 9) (off : BitVec 12) (s : State) : Out :=
  .next (s.tcs ag.hart (.csrr ag d z off) (doCsrr ag.hart d off))

/-- CSRW (R159). -/
def execCsrw (ag : Agent) (b : BitVec 5) (z : BitVec 9) (off : BitVec 12) (s : State) : Out :=
  .next (s.tcs ag.hart (.csrw ag b z off) (doCsrw ag.hart b off))

/-- RDTIME (R157). -/
def execRdtime (ag : Agent) (d : BitVec 5) (z : BitVec 21) (s : State) : Out :=
  .next (s.tcs ag.hart (.rdtime ag d z) (doRdtime ag.hart d))

/-- WAITT (R157). -/
def execWaitt (ag : Agent) (z1 : BitVec 5) (a : BitVec 5) (z0 : BitVec 16) (s : State) : Out :=
  .next (s.tcs ag.hart (.waitt ag z1 a z0) (doWaitt ag.hart a))

/-- KNOTE (R328). -/
def execKnote (ag : Agent) (z1 a b : BitVec 5) (z0 : BitVec 11) (s : State) : Out :=
  .next (s.tcs ag.hart (.knote ag z1 a b z0) (doKnote ag.hart a b))

/-- NOP (R128). -/
def execNop (ag : Agent) (z : BitVec 10) (arg : BitVec 8) (s : State) : Out :=
  .next (s.tcs ag.hart (.nop ag z arg) (doNop))

/-- HALT (R149). -/
def execHalt (ag : Agent) (z : BitVec 10) (arg : BitVec 8) (s : State) : Out :=
  .next (s.tcs ag.hart (.halt ag z arg) (doHalt ag.hart arg))

/-- IFENCE (R152). -/
def execIfence (ag : Agent) (z : BitVec 10) (arg : BitVec 8) (s : State) : Out :=
  .next (s.tcs ag.hart (.ifence ag z arg) (doIfence ag.hart))

/-- WDOG (R151). -/
def execWdog (ag : Agent) (z : BitVec 10) (arg : BitVec 8) (s : State) : Out :=
  .next (s.tcs ag.hart (.wdog ag z arg) (doWdog ag.hart))

/-- CLKSEL (R156). -/
def execClksel (ag : Agent) (z : BitVec 10) (arg : BitVec 8) (s : State) : Out :=
  .next (s.tcs ag.hart (.clksel ag z arg) (doClksel ag.hart arg))

/-- SPUSH (R310). -/
def execSpush (ag : Agent) (tq : BitVec 4) (a : BitVec 5) (ax ay : BitVec 4) (x y : BitVec 1) (u : BitVec 7) (s : State) : Out :=
  .next (s.tcs ag.hart (.spush ag tq a ax ay x y u) (doSpush ag.hart tq a ax ay x y u))

/-- SPOP (R309). -/
def execSpop (ag : Agent) (d : BitVec 5) (z : BitVec 21) (s : State) : Out :=
  .next (s.tcs ag.hart (.spop ag d z) (doSpop ag.hart d))

/-- SWAITQ (R309). -/
def execSwaitq (ag : Agent) (z : BitVec 19) (n : BitVec 7) (s : State) : Out :=
  .next (s.tcs ag.hart (.swaitq ag z n) (doSwaitq ag.hart n))

/-- SSTRM (R309). -/
def execSstrm (ag : Agent) (m : BitVec 3) (last : BitVec 1) (aa : BitVec 4) (b : BitVec 5) (z : BitVec 13) (s : State) : Out :=
  .next (s.tcs ag.hart (.sstrm ag m last aa b z) (doSstrm ag.hart m last aa b))

/-- SSIG (R309). -/
def execSsig (ag : Agent) (a b : BitVec 5) (z : BitVec 16) (s : State) : Out :=
  .next (s.tcs ag.hart (.ssig ag a b z) (doSsig ag.hart a b))

/-- SRECV (R324). -/
def execSrecv (ag : Agent) (d : BitVec 5) (pp : BitVec 3) (nb : BitVec 1) (z : BitVec 17) (s : State) : Out :=
  .next (s.tcs ag.hart (.srecv ag d pp nb z) (doSrecv ag.hart d pp nb))

/-- SRES (R327). -/
def execSres (ag : Agent) (d : BitVec 5) (pp : BitVec 3) (nb : BitVec 1) (z : BitVec 17) (s : State) : Out :=
  .next (s.tcs ag.hart (.sres ag d pp nb z) (doSres ag.hart d pp nb))

/-- SBC (R311). -/
def execSbc (ag : Agent) (n : BitVec 1) (sel : BitVec 8) (z : BitVec 1) (off : BitVec 16) (s : State) : Out :=
  .next (s.tcs ag.hart (.sbc ag n sel z off) (doSbc ag.hart n sel off))

/-- WAITT_TIME_REACHED (R157): the instruction that control core `h` waits with issues once the cluster's DTIME copy has
reached its time. -/
def execWaittTimeReached (h : Fin 1056) (s : State) : Out :=
  match (s.hart h.val).stall with
  | some (.waitt _ _ a _) =>
    .next ((s.advanceCopy (hartClu h.val) (s.pair h.val a.toNat)).retry h.val)
  | _ => .next s

end Sys2Proof.Machine
end

