-- ==== Sys2Proof/Machine/QueueRows.lean ====
section
/-!
DEFINITION. The life of a command in its queue: issue (R161, R165, R166, R168, R204, R544), completion (R171) and the
response timeout (R178).
-/

namespace Sys2Proof.Machine

/-- R139, R310: the oldest command of queue `q` that has not issued; a sequencer has one issue queue. -/
def State.nextCmd (s : State) (h q : Nat) : Option Cmd := (s.qCmds h q).find? fun k => k.phase = .waiting

/-- A command ends at its issue with the statuses that apply and no effect; what it planned counts as refused (R213). -/
def State.endAtIssue (s : State) (h : Nat) (k : Cmd) (sts : List Status) : State :=
  if k.isStream h then s.fixStream h k.id sts
  else (s.planned h (s.mvPlan h k) 0 (s.mvPlan h k) 0).endNow h k sts

/-- R204: the bytes of an APPEND in device addresses, and its source. -/
def State.appendRuns (s : State) (h : Nat) (k : Cmd) : Nat × Extent :=
  let e := k.endpoint 2
  (s.apBase h k.mover k.aptr + s.f (AP_PEND_PENDING h k.mover k.aptr),
    ⟨e.origin false, e.origin false + s.f (AP_STEP_STEP h k.mover k.aptr) - 1⟩)

/-- R204: the pointer, its class, its limit and the runs it names are in order. -/
def State.appendBad (s : State) (h : Nat) (k : Cmd) : Bool :=
  let m := k.mover
  let step := s.f (AP_STEP_STEP h m k.aptr)
  let e := k.endpoint 2
  let r := s.appendRuns h k
  step = 0 || step % 2 ^ k.esize ≠ 0 || 2 < s.f (AP_BASEH_CLS h m k.aptr)
    || s.f (AP_LIMIT_LIMIT h m k.aptr) < s.f (AP_PEND_PENDING h m k.aptr) + step
    || !csrShapeOk e k.esize (2 ^ k.esize) [ 0] || !e.holds false r.2
    || clsBase (s.f (AP_BASEH_CLS h m k.aptr) + 1) < r.1 + step

/-- R174, R204: the statuses with which an APPEND ends at its issue; none where it goes on. -/
def State.appendStatuses (s : State) (h : Nat) (k : Cmd) : List Status :=
  if s.appendBad h k then [ Status.range]
  else
    let e := k.endpoint 2
    let r := s.appendRuns h k
    [ s.accessStatus h r.1 (s.f (AP_STEP_STEP h k.mover k.aptr)),
      if e.kind = 0 then s.extentStatus h r.2 else .ok].filter (· ≠ .ok)

/-- R173: the WALL Warnings of an APPEND refused at the wall. -/
def State.appendWall (s : State) (h : Nat) (k : Cmd) : State :=
  if s.appendBad h k then s
  else
    let r := s.appendRuns h k
    let s := s.wallEvent h k r.1 (s.f (AP_STEP_STEP h k.mover k.aptr))
    if (k.endpoint 2).kind = 0 then s.wallEvent h k r.2.lo.toNat r.2.len else s

/-- R544: the extents of a WALK in the cycle it issues and reads its descriptor. -/
def State.narrow (s : State) (h : Nat) (k : Cmd) : Cmd :=
  if k.isWalk h then
    match s.descr h k with
    | some l => { k with extS := (k.walkUnits l).1, extD := (k.walkUnits l).2 }
    | none => k
  else k

/-- R168, R196: the regions a command reads at its issue: those of its runs, of a WALK the narrowed ones, of an APPEND the
STEP bytes it takes. A SCATTER reads them entry by entry. -/
def State.readRegions (s : State) (h : Nat) (k : Cmd) : List Nat :=
  if isSeqHart h || k.q = 0 || k.isStream h then []
  else if k.isAppend h then
    if (k.endpoint 2).kind = 2 then
      (List.range ((s.f (AP_STEP_STEP h k.mover k.aptr) + 32767) / 32768)).map ((k.endpoint 2).addr + ·)
    else []
  else ((k.reads h).filter (64 ≤ ·)).map (· - 64)

/-- R168: a region the command would read is open. Passes pushed before that write it have run by then (R166). -/
def State.openRead (s : State) (h : Nat) (k : Cmd) : Bool := (s.readRegions h k).any fun g => s.on (GSTAT_OPEN h g)

/-- R168, R174, R193, R204: the statuses with which a command ends where it would begin to read. -/
def State.issueStatuses (s : State) (h : Nat) (k : Cmd) : List Status :=
  let own := if k.isAppend h then s.appendStatuses h k else []
  if s.openRead h k then
    (if k.isWalk h then s.walkStop h k else own) ++ [ Status.state]
  else own

/-- The WALL Warnings of a command that ends there. -/
def State.issueWall (s : State) (h : Nat) (k : Cmd) : State :=
  if k.isAppend h then s.appendWall h k
  else if k.isWalk h then
    match s.descr h k with
    | some l => s.walkWall h k l
    | none => s
  else s

/-- An APPEND waits for an earlier COMMIT of its pointer to take place (R205). -/
def State.commitAhead (s : State) (h : Nat) (k : Cmd) : Bool :=
  k.isAppend h && (s.earlier h k).any fun e => e.q = k.q && e.op = 5 && e.aptr = k.aptr && e.phase ≠ .ran

/-- R321: from the issue of a GCLR its group takes no MCAST. -/
def State.gclrIssue (s : State) (h : Nat) (k : Cmd) : State :=
  if isSeqHart h && k.q = 10 && k.op = 2 then
    s.modPart (s.partOf (hartClu h)) fun x =>
      match x.groups.get none (k.fld 2 0 8) with
      | some g => { x with groups := x.groups.set none (k.fld 2 0 8) (some { g with clearing := true }) }
      | none => x
  else s

/-- R161, R166: the command issues now, if nothing holds it. -/
def State.issue (s : State) (h : Nat) (k : Cmd) : State :=
  if !s.cluRuns (hartClu h) || !s.mayIssue h k || s.sbWait h k || s.commitAhead h k then s
  else
    let n := s.narrow h k
    let sts := s.issueStatuses h n
    if !sts.isEmpty then (s.issueWall h k).endAtIssue h k sts
    else
        let pend := if k.isAppend h then s.f (AP_PEND_PENDING h k.mover k.aptr) else 0
        let s := s.modCmd h k.id fun x => { x with extS := n.extS, extD := n.extD, pos := pend }
        let s := ((s.markIssued h k).touch (hartClu h)).gclrIssue h k
        if k.isAppend h then
          (s.setF (AP_PEND_PENDING h k.mover k.aptr) (pend + s.f (AP_STEP_STEP h k.mover k.aptr))).setF (AP_STAT_OPEN h k.mover k.aptr) 1
        else s

/-- R202: a stream of a control core that is not in RUN waits for no entry. -/
def State.streamsIdle (s : State) (h : Nat) : State :=
  if s.f (CC_STAT_STATE h) = 1 then s else (movers h).foldl (fun t m => t.streamCancel h m) s

/-- Issue the oldest waiting command of a queue; then look at the queues' heads and at the stalled instruction. -/
def State.issueNext (s : State) (h q : Nat) : State :=
  match s.nextCmd h q with
  | none => s
  | some k => (((s.issue h k).streamsIdle h).settleAll h).retry h

/-- COMMAND_ISSUE (R166): the oldest waiting command of queue `q` of control core `h`; a sequencer has one issue queue,
whatever `q`. -/
def execCommandIssue (h : Fin 1056) (q : Fin 12) (s : State) : Out := .next (s.issueNext h.val q.val)

/-- TIMED_LAUNCH (R165): the same once the cluster's DTIME copy has reached the command's launch time. -/
def execTimedLaunch (h : Fin 1056) (q : Fin 12) (s : State) : Out :=
  match s.nextCmd h.val q.val with
  | none => .next s
  | some k => .next (if k.timed then (s.advanceCopy (hartClu h.val) k.launch).issueNext h.val q.val else s)

/-- The oldest command of queue or target `q` whose effects are all visible (R152, R171); in MQ and VQ, which write their
records in push order (R160), the oldest of all. -/
def State.doneCmd (s : State) (h q : Nat) : Option Cmd :=
  if inOrder h q then
    match (s.hart h).cmds.find? fun k => k.q = q with
    | some k => if k.phase = .ran && k.wait = 0 then some k else none
    | none => none
  else (s.hart h).cmds.find? fun k => k.q = q && k.phase = .ran && k.wait = 0

/-- Complete a command; what waited for it goes on. -/
def State.finish (s : State) (h id : Nat) : State := (((s.complete h id).touch (hartClu h)).settleAll h).retry h

/-- COMMAND_COMPLETION (R171): the oldest command of queue, or target, `q` that has run completes. -/
def execCommandCompletion (h : Fin 1056) (q : Fin 12) (s : State) : Out :=
  match s.doneCmd h.val q.val with
  | none => .next s
  | some k => .next (s.finish h.val k.id)

/-- R178: the response timeout of a command; a cluster mover has no register of its own (log entry 40). -/
def State.remoteUs (s : State) (h : Nat) : Nat := if isSeqHart h then 1000 else s.f (EQ_TMO_REMOTE_US h)

/-- A command that talks to other units (R178). -/
def isRemote (h q : Nat) : Bool := if isSeqHart h then 1 ≤ q && q ≤ 8 else q = 2 || q = 3 || q = 4

/-- REMOTE_RESPONSE_TIMEOUT (R178): the oldest command of queue or target `q` at work has had no response in time. It
stops where it stands, none of what it was to write is to be relied on, and it completes with TIMEOUT. -/
def execRemoteResponseTimeout (h : Fin 1056) (q : Fin 12) (s : State) : Out :=
  match (s.hart h.val).cmds.find? fun k => k.q = q.val && k.phase = .issued with
  | none => .next s
  | some k =>
    if isRemote h.val q.val then
      let s := s.advanceCopy (hartClu h.val) (k.since + 2 * s.remoteUs h.val * 1000 * nsU)
      let s := (s.cutMove h.val k).dropEntries h.val k
      .next ((s.stopCmd h.val k.id .timeout).finish h.val k.id)
    else .next s

end Sys2Proof.Machine
end

