-- ==== Sys2Proof/Machine/Movers.lean ====
section
/-!
DEFINITION. The movers (R190–R215): copying between endpoints, walks, stream entries, appends and commits, of a core's
two movers and of a cluster's eight.
-/

namespace Sys2Proof.Machine

/-! ### Copying -/

/-- What a row says of memory words: found uncorrectable (R228), or, named by an odd number, corrected (R238–R240). -/
def State.addPoison (s : State) (bad : List Nat) : State :=
  bad.foldl (fun t w =>
    if w % 2 = 1 then t.countCe (w - 1)
    else
      let w := w / eccSize w * eccSize w
      if t.poison.contains w then t else { t with poison := t.poison ++ [ w] }) s

/-- `k` unspecified bytes. -/
def State.freeBytesList (s : State) (k : Nat) : List Byte × State :=
  let f := s.takeFree
  ((List.range k).map fun i => Config.freeByte f.1 i, f.2)

/-- R357: an access to a core's IMEM or DMEM, or to a sequencer's memories, wakes a cluster in Steep or Rest. -/
def State.wakeAccess (s : State) (a : Nat) : State :=
  match target a with
  | .imem n _ | .dmem n _ => s.wakeClu (n / 32)
  | .simem c _ | .sdmem c _ => s.wakeClu c
  | _ => s

/-- R191, R228: read `k` bytes at a device address: a register as one word, memory with its uncorrectable words. -/
def State.devGet (s : State) (a k : Nat) : List Byte × Bool × State :=
  match target a with
  | .csr off =>
    let r := s.csrRead off
    (leBytes k r.1.toNat, false, r.2)
  | _ =>
    let r := (s.wakeAccess a).readDev a k
    if r.2.1 then
      let f := r.2.2.freeBytesList k
      (f.1, true, f.2)
    else r

/-- R191, R226, R228: write at a device address; the statuses met and the writes held (R152). -/
def State.devPut (s : State) (owner : HeldBy) (a : Nat) (d : List Byte) : State × List Status × Nat :=
  match target a with
  | .csr off => (s.csrWrite off (BitVec.ofNat 32 (leVal d)), [], 0)
  | _ => (s.wakeAccess a).writeDev owner a d

/-- R196: read `k` bytes of an endpoint from offset `off` of its base; `pl` addresses scale planes. -/
def State.epGet (s : State) (h : Nat) (e : Endpoint) (pl : Bool) (off : Int) (k : Nat) : List Byte × Bool × State :=
  let b := (e.origin pl + off).toNat
  match e.kind with
  | 0 => s.devGet b k
  | _ => (s.endBytes h e pl b k, false, s)

/-- R196: write bytes of an endpoint. -/
def State.epPut (s : State) (h id : Nat) (e : Endpoint) (pl : Bool) (off : Int) (d : List Byte) :
    State × List Status × Nat :=
  let b := (e.origin pl + off).toNat
  match e.kind with
  | 0 => s.devPut (.cmd h id) b d
  | _ => (s.tileBytes h pl b d, [], 0)

/-! ### The mesh port's packets (R187, R245, R248) -/

/-- The packet of a run of `n` bytes from `a` that begins at its byte `pos`: address and length. -/
def nextRun (a pos n : Nat) : Nat × Nat :=
  let g := if a < clsBase 1 then 256 else 512
  (a + pos, min (a + n) (((a + pos) / g + 1) * g) - (a + pos))

/-- R186, R245, R263: the next packet of a PUT, GET or MCAST of core `n` leaves; of a MCAST, a copy for each member, numbered
by `seg`. A word of the source found uncorrectable is reported with ECC. -/
def State.sendNext (s : State) (n : Nat) (k : Cmd) : State :=
  let p := s.partOf (n / 32)
  let e := k.endpoint 2
  let base := match k.op with | 1 => (k.endpoint 4).dev | 2 => e.dev | _ => clsBase 1
  let x := nextRun base k.pos k.len
  let csr := clsBase 15 ≤ base
  let r : List Byte × Bool × State := if k.op = 2 then ([], false, s) else s.epGet n e false k.pos x.2
  let s := r.2.2
  let l : List Pkt :=
    match k.op with
    | 1 => [ { pkt0 (if csr then tMgmt else tWrite) p n (s.epOf x.1) with addr := x.1, len := x.2, txid := k.id, data := r.1 }]
    | 2 => [ { pkt0 (if csr then tMgmt else tRead) p n (s.epOf x.1) with addr := x.1, len := x.2, txid := k.id }]
    | _ =>
      let g := k.fld 7 0 8
      let ms := match (s.part p).groups.get none g with | some q => q.members | none => []
      ms.zipIdx.map fun m => { pkt0 tMcast p n (s.epOf (memberBase m.1)) with
        addr := k.pos, len := x.2, txid := k.id, gid := g, seg := m.2, lastp := k.pos + x.2 = k.len, data := r.1 }
  (if k.op = 3 then s.sendTree l else s.sendAll l).modCmd n k.id fun y => { y with
    pos := k.pos + x.2, sts := y.sts ++ if r.2.1 then [ Status.ecc] else [] }

/-- R210, R215: free transactions go to the engines of control core `h` that wait for one; the mesh port sends a packet with
each. -/
def State.grantTxns (s : State) (h : Nat) : Nat → State
  | 0 => s
  | fuel + 1 =>
    match s.txnGrant h with
    | none => s
    | some (e, shared) =>
      let t := if shared then s.modHart h fun x => { x with txnTurn := e } else s
      if isPort h e then
        match s.portNext h with
        | some k => (t.sendNext h k).grantTxns h fuel
        | none => t
      else (t.modHart h fun x => { x with txn := x.txn.set 0 e (s.txnUse h e + 1) }).grantTxns h fuel

/-- A command of a mover waits for `held` more writes, each of which holds a transaction (R152, R209). -/
def State.mvHold (s : State) (h id held : Nat) : State :=
  if held = 0 then s
  else
    let t := s.modHart h fun x => { x with
      txn := (List.range (txnEngines h)).foldl (fun m e => m.set 0 e (min (m.get 0 e) (s.moverNeeds h e))) x.txn }
    (t.modCmd h id fun x => { x with wait := x.wait + held }).grantTxns h 512

/-! ### Elements -/

/-- A copy in progress: the statuses met and the writes held so far. -/
structure Moved where
  s : State
  sts : List Status
  held : Nat

/-- Copy one element of `z` bytes from offset `a` of an endpoint to offset `b` of another. -/
def Moved.elem (m : Moved) (h id : Nat) (e1 e2 : Endpoint) (pl1 pl2 : Bool) (shape z : Nat) (a b : Int) : Moved :=
  let r := m.s.epGet h e1 pl1 a z
  let w := r.2.2.epPut h id e2 pl2 b (shapeBytes shape r.1)
  ⟨w.1, m.sts ++ (if r.2.1 then [ Status.ecc] else []) ++ w.2.1, m.held + w.2.2⟩

/-- Copy `n` bytes consecutively, registers a word at a time. -/
def Moved.run (m : Moved) (h id : Nat) (e1 e2 : Endpoint) (pl1 pl2 : Bool) (n : Nat) (a b : Int) : Moved :=
  if (e1.kind = 0 && e1.cls = 15) || (e2.kind = 0 && e2.cls = 15) then
    (List.range (n / 4)).foldl (fun t (i : Nat) => t.elem h id e1 e2 pl1 pl2 0 4 (a + 4 * i) (b + 4 * i)) m
  else m.elem h id e1 e2 pl1 pl2 0 n a b

/-- R213, R216: bytes written, for a core mover's counter. -/
def State.mvBytes (s : State) (h m n : Nat) : State := if isSeqHart h then s else s.bump (MV_BYTES_BYTES h m) n

/-- The control core's mover exists. -/
def hasMover (h m : Nat) : Bool := isSeqHart h || m < 2

/-- The oldest issued command of mover `m` with opcode `op`. -/
def State.moverCmd (s : State) (h m op : Nat) : Option Cmd :=
  if hasMover h m && s.cluRuns (hartClu h) then s.issuedCmd h (moverQ h m) op else none

/-! ### Walks (R192–R198) -/

/-- R192: the elements in walk order. -/
def State.walkCopy (s : State) (h : Nat) (k : Cmd) (l : List Level) : Moved :=
  let z := walkSizes k.shape k.esize
  let e1 := k.endpoint 2
  let e2 := k.endpoint 4
  let pl := k.shape = 3
  (walkOffs l.reverse).foldl (fun t p => t.elem h k.id e1 e2 (pl && e1.kind = 1) (pl && e2.kind = 1) k.shape z.1 p.1 p.2)
    ⟨s, [], 0⟩

/-- A mover command has run: its statuses, its RESULT and the writes it waits for (R152, R170). -/
def State.mvRan (s : State) (h id : Nat) (sts : List Status) (result held : Nat) : State :=
  ((s.ranCmd h id sts Flags.zero result).mvHold h id held).touch (hartClu h)

/-- WALK: the oldest issued WALK of mover `m`. `bad` names memory words found uncorrectable, `ue` says that a tile register,
a region or the descriptor held an uncorrectable error. -/
def State.walk (s : State) (h m : Nat) (bad : List Nat) (ue : Bool) : State :=
  match s.moverCmd h m 1 with
  | none => s
  | some k =>
    let s := s.addPoison bad
    let stops := s.walkStop h k
    match s.descr h k with
    | none => s.mvRan h k.id (stops ++ if ue then [ Status.ecc] else []) 0 0
    | some l =>
      let n := walkTotal k l
      let s := if stops = [ Status.state] then
          ((if (k.endpoint 2).kind = 0 then s.wakeAccess (k.endpoint 2).dev else s)).wakeAccess
            (if (k.endpoint 4).kind = 0 then (k.endpoint 4).dev else clsBase 3) else s
      if stops ≠ [] then ((s.walkWall h k l).planned h n 0 n 0).mvRan h k.id stops 0 0
      else
        let r := s.walkCopy h k l
        let t := if k.carries then r.s.carry h (k.carryPairs l) else r.s
        ((t.planned h n n 0 0).mvBytes h m n).mvRan h k.id (r.sts ++ if ue then [ Status.ecc] else []) n r.held

/-! ### Streams (R199–R203, R545) -/

/-- The stream side and the consecutive side of a stream command, and whether the latter is in scale planes. -/
def Cmd.streamEnd (k : Cmd) : Endpoint := if k.op = 2 then k.endpoint 2 else k.endpoint 4
def Cmd.evenEnd (k : Cmd) : Endpoint := if k.op = 2 then k.endpoint 4 else k.endpoint 2
def Cmd.streamPlanes (k : Cmd) : Bool := k.shape = 3 && k.evenEnd.kind = 1
/-- The bytes an entry names on the stream side, and where they lie on the consecutive side. -/
def Cmd.entryAddr (k : Cmd) (x : AqEntry) : Nat := devAddr k.streamEnd.cls x.off
def Cmd.entryEven (k : Cmd) (x : AqEntry) : Extent :=
  ⟨k.evenEnd.origin k.streamPlanes + k.pos, k.evenEnd.origin k.streamPlanes + k.pos + x.len - 1⟩

/-- R201: an entry refused for its length, its alignment, R191 or the bounds of its endpoints. -/
def Cmd.entryBad (k : Cmd) (x : AqEntry) : Bool :=
  2 ^ 24 < x.len || x.len % 2 ^ k.esize ≠ 0 || x.off % 2 ^ k.esize ≠ 0
    || (k.streamEnd.cls = 15 && k.esize ≠ 2) || !csrShapeOk k.evenEnd k.esize (2 ^ k.esize) [ (k.pos : Int)]
    || clsBase (k.streamEnd.cls + 1) < k.entryAddr x + x.len || !k.evenEnd.holds k.streamPlanes (k.entryEven x)

/-- R174, R201: the statuses that refuse an entry; none for one that is moved. -/
def State.entryStatuses (s : State) (h : Nat) (k : Cmd) (x : AqEntry) : List Status :=
  if x.len = 0 then []
  else if k.entryBad x then [ Status.range]
  else [ s.accessStatus h (k.entryAddr x) x.len,
    if k.evenEnd.kind = 0 then s.extentStatus h (k.entryEven x) else .ok].filter (· ≠ .ok)

/-- R173: the WALL Warnings of an entry refused at the wall. -/
def State.entryWall (s : State) (h : Nat) (k : Cmd) (x : AqEntry) : State :=
  if x.len = 0 || k.entryBad x then s
  else
    let s := s.wallEvent h k (k.entryAddr x) x.len
    if k.evenEnd.kind = 0 then s.wallEvent h k (k.entryEven x).lo.toNat x.len else s

/-- R168: a SCATTER would read an open region for this entry. -/
def State.entryOpen (s : State) (h : Nat) (k : Cmd) (x : AqEntry) : Bool :=
  !isSeqHart h && k.evenEnd.kind = 2 && k.op = 3 && x.len ≠ 0 &&
    (List.range ((k.pos + x.len + 32767) / 32768)).any fun i =>
      k.pos / 32768 ≤ i && s.on (GSTAT_OPEN h (k.evenEnd.addr + i))

/-- R201: entry `x` is refused for stream command `k` with `sts`, none of which a command whose status is fixed takes. -/
def State.refuseEntry (s : State) (h m : Nat) (k : Cmd) (x : AqEntry) (sts : List Status) : State :=
  let s := if isSeqHart h then s else s.bump (MV_STAT_SKIPS h m) 1
  (s.planned h x.len 0 x.len 0).modCmd h k.id fun y => { y with sts := if k.fixed then y.sts else y.sts ++ sts }

/-- R200: entry `x` moves for stream command `k`. -/
def State.moveEntry (s : State) (h m : Nat) (k : Cmd) (x : AqEntry) (ue : Bool) : State :=
  let se : Endpoint := ⟨x.off, k.streamEnd.cls, 0, 0⟩
  let r : Moved := if x.len = 0 then ⟨s, [], 0⟩
    else if k.op = 2 then (Moved.mk s [] 0).run h k.id se k.evenEnd false k.streamPlanes x.len 0 k.pos
    else (Moved.mk s [] 0).run h k.id k.evenEnd se k.streamPlanes false x.len k.pos 0
  let t := (r.s.planned h x.len x.len 0 0).mvBytes h m x.len
  (t.mvHold h k.id r.held).modCmd h k.id fun y => { y with
    result := y.result + x.len,
    sts := y.sts ++ r.sts ++ if ue then [ Status.ecc] else [] }

/-- Take one entry for stream command `k` (R199–R201): it moves, or is refused; the consecutive side advances. A SCATTER
that meets an open region before it has moved a byte ends with STATE (R168, R545); later on it refuses the entry with
STATE (log entry 22). -/
def State.takeEntry (s : State) (h m : Nat) (k : Cmd) (x : AqEntry) (ue : Bool) : State :=
  let s := s.modHart h fun y => { y with aq := y.aq.erase x }
  let sts := s.entryStatuses h k x
  let s :=
    if k.fixed then s.refuseEntry h m k x []
    else if !sts.isEmpty then
      let s := if sts.contains .state then s.wakeAccess (k.entryAddr x) else s
      (s.entryWall h k x).refuseEntry h m k x sts
    else if s.entryOpen h k x then
      let s := s.refuseEntry h m k x [ Status.state]
      if k.result = 0 then s.fixStream h k.id [] else s
    else s.moveEntry h m k x ue
  let s := (s.modCmd h k.id fun y => { y with pos := y.pos + x.len }).touch (hartClu h)
  if x.last then s.modCmd h k.id fun y => { y with phase := .ran } else s

/-- The stream command of mover `m` that takes entries, with the first entry. -/
def State.streamNext (s : State) (h m : Nat) : Option (Cmd × AqEntry) :=
  if hasMover h m && s.cluRuns (hartClu h) then
    match (s.streams h m).find? fun k => k.phase = .issued, s.aqOf h m with
    | some k, x :: _ => some (k, x)
    | _, _ => none
  else none

/-- STREAM_ENTRY: mover `m` takes one entry; an instruction that waits for a place goes on. -/
def State.streamEntry (s : State) (h m : Nat) (bad : List Nat) (ue : Bool) : State :=
  match s.streamNext h m with
  | none => s
  | some (k, x) => ((s.addPoison bad).takeEntry h m k x ue).retry h

/-- Take the entries held, up to the first with LAST, for the stream command with opcode `op`. -/
def State.streamRun (s : State) (h m op : Nat) (ue : Bool) : Nat → State
  | 0 => s
  | fuel + 1 =>
    match s.streamNext h m with
    | none => s
    | some (k, x) =>
      if k.op ≠ op then s
      else
        let t := s.takeEntry h m k x ue
        if x.last then t else t.streamRun h m op ue fuel

/-! ### Appends and commits (R204–R206) -/

/-- APPEND: STEP bytes, read consecutively from the source, at BASE + PENDING as it stood at the issue. -/
def State.append (s : State) (h m : Nat) (bad : List Nat) (ue : Bool) : State :=
  if isSeqHart h then s
  else
    match s.moverCmd h m 4 with
    | none => s
    | some k =>
      let s := s.addPoison bad
      let n := s.f (AP_STEP_STEP h m k.aptr)
      let a := s.apBase h m k.aptr + k.pos
      let d : Endpoint := ⟨a % clsBase 1, a / clsBase 1, 0, 0⟩
      let r := (Moved.mk s [] 0).run h k.id (k.endpoint 2) d false false n 0 0
      ((r.s.planned h n n 0 0).mvBytes h m n).mvRan h k.id (r.sts ++ if ue then [ Status.ecc] else []) n r.held

/-- COMMIT (R205). -/
def State.commit (s : State) (h m : Nat) : State :=
  if isSeqHart h then s
  else
    match s.moverCmd h m 5 with
    | none => s
    | some k =>
      let a := k.aptr
      if !s.on (AP_STAT_OPEN h m a) then s.mvRan h k.id [ Status.state] 0 0
      else if !s.on (AP_STAT_BROKEN h m a) then
        ((s.setF (AP_COMMIT_COMMITTED h m a) (s.f (AP_PEND_PENDING h m a))).setF (AP_STAT_OPEN h m a) 0).mvRan h k.id [] 0 0
      else
        let s := (s.setF (AP_PEND_PENDING h m a) (s.f (AP_COMMIT_COMMITTED h m a))).setF (AP_STAT_OPEN h m a) 0
        ((s.setF (AP_STAT_BROKEN h m a) 0).bump (AP_STAT_ROLLBACKS h m a) 1).mvRan h k.id [ Status.state] 0 0

/-! ### The rows -/

/-- WALK (R192). -/
def execWalk (h : Fin 1056) (m : Fin 8) (bad : List Nat) (ue : Bool) (s : State) : Out := .next (s.walk h.val m.val bad ue)

/-- GATHER (R200): the entries held, up to LAST. -/
def execGather (h : Fin 1056) (m : Fin 8) (bad : List Nat) (ue : Bool) (s : State) : Out :=
  .next (((s.addPoison bad).streamRun h.val m.val 2 ue 256).retry h.val)

/-- SCATTER (R200). -/
def execScatter (h : Fin 1056) (m : Fin 8) (bad : List Nat) (ue : Bool) (s : State) : Out :=
  .next (((s.addPoison bad).streamRun h.val m.val 3 ue 256).retry h.val)

/-- APPEND (R204). -/
def execAppend (h : Fin 1056) (m : Fin 8) (bad : List Nat) (ue : Bool) (s : State) : Out := .next (s.append h.val m.val bad ue)

/-- COMMIT (R205). -/
def execCommit (h : Fin 1056) (m : Fin 8) (s : State) : Out := .next (s.commit h.val m.val)

/-- STREAM_ENTRY (R199). -/
def execStreamEntry (h : Fin 1056) (m : Fin 8) (bad : List Nat) (ue : Bool) (s : State) : Out :=
  .next (s.streamEntry h.val m.val bad ue)

end Sys2Proof.Machine
end

