-- ==== Sys2Proof/Machine/MeshRows.lean ====
section
/-!
DEFINITION. The mesh port's commands PUT, GET, MCAST and SHEAF (R186, R263, R265), the packets they send and what meets
them (R247, R248), sheaves at their roots (R264–R269, R327), links and routers (R251, R255, R257, R262), partition reset
and a field's outage (R271, R272).
-/

namespace Sys2Proof.Machine

/-! ### Sending (R245) -/

/-- The oldest issued mesh-port command of opcode `op` that has something left to send. -/
def State.nqCmd (s : State) (n op : Nat) : Option Cmd :=
  if s.cluRuns (n / 32) then
    (s.hart n).cmds.find? fun k => k.q = 4 && k.phase = .issued && k.op = op && k.pos < k.len
  else none

/-- A mesh-port command has sent everything. -/
def State.nqSent (s : State) (n : Nat) (k : Cmd) (sts : List Status) : State :=
  (s.modCmd n k.id fun x => { x with pos := k.len, sts := x.sts ++ sts }).touch (n / 32)

/-- R187, R210: a mesh-port command sends its next packet, and what else the transactions allow; with none free it waits.
`ue` says that a tile or region of its source held an uncorrectable error. -/
def State.portSend (s : State) (n : Nat) (k : Cmd) (bad : List Nat) (ue : Bool) : State :=
  if !s.portFree n then s
  else
    let s := if s.txnUse n 2 < 16 then s else s.modHart n fun x => { x with txnTurn := 2 }
    let s := (s.addPoison bad).sendNext n k
    ((s.modCmd n k.id fun x => { x with sts := x.sts ++ if ue then [ Status.ecc] else [] }).grantTxns n 128).touch (n / 32)

/-- PUT (R186): local bytes go out in packets, MGMT for a register. -/
def State.put (s : State) (n : Nat) (bad : List Nat) (ue : Bool) : State :=
  match s.nqCmd n 1 with
  | none => s
  | some k => s.portSend n k bad ue

/-- GET (R186): read requests go out. -/
def State.get (s : State) (n : Nat) : State :=
  match s.nqCmd n 2 with
  | none => s
  | some k => s.portSend n k [] false

/-- R186, R261: the group that an MCAST of core `n` names; none for a group not set up, being cleared, or rooted at another
core. -/
def State.mcastGroup (s : State) (n gid : Nat) : Option Group :=
  match (s.part (s.partOf (n / 32))).groups.get none gid with
  | some g => if g.src = n && !g.clearing then some g else none
  | none => none

/-- MCAST (R263): copies of the message for each member, in packets. -/
def State.mcast (s : State) (n : Nat) (bad : List Nat) (ue : Bool) : State :=
  match s.nqCmd n 3 with
  | none => s
  | some k => if k.pos = 0 ∧ (s.mcastGroup n (k.fld 7 0 8)).isNone then s.stopCmd n k.id .state else s.portSend n k bad ue

/-- R265: scale and flags of the source of a SHEAF; none where its tiles carry different scales. -/
def State.sheafSource (s : State) (n : Nat) (k : Cmd) : Option (Int × Flags) :=
  let e := k.endpoint 2
  let us := unitList e.addr (if e.kind = 2 then (k.len + 32767) / 32768 else (k.len + 4095) / 4096)
  let reg := e.kind = 2
  let x := s.unitScale reg n e.addr
  if us.all fun u => s.unitScale reg n u = x then some (x, Flags.any (us.map (s.unitFlags reg n))) else none

/-- SHEAF (R265, R266): the check against the port's entry, then one packet for each segment, for each of which the port takes a
transaction until a router accepts it (R248). While the sheaf is arming, a port may hold the entry or not (R264). A SHEAF that
fails the check leaves the VOID packets to its completion. -/
def State.sheafSend (s : State) (n : Nat) (ue : Bool) : State :=
  match s.nqCmd n 4 with
  | none => s
  | some k =>
    let p := s.partOf (n / 32)
    let i := k.fld 7 0 8
    let r := (s.part p).sheafAt.get 0 i
    if p = 0xFF ∨ r = 0 then s.stopCmd n k.id .state
    else
      match s.sheaf (r - 1) i, s.sheafSource n k with
      | some x, some src =>
        let d := s.shDesc (r - 1) i
        if s.f (SHF_STAT_STATE (r - 1) i) = 1 && !Config.freeBit s.free then (s.takeFree.2).stopCmd n k.id .state
        else if s.portRoom n < shSegs d.len then s
        else if d.len ≠ k.len ∨ d.scale ≠ src.1 then s.stopCmd n k.id .range
        else if ue then s.stopCmd n k.id .ecc
        else
          let e := k.endpoint 2
          let l := (List.range (shSegs d.len)).map fun g =>
            { pkt0 tSheaf p n (sheafEp (r - 1)) with
              len := min 512 (d.len - 512 * g), txid := x.gen, gid := i, seg := g, ccount := 1, scale := src.1,
              flags := src.2, sop := d.op,
              grains := (List.range (shSegGrains d.len g)).map fun j => s.grainAt (e.kind = 2) n e.addr (64 * g + j) }
          let s := (s.sendAll l).ledgerAdd p lInjected (shSegs d.len)
          (s.ranCmd n k.id [] Flags.zero (d.len / 8)).nqSent n k []
      | none, _ => s.stopCmd n k.id .state
      | _, none => s.stopCmd n k.id .range

/-- PUT (R186). -/
def execPut (n : Fin 1024) (bad : List Nat) (ue : Bool) (s : State) : Out := .next (s.put n.val bad ue)
/-- GET (R186). -/
def execGet (n : Fin 1024) (s : State) : Out := .next (s.get n.val)
/-- MCAST (R263). -/
def execMcast (n : Fin 1024) (bad : List Nat) (ue : Bool) (s : State) : Out := .next (s.mcast n.val bad ue)
/-- SHEAF (R265). -/
def execSheaf (n : Fin 1024) (ue : Bool) (s : State) : Out := .next (s.sheafSend n.val ue)

/-! ### Requests at their units (R247) -/

/-- READ: packet `i` reaches its memory; `bad` names words of it found uncorrectable. -/
def execRead (i : Nat) (bad : List Nat) (s : State) : Out :=
  match s.arrival i tRead with
  | none => .next s
  | some (p, s) =>
    match s.portStops p tRdata with
    | some t => .next t
    | none =>
      let s := s.wakeAccess p.addr
      let st := s.runStatus p.addr p.len
      if st ≠ .ok then .next (s.respond p tRdata st [])
      else
        let r := (s.addPoison bad).devGet p.addr p.len
        .next (r.2.2.respond p tRdata (if r.2.1 then .ecc else .ok) r.1)

/-- R152, R546: a WRITE at its memory: the data is written, or held for the IMEM of a running core, and acknowledged. A
held write is answered when it is written or discarded. -/
def State.writeAt (s : State) (p : Pkt) (resp : Nat) : State :=
  let s := s.wakeAccess p.addr
  let st := s.runStatus p.addr p.len
  if st ≠ .ok then s.respond p resp st []
  else
    let r := s.devPut (.req p) p.addr p.data
    if r.2.2 = 0 then r.1.respond p resp (if r.2.1.isEmpty then .ok else .ecc) [] else r.1

/-- WRITE. -/
def execWrite (i : Nat) (bad : List Nat) (s : State) : Out :=
  match s.arrival i tWrite with
  | none => .next s
  | some (p, s) =>
    match s.portStops p tWack with
    | some t => .next t
    | none => .next ((s.addPoison bad).writeAt p tWack)

/-- MGMT (R191): an access to a register or to a sequencer's memory. -/
def execMgmt (i : Nat) (bad : List Nat) (s : State) : Out :=
  match s.arrival i tMgmt with
  | none => .next s
  | some (p, s) =>
    match s.portStops p tMrsp with
    | some t => .next t
    | none =>
      let s := s.addPoison bad
      if p.data.isEmpty then
        let s := s.wakeAccess p.addr
        let st := s.runStatus p.addr p.len
        if st ≠ .ok then .next (s.respond p tMrsp st [])
        else
          let r := s.devGet p.addr p.len
          .next (r.2.2.respond p tMrsp (if r.2.1 then .ecc else .ok) r.1)
      else .next (s.writeAt p tMrsp)

/-! ### Responses at the sender -/

/-- R209, R254: a response to a command of core `p.dst`: its status, its bytes, and its data for a read. One that no command
waits for is absorbed (R178). -/
def State.answered (s : State) (p : Pkt) : State :=
  match s.findCmd p.dst p.txid with
  | none => s.absorbPkt p
  | some k =>
    if s.epResetting p.dst then s.absorbPkt p
    else
      let good := p.status = .ok || p.status = .ecc
      let r : State × List Status × Nat :=
        if good && k.op = 2 then s.epPut p.dst k.id (k.endpoint 4) false ((p.addr : Int) - (k.endpoint 2).dev) p.data
        else (s, [], 0)
      let s := r.1.modCmd p.dst k.id fun x => { x with
        sts := x.sts ++ (if p.status = .ok then [] else [ p.status]) ++ r.2.1,
        result := if good then x.result + p.len else x.result, wait := x.wait + r.2.2 }
      (s.settleTxns p.dst k.id).grantTxns p.dst 128

/-- RDATA. -/
def execRdata (i : Nat) (s : State) : Out :=
  match s.arrival i tRdata with
  | none => .next s
  | some (p, s) => .next (s.answered p)
/-- WACK. -/
def execWack (i : Nat) (s : State) : Out :=
  match s.arrival i tWack with
  | none => .next s
  | some (p, s) => .next (s.answered p)
/-- MRSP. -/
def execMrsp (i : Nat) (s : State) : Out :=
  match s.arrival i tMrsp with
  | none => .next s
  | some (p, s) => .next (if 1056 ≤ p.dst ∧ p.dst < 1060 then s.octMgmtEnd p else s.answered p)

/-! ### Multicast landings (R263) -/

/-- R263: one MCAST packet at a member port: written, held, or discarded with the rest of its message. -/
def State.mcastLand (s : State) (p : Pkt) (m : List Word) (bad : List Nat) : State :=
  let a := memberBase m + p.addr
  let st := s.runStatus a p.len
  if (s.landing p).drop then s.landDrop p []
  else if st ≠ .ok then s.landDrop p [ st]
  else
    let r := (s.addPoison bad).devPut (.landing p) a p.data
    if r.2.2 = 0 then r.1.landed p r.2.1 else r.1

/-- MCAST_LANDING: packet `i`. With the field's mesh out of service the boundary router answers for the member, once. -/
def execMcastLanding (i : Nat) (bad : List Nat) (s : State) : Out :=
  match s.arrival i tMcast with
  | none => .next s
  | some (p, s) =>
    if epField p.dst < 16 && s.meshDown (epField p.dst) then .next (s.landDrop p [ .absent])
    else
      match s.portStops p tMack with
      | some t => .next t
      | none =>
        match (s.part p.part).groups.get none p.gid with
        | none => .next (s.absorbPkt p)
        | some g => .next (s.mcastLand p (g.members.getD p.seg []) bad)

/-- MACK (R263): a member that answered OK counts LEN bytes. -/
def execMack (i : Nat) (s : State) : Out :=
  match s.arrival i tMack with
  | none => .next s
  | some (p, s) =>
    match s.findCmd p.dst p.txid with
    | none => .next (s.absorbPkt p)
    | some k =>
      let s := s.modCmd p.dst k.id fun x => { x with
        sts := x.sts ++ (if p.status = .ok then [] else [ p.status]),
        result := if p.status = .ok then x.result + k.len else x.result }
      .next ((s.settleTxns p.dst k.id).grantTxns p.dst 128)

/-- MCAST_STALL (R262): a packet of group `g` of partition `p` has waited 64 µs in a replication buffer of field `f`. -/
def execMcastStall (f : Fin 16) (p : Fin 32) (g : Fin 256) (s : State) : Out :=
  .next (s.raise clsWarning 0x031 p.val 7 f.val g.val)

/-! ### Links and routers (R251, R255, R257) -/

/-- R255: a replay delays the flits on a link into the routers of field `f`: by 10 cycles, or 18 on a seam link (log entry 75). -/
def State.replay (s : State) (f side : Nat) : State :=
  let late (x : NFlit) : NFlit :=
    if nodeField x.node = f && x.inp = side && s.net.mc < x.ready then
      let d := if nodeField (nodeNext x.node side) = f then 10 else 18
      { x with ready := x.ready + d, since := x.since + d }
    else x
  { s with net := { s.net with flits := s.net.flits.map late } }

/-- LINK_REPLAY (R255): a replay on a link into a router of field `f`, on a side of it; `failed` replays have failed in a
row there, and the sixteenth raises an Alarm. -/
def execLinkReplay (f : Fin 16) (side : Fin 4) (failed : Nat) (s : State) : Out :=
  let s := (s.bump (MESH_RETRY_RETRIES f.val) 1).replay f.val side.val
  .next (if failed = 16 then s.raise clsAlarm 0x030 0xFF 7 f.val (f.val + 16 * side.val) else s)

/-- ESCALATION (R257): a flit of VC1–VC5 at a router of field `f` that has waited longest and is not escalated yet. -/
def execEscalation (f : Fin 16) (s : State) : Out :=
  let l := s.net.flits.filter fun x => nodeField x.node = f.val && x.vc ≠ 0 && !x.esc
  let since := l.foldl (fun a x => min a x.since) s.net.mc
  let s := match l.find? fun x => x.since = since with
    | none => s
    | some x => { s with net := { s.net with flits := s.net.flits.map fun (y : NFlit) => if y.same x then { y with esc := true } else y } }
  .next (s.bump (MESH_RETRY_ESC f.val) 1)

/-- Control cores whose endpoints may lie at a router. -/
def nodeHarts (r : Nat) : List Nat := (List.range 32).map (32 * nodeClu r + ·) ++ [ 1024 + nodeClu r]

/-- VC0_BUCKET_REFILL (R251): the bucket of local port `b.2` of router `b.1` gains a flit, or with 16 the router's own; what waits
there goes on, and so does a SIG that stalled for it. -/
def execVc0BucketRefill (b : Fin 128 × Fin 17) (s : State) : Out :=
  let r := b.1
  let p := b.2
  let s :=
    if p.val = 16 then { s with rbucket := Store.set 2 s.rbucket r.val (min 2 (Store.get 2 s.rbucket r.val + 1)) }
    else
      let pl := 16 * r.val + p.val
      s.setVport pl { s.vport pl with bucket := min 2 ((s.vport pl).bucket + 1) }
  .next ((nodeHarts r.val).foldl State.retry (s.drainRouter r.val 2))

/-! ### Sheaves -/

/-- The router and output at which a packet waits whole. -/
def Net.wholeAt (n : Net) (num : Nat) : Option (Nat × Nat) :=
  match n.flits.filter fun f => f.num = num with
  | [] => none
  | f :: r =>
    if f.k = 0 && (f :: r).any NFlit.last && r.all (fun g => g.node = f.node) then f.outs.head?.map fun o => (f.node, o) else none

/-- R266: packet `a` absorbs packet `b` where both wait: the flits of `b` go, and those of `a` carry the sum. -/
def Net.absorb (n : Net) (a : Pkt) (b : Nat) : Net :=
  let c := a.contents
  { n with flits := (n.flits.filter fun f => f.num ≠ b).flatMap fun f =>
      if f.num ≠ a.num then [ f]
      else if f.k ≠ 0 then []
      else c.zipIdx.map fun x => { f with
        k := x.2, last := x.2 + 1 = c.length, words := x.1, crc := flitCrc x.1 f.vc (x.2 = 0) (x.2 + 1 = c.length) } }

/-- SHEAF_COMBINE (R266): packet `i` absorbs packet `j`, both waiting whole for one output of one router. -/
def execSheafCombine (i j : Nat) (s : State) : Out :=
  match s.pkts[i]?, s.pkts[j]? with
  | some a, some b =>
    if i ≠ j && a.typ = tSheaf && b.typ = tSheaf && a.part = b.part && a.gid = b.gid && a.seg = b.seg && a.txid = b.txid
        && (s.net.wholeAt a.num).isSome && s.net.wholeAt a.num = s.net.wholeAt b.num then
      let c := pktCombine a b
      .next { s with pkts := (s.pkts.set i c).eraseIdx j, net := s.net.absorb c b.num }
    else .next s
  | _, _ => .next s

/-- SHEAF_OPEN (R264): every port holds the entry. -/
def execSheafOpen (c : Fin 32) (i : Fin 256) (s : State) : Out := .next (s.shOpen c.val i.val)

/-- SHEAF_SEGMENT_ARRIVAL (R267, R269, R271, R272): packet `i`. -/
def execSheafSegmentArrival (i : Nat) (s : State) : Out :=
  match s.arrival i tSheaf with
  | none => .next s
  | some (p, s) =>
    match s.portStops p tSheaf with
    | some t => .next t
    | none => .next (s.shArrive (p.dst - 5000) p)

/-- SHEAF_TIMEOUT (R268). -/
def execSheafTimeout (c : Fin 32) (i : Fin 256) (s : State) : Out :=
  match s.sheaf c.val i.val with
  | none => .next s
  | some x =>
    let t := (s.shDesc c.val i.val).tmo
    if t = 0 ∨ s.f (SHF_STAT_STATE c.val i.val) ≠ 2 then .next s
    else .next ((s.advanceCopy c.val (x.armedAt + t * 1000 * nsU)).shComplete c.val i.val (some .timeout))

/-- SHEAF_RESULT_DELIVERY (R327): the oldest waiting result enters the queue of 16, and its credit leaves. -/
def execSheafResultDelivery (c : Fin 32) (s : State) : Out :=
  match (s.clu c.val).resWait with
  | [] => .next s
  | x :: r =>
    if 16 ≤ (s.clu c.val).resq.length then .next s
    else
      let s := s.modClu c.val fun y => { y with resWait := r, resq := y.resq ++ [ x.1] }
      .next ((x.2.foldl (fun t fl => t.injectAt (cluPlace c.val 1 11) fl) s).retry (1024 + c.val))

/-! ### Partition reset and a field's outage -/

/-- R271: the endpoints of a partition under reset hold nothing: no command, record, entry or credit (log entry 41). -/
def State.resetHart (s : State) (h : Nat) : State :=
  s.modHart h fun x => { x with cmds := [], recs := [], aq := [], ihold := [], txn := [], stall := none }

/-- R271: the reset begins: sheaves and groups close, and the ports absorb what arrives. -/
def State.resetBegin (s : State) (p : Nat) : State :=
  let s := (s.abort p).shCloseAll p
  s.modPart p fun x => { x with resetting := true, groups := [] }

/-- R271, R421, R422: the reset completes: what the partition has in flight is absorbed, its accounts open at zero,
LEDGER_BAD is cleared and an audit runs. -/
def State.resetEnd (s : State) (p : Nat) : State :=
  if !(s.part p).resetting then s
  else
    let l := s.pkts.filter fun q => q.part = p
    let s := (l.foldl (fun t q => t.absorbPkt q) s).purge (fun q => q.part = p) fun _ => false
    let s := (s.partHarts p).foldl (fun t h => t.resetHart h) (s.reclaim p)
    let s := s.modPart p fun x => { x with resetting := false, ledger := [] }
    let s := (s.setF (PART_STAT_ABORT (partCsr p)) 0).setF (PART_STAT_LEDGER_BAD (partCsr p)) 0
    s.auditStart p

/-- PARTITION_RESET (R271): `fin` is false at its start and true at its end. -/
def execPartitionReset (p : Fin 32) (fin : Bool) (s : State) : Out :=
  if (s.part p.val).held then .next (if fin then s.resetEnd p.val else s.resetBegin p.val) else .next s

/-- R272, R273: every router switches to other route tables and recomputes its weights; what waits takes the routes of these. -/
def State.switchTables (s : State) (t : Option Nat) : State :=
  let n := { s.net with table := t, share := [], lock := [] }
  { s with net := { n with flits := n.flits.map fun f => { f with tos := f.tos.map fun r => n.route f.node r.dp } } }

/-- MESH_DRAIN_END (R272, R374): field `f` has tripped and its routers are empty: they have passed on what they held and
absorbed what was bound for the field. Packets held outside it go on by the alternate routes. -/
def execMeshDrainEnd (f : Fin 16) (s : State) : Out :=
  if !s.on MESH_STAT_DRAIN || !s.on (FIELD_THERM_TRIP f.val) || s.meshDown f.val then .next s
  else
    let s := s.meshWhile (fun n => n.flits.any fun x => nodeField x.node = f.val) 4096
    let gone (q : Pkt) : Bool := epField q.dst = f.val
      && !(s.net.flits.any fun x => x.num = q.num && nodeField x.node ≠ f.val)
    let s := (((s.pkts.filter gone).foldl (fun t q => t.absorbPkt q) s).purge gone fun _ => false).switchTables (some f.val)
    let s := ((s.setF (FIELD_INFO_MESH_DOWN f.val) 1).setF MESH_STAT_DOWN f.val).setF MESH_STAT_ALT 1
    let s := (s.setF MESH_STAT_DRAIN 0).raise clsError 0x033 0xFF 7 f.val f.val
    let s := ((s.enterOff (2 * f.val) 3).enterOff (2 * f.val + 1) 3).modFld f.val fun x => { x with selfRefresh := true }
    let s := (s.setF (TIME_ERR_VALID (2 * f.val)) 0).setF (TIME_ERR_VALID (2 * f.val + 1)) 0
    let s := s.fieldSr f.val true
    .next (s.pathsChange f.val)

/-- MESH_RETURN_DRAIN_END (R272, R374): the trip has cleared and the alternate routes are empty. -/
def execMeshReturnDrainEnd (f : Fin 16) (s : State) : Out :=
  if !s.on MESH_STAT_DRAIN || !s.meshDown f.val then .next s
  else
    let s := ((s.setF (FIELD_INFO_MESH_DOWN f.val) 0).setF MESH_STAT_DOWN 31).setF MESH_STAT_ALT 0
    let s := ((s.setF MESH_STAT_DRAIN 0).setF (FIELD_THERM_TRIP f.val) 0).modFld f.val fun x => { x with selfRefresh := false, coolN := 0 }
    let s := (s.meshWhile (fun n => n.flits.any NFlit.alt) 4096).switchTables none
    .next ((((s.fieldSr f.val false).leaveOff (2 * f.val)).leaveOff (2 * f.val + 1)).pathsChange f.val)

end Sys2Proof.Machine
end

