-- ==== Sys2Proof/Machine/Time.lean ====
section
/-!
DEFINITION. Device time: beacons and keepers (R284–R293), the reference (R275, R276), the time master and its sources
(R295–R298, R449), time across modules (R299–R301, R470, R471), and slips of the crossings (R277–R279).
-/

namespace Sys2Proof.Machine

/-! ### Keepers and beacons (R285–R292) -/

/-- The DTIME by which corner die `p` stamps its links (R285). -/
def State.dieTime (s : State) (p : Nat) : Int :=
  (s.dtime : Int) + (if p = s.f BOOT_STAT_MASTER then 0 else s.keepOfs (32 + p))

/-- R290: the value `TIME_ERR.ERR` shows, in 2^-8 ns, held at ±32,767. -/
def errShown (e : Int) : Int := max (-32767) (min 32767 (e.tdiv 256))

/-- R286, R290: the keeper of unit `u` after a beacon with error ε: it removes ε from now on, or takes it at once while it is not
valid; and it counts at the master's rate. -/
def State.keepBeat (s : State) (u : Nat) (valid : Bool) (e : Int) : State :=
  let o := s.keepOfs u
  s.setKeeper u ⟨if valid then o else o + e, s.dtime, if valid then e else 0, s.tim.bRate, s.phase, s.tim.bSrc, s.tim.bEra⟩

/-- R290, R291: beacon number `n` reaches the keeper of cluster `c` with error ε. -/
def State.beatClu (s : State) (c n : Nat) (e : Int) : State :=
  let x := s.clu c
  let valid := s.on (TIME_ERR_VALID c)
  let s := ((s.setInt (TIME_ERR_ERR c) (errShown e)).keepBeat c valid e).modClu c fun x => { x with heard := n }
  let s := s.setF (TIME_ERR_MISS c) 0
  if !valid then (s.setF (TIME_ERR_VALID c) 1).setF (TIME_ERR_BIG c) 0
  else
    let s := s.bump (TIME_ERR_MISSED c) (n - x.heard - 1)
    if e.natAbs ≤ 64 * nsU then s.setF (TIME_ERR_BIG c) 0
    else if s.partOf c = 0xFF then s
    else (s.setF (TIME_ERR_BIG c) 1).raise clsWarning 0x041 (s.partOf c) 6 c (s.f (TIME_ERR_ERR c))

/-- The same of a corner die's keeper, which has no register. -/
def State.beatDie (s : State) (p n : Nat) (e : Int) : State :=
  (s.keepBeat (32 + p) (s.tim.cdie.get Keep.reset p).valid e).modKeep p fun x => { x with valid := true, miss := false, heard := n }

/-- Path delay of keeper `u`, in 2^-8 ns. -/
def State.pathOf (s : State) (u : Nat) : Nat := if u < 32 then s.f (TIME_PATH_D u) else (s.tim.cdie.get Keep.reset (u - 32)).path
def State.heardOf (s : State) (u : Nat) : Nat := if u < 32 then (s.clu u).heard else (s.tim.cdie.get Keep.reset (u - 32)).heard

/-- R290: ε of a beacon that arrives now with correction `corr`. -/
def State.beaconErr (s : State) (u corr : Nat) : Int :=
  ((s.tim.bT + 256 * s.pathOf u + 256 * corr : Nat) : Int) - ((s.dtime : Int) + s.keepOfs u)

/-- R287: the port of keeper `u` at which a beacon's copy lands: port 11 of a quadrant-0 router, port 14 of an attach router. -/
def beaconPlace (u : Nat) : Nat := 16 * routerKey (beaconTo u) + if u < 32 then 11 else 14

/-- R287: the flit of a beacon: a CTRL header, and words 8 to 15. -/
def State.beaconFlit (s : State) : List Word :=
  (pkt0 0 0xFF 1056 0).words ++ ([ s.dtime % 2 ^ 32, s.dtime / 2 ^ 32 % 2 ^ 32, 0, s.f TIME_RATE_RATE,
    s.tim.bSeq % 65536 + 65536 * s.f TIME_STAT_SRC + 2 ^ 24 * s.f TIME_STAT_ERA, 0, 0, 0]).map (BitVec.ofNat 32)

/-- BEACON_SEND (R287): at the next multiple of 1,000 ns a flit leaves port 14 of the master's router, which draws on the buckets
of R251, for the keepers of every other unit. -/
def execBeaconSend (s : State) : Out :=
  .next (let s := (s.advanceTo (if s.tim.bSeq = 0 then 0 else s.tim.bT + 1)).toMultiple 1000
    let m := s.f BOOT_STAT_MASTER
    let node := routerKey (beaconFrom m)
    let pl := 16 * node + 14
    let tos := ((List.range 36).filter fun u => u ≠ 32 + m).map fun u => s.net.route node (beaconPlace u)
    let v := s.vport pl
    let num := s.net.next
    let t := s.setVport pl { v with bucket := v.bucket - 1 }
    let t := { t with
      rbucket := Store.set 2 t.rbucket node (Store.get 2 t.rbucket node - 1), rturn := Store.set 15 t.rturn node 14,
      net := t.net.inject pl 0 false [ s.beaconFlit] tos }
    t.modTim fun x => { x with
      bT := s.dtime, bSeq := x.bSeq + 1, bNum := num, bRate := s.fInt TIME_RATE_RATE, bSrc := s.f TIME_STAT_SRC,
      bEra := s.f TIME_STAT_ERA })

/-- BEACON_ARRIVAL (R288, R290): the last beacon reaches keeper `u` (a cluster, or 32 + corner die) over a path whose unloaded
delay is `path`, after `extra` more, both in 2^-16 ns: routers and crossings have added that to CORR, in 2^-8 ns. -/
def execBeaconArrival (u : Fin 36) (path extra : Nat) (s : State) : Out :=
  .next (let n := s.tim.bSeq
    if n ≤ s.heardOf u.val ∨ s.tim.stale.contains u.val then s
    else
      let s := (s.meshFor s.tim.bNum (beaconPlace u.val)).advanceTo (s.tim.bT + path + extra)
      let e := s.beaconErr u.val (extra / 256)
      let s := s.modTim fun x => { x with beat := x.beat.set 0 u.val s.dtime }
      if u.val < 32 then s.beatClu u.val n e else s.beatDie (u.val - 32) n e)

/-- BEACON_MISS (R291): no beacon for 16 µs. -/
def execBeaconMiss (u : Fin 36) (s : State) : Out :=
  .next (let i := u.val
    let s := s.advanceTo (s.tim.beat.get 0 i + 16000 * nsU)
    let n := s.tim.bSeq
    if i < 32 then
      let s := (s.setF (TIME_ERR_MISS i) 1).bump (TIME_ERR_MISSED i) (n - (s.clu i).heard)
      (s.modClu i fun x => { x with heard := max x.heard n }).raise clsWarning 0x041 (s.partOf i) 6 i (s.f (TIME_ERR_ERR i))
    else (s.modKeep (i - 32) fun x => { x with miss := true, heard := max x.heard n }).raise clsWarning 0x041 0xFF 6 i 0)

/-- COPY_FOLLOW (R290): on its PLL, the compute copy compares itself with its keeper, and follows it from now on. -/
def execCopyFollow (c : Fin 32) (s : State) : Out :=
  .next (if s.on (CLK_STAT_SRC c.val) || s.f (PST_STAT_STATE c.val) ≠ 0 then s
    else
      let o := (s.clu c.val).copyOfs s.dtime
      s.modClu c.val fun x => { x with tOfs := o, tSince := s.dtime, tEps := s.keepOfs c.val - o })

/-- OSC_COPY_LOAD (R292): on the oscillator the copy loads the keeper's value, forward only. -/
def execOscCopyLoad (c : Fin 32) (s : State) : Out :=
  .next (if s.on (CLK_STAT_SRC c.val) && s.f (PST_STAT_STATE c.val) = 0 then
      s.modClu c.val fun x => { x with tOfs := max (x.copyOfs s.dtime) (s.keepOfs c.val), tSince := s.dtime, tEps := 0 }
    else s)

/-- PATH_RECALIBRATION (R289): keeper `u` has path delay `d`, in 2^-8 ns, and heeds beacons again. -/
def execPathRecalibration (u : Fin 36) (d : Nat) (s : State) : Out :=
  .next (let i := u.val
    let s := s.modTim fun x => { x with stale := x.stale.filter fun v => v ≠ i }
    if i < 32 then s.setF (TIME_PATH_D i) d else s.modKeep (i - 32) fun x => { x with path := d % 65536 })

/-! ### Wrap and reference -/

/-- WRAPSOON (R284): 10 s before the wrap. -/
def execWrapsoon (s : State) : Out :=
  .next (if s.on TIME_STAT_WRAPSOON then s else (s.advanceTo (s.wrapAt - 10 * secU)).wrapSoon)

/-- DTIME_WRAP (R284). -/
def execDtimeWrap (s : State) : Out := .next (s.advanceTo s.wrapAt).wrapNow

/-- REF_LOSS (R276). -/
def execRefLoss (s : State) : Out :=
  .next (let s := (s.setF MOD_PINS_REFOK 0).modTim fun x => { x with refBack := false }
    if s.on TIME_STAT_REFHOLD then s else (s.setF TIME_STAT_REFHOLD 1).raise clsAlarm 0x040 0xFF 6 0 0)

/-- REF_RETURN (R276): the PLLs begin to relock. -/
def execRefReturn (s : State) : Out :=
  .next ((s.setF MOD_PINS_REFOK 1).modTim fun x => { x with refBack := s.on TIME_STAT_REFHOLD })

/-- REF_RELOCK (R276): the PLLs have relocked. -/
def execRefRelock (s : State) : Out :=
  .next (if s.tim.refBack then
      ((s.setF TIME_STAT_REFHOLD 0).modTim fun x => { x with refBack := false }).raise clsNote 0x040 0xFF 6 0 1
    else s)

/-- `TIME_OFS.OFS`, in 2^-8 ns, held at the ends of its range. -/
def State.showOfs (s : State) (e : Int) : State :=
  s.setInt TIME_OFS_OFS (max (-(2 ^ 31 : Int)) (min (2 ^ 31 - 1 : Int) (e.tdiv 256)))

/-! ### PTP (R296, R297, R449) -/

/-- R449: a timestamp, at a resolution of 2^-4 ns. -/
def State.stamp (s : State) : Nat := s.now / 4096 * 4096

/-- R297: the Sync that left at `t1` of the grandmaster's timescale and arrived at DTIME `t2` is applied. -/
def State.ptpApply (s : State) (t1 : Int) (t2 : Nat) : State :=
  let s := (s.modTim fun x => { x with ptpUp := true, syncAt := s.dtime, twoStep := none }).reSource
  let e : Int := ((s.epoch * nsU + t2 : Nat) : Int) - t1 - s.tim.delay
  let fresh := ((t1 + s.tim.delay - (t2 : Int)) / nsU).toNat
  let s :=
    if s.f TIME_STAT_SRC ≠ 3 then s
    else if !s.tim.locked then ((s.showOfs e).setEpoch fresh).modTim fun x => { x with locked := true }
    else if 1000000 * nsU < e.natAbs then ((s.showOfs e).setEpoch fresh).raise clsNote 0x042 0xFF 6 0 3
    else (s.showOfs e).trim e ppm100
  s.modTim fun x => { x with syncT1 := t1, syncT2 := ((s.epoch * nsU + t2 : Nat) : Int) }

/-- R296: the module heeds a message of PTP domain `dom`, over transport `tr` as `PTP_CFG` codes it, multicast (`uni` empty) or from
a unicast master that the image names. -/
def State.ptpHears (s : State) (m : PtpSrc) : Bool :=
  s.on PTP_CFG_EN && m.dom = s.f PTP_CFG_DOMAIN && m.tr = s.f PTP_CFG_TRANSPORT && (m.uni.isEmpty || s.eth.masters.contains m.uni)

/-- The message comes from the grandmaster selected. -/
def State.fromGm (s : State) (id : Nat) : Bool := match s.tim.gm with | some g => g.id = id | none => false

/-- PTP_SYNC (R297, R449): a Sync of sequence `seq` one-step with origin time `t1` and correction `corr`,
both in 2^-16 ns, or two-step, which waits for its Follow_Up. -/
def execPtpSync (m : PtpSrc) (seq : Nat) (two : Bool) (t1 : Nat) (corr : Int) (s : State) : Out :=
  .next (if !(s.ptpHears m && s.fromGm m.id) then s
    else if two then s.modTim fun x => { x with twoStep := some (seq, s.stamp) }
    else s.ptpApply ((t1 : Int) + corr) s.stamp)

/-- PTP_FOLLOW_UP (R449): the time of a two-step Sync. -/
def execPtpFollowUp (m : PtpSrc) (seq t1 : Nat) (corr : Int) (s : State) : Out :=
  .next (match s.tim.twoStep with
    | some (q, t2) => if s.ptpHears m && s.fromGm m.id && q = seq then s.ptpApply ((t1 : Int) + corr) t2 else s
    | none => s)

/-- PTP_DELAY_RESP (R296): end to end: the Delay_Req left at DTIME `t.1` and was received at `t.2` of the grandmaster's
timescale. -/
def execPtpDelayResp (m : PtpSrc) (t : Nat × Nat) (corr : Int) (s : State) : Out :=
  .next (if !s.ptpHears m || s.on PTP_CFG_P2P || !s.tim.ptpUp then s
    else s.modTim fun x => { x with
      delay := ((x.syncT2 - x.syncT1) + ((t.2 : Int) - corr - ((s.epoch * nsU + t.1 : Nat) : Int))) / 2 })

/-- PDELAY_REQ (R449): answered in two-step form: the receipt time, then the response's own egress time. -/
def execPdelayReq (m : PtpSrc) (seq : Nat) (s : State) : Out :=
  .next (if s.ptpHears m && s.on PTP_CFG_P2P then (s.emit txPtp [ 20, m.id, seq, s.stamp]).emit txPtp [ 21, m.id, seq, s.stamp] else s)

/-- PDELAY_RESP (R296): the link delay in peer-to-peer mode, from the egress and arrival of our own request and response
and the far end's two times. -/
def execPdelayResp (m : PtpSrc) (t1 : Nat) (far : Nat × Nat) (t4 : Nat) (s : State) : Out :=
  .next (if s.ptpHears m && s.on PTP_CFG_P2P then
      s.modTim fun x => { x with delay := (((t4 : Int) - t1) - ((far.2 : Int) - far.1)) / 2 } else s)

/-- The order of the default best master clock algorithm (PRESUMED of IEEE 1588-2019, which R296 names). -/
def Announce.key (a : Announce) : List Nat := [ a.p1, a.cls, a.acc, a.var, a.p2, a.id, a.steps]
/-- Lexicographic order. -/
def lexLt : List Nat → List Nat → Bool
  | [], _ => false
  | _ :: _, [] => false
  | a :: r, b :: q => a < b || (a = b && lexLt r q)
/-- The best data set heard. -/
def bestMaster (l : List Announce) : Option Announce :=
  l.foldl (fun a x => match a with | none => some x | some y => if lexLt x.key y.key then some x else some y) none

/-- How long a master stays known after its last Announce: three intervals of 2 s (PRESUMED of IEEE 1588-2019's default profiles,
which R296 names; log entry 76). -/
def announceU : Nat := 6 * secU

/-- PTP_ANNOUNCE (R296): the best of the masters heard is the grandmaster; the module never becomes one. -/
def execPtpAnnounce (p1 cls acc var p2 : Nat) (m : PtpSrc) (steps : Nat) (s : State) : Out :=
  .next (if !s.ptpHears m then s
    else
      let a : Announce := ⟨p1, cls, acc, var, p2, m.id, steps, s.dtime⟩
      let l := (s.tim.foreign.filter fun x => x.id ≠ m.id && s.dtime ≤ x.heardAt + announceU) ++ [a]
      let g := bestMaster l
      let same : Bool := match s.tim.gm, g with | some x, some y => decide (x.id = y.id) | _, _ => false
      (s.modTim fun x => { x with
        foreign := l, gm := g, ptpUp := x.ptpUp && same, twoStep := if same then x.twoStep else none }).reSource)

/-- The Sync interval `PTP_CFG.LOGSYNC` names, in 2^-16 ns. -/
def State.syncU (s : State) : Nat := secU / 2 ^ ((16 - s.f PTP_CFG_LOGSYNC) % 16)

/-- PTP_LOSS (R297): no valid Sync for 8 Sync intervals. -/
def execPtpLoss (s : State) : Out :=
  .next (if !s.tim.ptpUp then s
    else ((s.advanceTo (s.tim.syncAt + 8 * s.syncU)).modTim fun x => { x with ptpUp := false, twoStep := none, foreign := [], gm := none }).reSource)

/-! ### Pulse per second (R295, R298, R532) -/

/-- How far a time in ns lies from the nearest whole second. -/
def fromSecond (ns : Nat) : Int :=
  let r := ns % 1000000000
  if r < 500000000 then (r : Int) else (r : Int) - 1000000000

/-- PPS_IN_EDGE (R298): timestamped to 1 ns; a time of day sent for this edge sets EPOCH. -/
def execPpsInEdge (s : State) : Out :=
  .next (let t := s.now / nsU
    let s := (s.setF MOD_PINS_PPSIN 1).modTim fun x => { x with ppsAt := s.dtime }
    let s := match s.tim.todNext with
      | some (sec, ns) => (s.setEpoch (sec * 1000000000 + ns - t)).modTim fun x => { x with todNext := none, todSet := true }
      | none => s
    let s := s.reSource
    let e := fromSecond (s.epoch + t) * nsU
    if s.f TIME_STAT_SRC = 2 then (s.showOfs e).trim e ppm100 else s)

/-- PPS_IN_LOSS (R295, R540): no edge for 2 s. -/
def execPpsInLoss (s : State) : Out :=
  .next (if s.on MOD_PINS_PPSIN then ((s.advanceTo (s.tim.ppsAt + 2 * secU)).setF MOD_PINS_PPSIN 0).reSource else s)

/-- PPS_OUT (R298): the next whole second of EPOCH + DTIME, or of DTIME in free-run. -/
def execPpsOut (s : State) : Out :=
  .next (let e := if s.f TIME_STAT_SRC = 0 then 0 else s.epoch
    let t0 := max s.dtime (match s.tim.ppsOutAt with | some t => t + 1 | none => 0)
    let s := s.advanceTo ((e * nsU + t0 + secU - 1) / secU * secU - e * nsU)
    s.modTim fun x => { x with ppsOutAt := some s.dtime })

/-! ### Time across modules (R299–R301, R470, R471) -/

/-- R300: a partition of the module is running: one of its cores or sequencers is. -/
def State.partsRun (s : State) : Bool := s.heldParts.any fun p => (s.partHarts p).any fun h => s.f (CC_STAT_STATE h) = 1

/-- TSYNC_SEND (R470): the exchange on link `l` begins; t1 is taken by the corner die's keeper. -/
def execTsyncSend (l : Fin 16) (s : State) : Out :=
  .next (if s.on (OCT_LSTAT_UP l.val) then s.modLink l.val fun x => { x with t1 := (s.dieTime (l.val / 4)).toNat } else s)

/-- R300: the master steps by `d`; every keeper and copy keeps its own value. -/
def State.stepTime (s : State) (d : Int) : State :=
  let t := ((s.dtime : Int) + d).toNat
  let u := (List.range 36).foldl (fun u i => u.setKeeper i { s.keeper i with
    ofs := s.keepOfs i - d, since := t, eps := 0, phase := s.phase }) s
  let u := (List.range 32).foldl (fun u c => u.modClu c fun x => { x with tOfs := x.copyOfs s.dtime - d, tSince := t, tEps := 0 }) u
  { u with dtime := t, tim := { u.tim with phase := s.phase, phaseAt := t } }

/-- R297, R300, R470: the parent's time lies `d` ahead of the master's. -/
def State.followParent (s : State) (d : Int) : State :=
  let s := s.showOfs (-d)
  if d.natAbs ≤ 8 * nsU then (s.setF TIME_STAT_UNSYNC 0).trim (-d) ppm100
  else if !s.partsRun then (s.stepTime d).setF TIME_STAT_UNSYNC 0
  else (s.setF TIME_STAT_UNSYNC 1).trim (-d) ppm1000

/-- TSYNC_RECEIVE (R470): the reply on link `l` brings t2 and t3 of the far corner die; t4 is taken now. -/
def execTsyncReceive (l : Fin 16) (t2 t3 : Nat) (s : State) : Out :=
  .next (let i := l.val
    if !s.on (OCT_LSTAT_UP i) then s
    else
      let t4 := s.dieTime (i / 4)
      let t1 : Int := (s.olink i).t1
      let a : Int := (t2 : Int) - t1
      let b : Int := t4 - t3
      let d := (a - b) / 2
      let s := s.modLink i fun x => { x with t2 := t2, t3 := t3, t4 := t4.toNat, heardAt := s.dtime, offset := d }
      let s := s.setF (OCT_LDELAY_DELAY i) (min 65535 (((a + b) / 2).toNat / 16384))
      if s.f OCT_SYS_PARENT = i && s.f TIME_STAT_SRC = 4 then s.followParent d else s)

/-- R299: seconds in holdover. -/
def State.holdS (s : State) : Nat := if s.ownSrc = 1 then min 65535 ((s.dtime - s.tim.lostAt) / secU) else 0
/-- R299: the module's own key: source class, holdover seconds, module number. -/
def State.ownKey (s : State) : List Nat := [ 3 - s.ownSrc, s.holdS, s.f OCT_SYS_MODULE]
def OLink.key (k : OLink) : List Nat := [ k.keyClass, k.keyHold, k.keySys]

/-- The links whose neighbours have sent a key that is not this module's own come back. -/
def State.keyLinks (s : State) : List Nat :=
  (List.range 16).filter fun l => (s.olink l).keyValid && (s.olink l).keySys ≠ s.f OCT_SYS_MODULE
/-- The least key heard, or this module's own. -/
def State.bestKey (s : State) : List Nat :=
  s.keyLinks.foldl (fun a l => if lexLt (s.olink l).key a then (s.olink l).key else a) s.ownKey
/-- R299: the link with the fewest hops to the master of a key, ties to the lowest number. -/
def State.parentLink (s : State) (k : List Nat) : Option Nat :=
  (s.keyLinks.filter fun l => (s.olink l).keySys = k.getD 2 0).foldl (fun a l => match a with
    | none => some l
    | some m => if (s.olink l).keyHops < (s.olink m).keyHops then some l else some m) none

/-- R299: the election. -/
def State.elect (s : State) : State :=
  if !s.inSystem then s
  else
    let k := s.bestKey
    let s := s.modTim fun x => { x with master := k.getD 2 0 }
    if k = s.ownKey then
      (((s.setF TIME_STAT_SYSMASTER 1).setF OCT_SYS_PARENT 15).setF OCT_SYS_HOPS 0).reSource
    else match s.parentLink k with
      | none => s
      | some l =>
        (((s.setF TIME_STAT_SYSMASTER 0).setF OCT_SYS_PARENT l).setF OCT_SYS_HOPS ((s.olink l).keyHops + 1)).reSource

/-- ELECTION_KEY_SEND (R471): the key of the system master as this module knows it, on every link. -/
def execElectionKeySend (s : State) : Out :=
  .next (let l := s.f OCT_SYS_PARENT
    s.modTim fun x => { x with
      keySent := if l = 15 then s.ownKey ++ [ 0] else (s.olink l).key ++ [ s.f OCT_SYS_HOPS] })

/-- ELECTION_KEY_RECEIVE (R299, R471): the neighbour on link `l` sends its key and hop count. -/
def execElectionKeyReceive (l : Fin 16) (cls hold sys hops : Nat) (s : State) : Out :=
  .next (if s.on (OCT_LSTAT_UP l.val) then
      (s.modLink l.val fun x => { x with keyClass := cls, keyHold := hold, keySys := sys, keyHops := hops, keyValid := true }).elect
    else s)

/-- PARENT_LOSS (R301, R471): no TSYNC on the parent link for 1 ms: every key is forgotten and the election runs again. No
module steps; one that followed its parent has lost its source (log entry 77). -/
def execParentLoss (s : State) : Out :=
  .next (let l := s.f OCT_SYS_PARENT
    if l = 15 then s
    else
      let s := s.advanceTo ((s.olink l).heardAt + 1000000 * nsU)
      let s := (List.range 16).foldl (fun t i => t.modLink i fun x => { x with keyValid := false }) s
      let s := s.modTim fun x => { x with acquired := x.acquired || s.f TIME_STAT_SRC = 4 }
      (s.setF OCT_SYS_PARENT 15).elect)

/-- TIME_NOWL_READ (R302): the read latches the upper word. -/
def execTimeNowlRead (s : State) : Out := .next (s.csrRead 0x300).2

/-! ### Crossings (R277–R279, R304) -/

/-- CROSSING_SLIP (R279): crossing `x` of field `f` exceeds ±4 periods and runs with a full handshake. -/
def execCrossingSlip (f : Fin 16) (x : Nat) (s : State) : Out :=
  .next (let s := (s.bump (XING_SLIP_SLIPS f.val) 1).raise clsWarning 0x034 0xFF 2 f.val f.val
    s.modTim fun t => { t with slips := (t.slips.filter fun y => (y.1, y.2.1) ≠ (f.val, x)) ++ [(f.val, x, s.dtime)] })

/-- R279: the crossing re-centres and runs with its calibrated offset again. -/
def State.recentre (s : State) (f x : Nat) : State :=
  s.modTim fun t => { t with slips := t.slips.filter fun y => (y.1, y.2.1) ≠ (f, x) }

/-- CROSSING_RECENTRE (R279): its queue is empty and no write is in the synchroniser. -/
def execCrossingRecentre (f : Fin 16) (x : Nat) (s : State) : Out := .next (s.recentre f.val x)

/-- FORCED_GAP (R279): no such cycle within 100 µs, and the write side is held to make one. -/
def execForcedGap (f : Fin 16) (x : Nat) (s : State) : Out :=
  .next (match s.tim.slips.find? fun y => y.1 = f.val ∧ y.2.1 = x with
    | none => s
    | some y => (((s.advanceTo (y.2.2 + 100000 * nsU)).bump (XING_SLIP_FORCED f.val) 1).recentre f.val x))

end Sys2Proof.Machine
end

