-- ==== Sys2Proof/Machine/Events.lean ====
section
/-!
DEFINITION. The event path: collectors and their coalescing tables (R430), rings (R431), Caddy subscribers (R428, R456) and
the buffer on VAON (R433).
-/

namespace Sys2Proof.Machine

def State.stage (s : State) (k : Nat) : Stage := s.ev.stages.get Stage.reset k
def State.setStage (s : State) (k : Nat) (g : Stage) : State :=
  { s with ev := { s.ev with stages := s.ev.stages.set Stage.reset k g } }

/-- R431: where the registers of a record's ring lie: the device's for PART 0xFF, else the partition's. -/
def ringBase (part : Nat) : Nat := if part = 0xFF then 0x510 - 0x20 else partCsr part

/-- R431: the records a ring of SIZE n still takes, 16 of them kept for Alarms. -/
def State.ringRoom (s : State) (b : Nat) : Nat :=
  (((s.f (EV_IDX_TAIL b) : Int) - s.f (EV_IDX_HEAD b) - 1) % (s.f (EV_RINGH_SIZE b) : Int)).toNat

/-- R431: the ring cannot take a record of this class now. -/
def State.ringFull (s : State) (b cls : Nat) : Bool :=
  s.f (EV_RINGH_SIZE b) ≠ 0 && (if cls = clsAlarm then s.ringRoom b = 0 else s.ringRoom b ≤ 16)

/-- R431: write a record at HEAD as a device-level unit and advance HEAD; a ring of SIZE 0 is off. -/
def State.ringPut (s : State) (b : Nat) (e : EvRec) : State :=
  let n := s.f (EV_RINGH_SIZE b)
  if n = 0 then s
  else
    let base := s.f (EV_RINGL_BASE_LO b) + 2 ^ 32 * s.f (EV_RINGH_BASE_HI b)
    let h := s.f (EV_IDX_HEAD b)
    ((s.storeDev (devAddr 0 (base + 32 * h)) (e.words.flatMap fun w => leBytes 4 w.toNat)).1).setF (EV_IDX_HEAD b) ((h + 1) % n)

/-- R428, R456: the session receives a record of this class. -/
def State.hears (s : State) (x : Session) (cls : Nat) : Bool :=
  cls = clsAlarm || (cls ≤ x.cls && (cls = clsTrace || cls ≤ s.f EV_CFG_CMINCLASS))

/-- R456: an EVENT message of one record to every subscriber that hears it. -/
def State.caddyEvent (s : State) (e : EvRec) : State :=
  (s.eth.sessions.filter fun x => s.hears x e.cls).foldl (fun t x => t.caddySend x.id 5 (e.words.flatMap fun w => leBytes 4 w.toNat)) s

/-- R430: merge a record into the table of stage `k`, counting its occurrences. -/
def State.merge (s : State) (k : Nat) (e : EvRec) : State :=
  let s := s.bump EV_DROP_COAL e.count
  if e.cls = clsAlarm then { s with ev := { s.ev with alarmTab := coalesce 16 20 s.ev.alarmTab e } }
  else s.setStage k { s.stage k with table := coalesce 256 k (s.stage k).table e }

/-- R433: a record into the buffer on VAON, 1,024 records with coalescing beyond. -/
def State.vaonPut (s : State) (e : EvRec) : State :=
  let v := s.ev.vaon
  { s with ev := { s.ev with vaon := if v.length < 1024 then v ++ [e] else coalesce 1024 20 v e } }

/-- R431, R433: the management processor delivers a record to its ring, or waits with it while the ring is full; in
keep-warm it goes to the buffer on VAON. -/
def State.deliver (s : State) (e : EvRec) : State :=
  if s.f KW_STAT_STATE = 2 then (s.vaonPut e).caddyEvent e
  else if s.ringFull (ringBase e.part) e.cls then
    (if e.part = 0xFF then s else s.bump (PART_STAT_EV_OVR (partCsr e.part)) 1).merge 20 e
  else (s.ringPut (ringBase e.part) e).caddyEvent e

/-- R433: on resumption the buffer on VAON goes to the device ring, oldest first, as the ring takes it. -/
def State.vaonOut (s : State) : State :=
  match s.ev.vaon with
  | [] => s
  | e :: r =>
    if s.f KW_STAT_STATE = 2 ∨ s.ringFull (ringBase 0xFF) e.cls then s
    else { s with ev := { s.ev with vaon := r } }.ringPut (ringBase 0xFF) e

/-- R430: stage `k` can forward its oldest record, or cannot and handles it by its class. -/
def State.forward (s : State) (k : Nat) (room : Bool) : State :=
  match (s.stage k).queue with
  | [] => s
  | e :: r =>
    let s := s.setStage k { s.stage k with queue := r }
    if room then
      if k = 20 then s.deliver e else s.setStage 20 { s.stage 20 with queue := (s.stage 20).queue ++ [e] }
    else if e.cls = clsTrace then s.bump EV_DROP_TRACE 1
    else s.merge k e

/-- COLLECTOR_FORWARD (R430, R431, R433): stage `k`, the management processor for 20, which takes Alarms first. -/
def execCollectorForward (k : Fin 21) (room : Bool) (s : State) : Out :=
  .next (if k.val = 20 then
      let s := s.vaonOut
      match s.ev.alarms with
      | e :: r => { s with ev := { s.ev with alarms := r } }.deliver e
      | [] => s.forward 20 room
    else s.forward k.val room)

/-- The entry with the oldest FIRST. -/
def oldestFirst (l : List EvRec) : Option EvRec :=
  l.foldl (fun a e => match a with | none => some e | some x => if e.first < x.first then some e else some x) none

/-- COALESCED_RECORD_OUT (R430): stage `k` has room, and its oldest coalescing entry leaves as a COAL record. -/
def execCoalescedRecordOut (k : Fin 21) (s : State) : Out :=
  .next (match (if k.val = 20 then oldestFirst s.ev.alarmTab else none) with
    | some e => { s with ev := { s.ev with alarmTab := s.ev.alarmTab.filter fun x => x ≠ e } }.deliver { e with coal := true }
    | none =>
      match oldestFirst (s.stage k.val).table with
      | none => s
      | some e =>
        let s := s.setStage k.val { s.stage k.val with table := (s.stage k.val).table.filter fun x => x ≠ e }
        if k.val = 20 then s.deliver { e with coal := true }
        else s.setStage 20 { s.stage 20 with queue := (s.stage 20).queue ++ [{ e with coal := true }] })

end Sys2Proof.Machine
end

