-- ==== Sys2Proof/Machine/Image.lean ====
section
/-!
DEFINITION. The Momer image (R502–R516): its header, sections, records, plans, programs and glean pack, and the checks that
verify it. Digests and signatures are the uninterpreted functions of Config (log entry 11).
-/

namespace Sys2Proof.Machine

/-- A byte of a flash or of a staged image; a flash byte that nothing has written reads 0xFF (log entry 44). -/
def imgB (m : Store Byte) (a : Nat) : Nat := (m.get 0xFF a).toNat
/-- A little-endian 32-bit word of it (R8). -/
def imgW (m : Store Byte) (a : Nat) : Nat := imgB m a + 256 * imgB m (a + 1) + 65536 * imgB m (a + 2) + 16777216 * imgB m (a + 3)
def imgBytes (m : Store Byte) (a n : Nat) : List Byte := (List.range n).map fun i => m.get 0xFF (a + i)
def imgWords (m : Store Byte) (a n : Nat) : List Nat := (List.range n).map fun i => imgW m (a + 4 * i)
def imgZero (m : Store Byte) (a n : Nat) : Bool := (List.range n).all fun i => imgB m (a + i) = 0
/-- Bits [`lo` + `wid` − 1 : `lo`] of a number. -/
def nbits (w lo wid : Nat) : Nat := w / 2 ^ lo % 2 ^ wid

/-! ### Digests (R502) -/

/-- A 256-bit digest. -/
def digest8 (b : List Byte) : List Word := (List.range 8).map (Config.shake256 b)
/-- A 512-bit digest: D of an image (R508), or what a pack's signature covers (R514). -/
def digest16 (b : List Byte) : List Word := (List.range 16).map (Config.shake256 b)
def wordsBytes (l : List Word) : List Byte := l.flatMap fun w => leBytes 4 w.toNat
def keyAt (m : Store Byte) (a : Nat) : List Byte := imgBytes m a 1793
def wordsAt (m : Store Byte) (a n : Nat) : List Word := (imgWords m a n).map (BitVec.ofNat 32)

/-- R505: the signature of a slot, and whether its length is in range. -/
def sigLen (m : Store Byte) (a : Nat) : Nat := imgB m a + 256 * imgB m (a + 1)
def sigAt (m : Store Byte) (a : Nat) : List Byte := imgBytes m (a + 2) (sigLen m a)
def sigLenOk (m : Store Byte) (a : Nat) : Bool := 1 ≤ sigLen m a && sigLen m a ≤ 1462

/-- R520: what the identity key is generated from: the fused seed and "RORIEN-ID". -/
def identityBytes (seed : List Byte) : List Byte := seed ++ [ 0x52, 0x4F, 0x52, 0x49, 0x45, 0x4E, 0x2D, 0x49, 0x44]
/-- R520: the identity public key. -/
def identityKey (seed : List Byte) : List Byte := (List.range 1793).map (Config.falconKey (identityBytes seed))

/-! ### Header and section table (R505–R507) -/

def imgLen (m : Store Byte) : Nat := imgW m 8
def imgVer (m : Store Byte) : Nat := imgW m 12
def imgN (m : Store Byte) : Nat := imgW m 4 / 65536
/-- KIND and SCOPE of the endorsement record (R506). -/
def recKind (m : Store Byte) : Nat := imgB m 0x1400
def recScope (m : Store Byte) : Nat := imgB m 0x1401 % 2
def recOwner (m : Store Byte) : List Word := wordsAt m 0x1408 8
def recIdent (m : Store Byte) : List Word := wordsAt m 0x1428 8
def recPrev (m : Store Byte) : List Word := wordsAt m 0x1448 8

/-- R507: the sections in use: type, offset, length. -/
def sections (m : Store Byte) : List (Nat × Nat × Nat) :=
  (List.range (min 16 (imgN m))).map fun i => (imgB m (0x40 + 32 * i), imgW m (0x44 + 32 * i), imgW m (0x48 + 32 * i))
/-- The section of a type, if the image has it: offset and length. -/
def sectAt (m : Store Byte) (t : Nat) : Option (Nat × Nat) := ((sections m).find? fun x => x.1 = t).map fun x => x.2
/-- R524: bit t − 1 for each section type present. -/
def sectionBits (m : Store Byte) : Nat := (sections m).foldl (fun a x => a ||| 2 ^ (x.1 - 1)) 0

/-- No two sections overlap and no type appears twice. -/
def sectionsApart : List (Nat × Nat × Nat) → Bool
  | [] => true
  | x :: r => r.all (fun y => y.1 ≠ x.1 && (x.2.1 + x.2.2 ≤ y.2.1 || y.2.1 + y.2.2 ≤ x.2.1)) && sectionsApart r

/-- R507. -/
def tableOk (m : Store Byte) : Bool :=
  let n := imgN m
  let l := sections m
  5 ≤ n && n ≤ 8 &&
  ((List.range 16).all fun i =>
    if i < n then imgW m (0x40 + 32 * i) < 256 && imgZero m (0x4C + 32 * i) 20 else imgZero m (0x40 + 32 * i) 32) &&
  (l.all fun x => 1 ≤ x.1 && x.1 ≤ 8 && x.2.1 % 4096 = 0 && 0x3000 ≤ x.2.1 && x.2.1 + x.2.2 ≤ imgLen m) &&
  sectionsApart l && [ 1, 2, 3, 4, 7].all fun t => l.any fun x => x.1 = t

/-- Check 1 of R516: the fixed fields, the section table and the slot lengths. -/
def headerOk (m : Store Byte) : Bool :=
  imgW m 0 = 0x524D4F4D && imgW m 4 % 65536 = 1 && imgLen m % 4096 = 0 && 0x8000 ≤ imgLen m && imgLen m ≤ 0x0FFFF000 &&
  imgZero m 16 48 && tableOk m && sigLenOk m 0x1500 && (if recKind m = 3 then sigLenOk m 0x2300 else sigLen m 0x2300 = 0)

/-! ### Owners (R503, R516) -/

/-- R503: the slot in force: the highest-numbered with COMMIT set and REVOKED clear. -/
def slotInForce (l : List OwnSlot) : Option (Nat × OwnSlot) :=
  (l.zipIdx.map fun x => (x.2, x.1)).foldl (fun a x => if x.2.commit && !x.2.revoked then some x else a) none

/-- R506: the record's unnamed bits and unused digests are 0. -/
def recordOk (m : Store Byte) : Bool :=
  imgW m 0x1400 < 512 && (recScope m = 1 || imgZero m 0x1428 32) && (recKind m = 3 || imgZero m 0x1448 32) && imgZero m 0x1468 152

/-- Checks 4 and 5 of R516 where they concern the slots: 0, or the reason they fail. -/
def ownerCheck (m : Store Byte) (b : Boot) : Nat :=
  let own := recOwner m
  let prev := recPrev m
  let rec4 := imgBytes m 0x1400 256
  let slot := (slotInForce b.owners).map fun x => x.2.digest
  if recKind m ≠ 2 ∧ slot = none then 5
  else if !recordOk m then 4
  else
    let ok := match recKind m with
      | 1 => slot = some own
      | 2 => slot = none && recScope m = 1
      | 3 => slot = some prev && digest8 (keyAt m 0x1B00) = prev && recScope m = 1 && own ≠ prev
          && Config.falconOk (keyAt m 0x1B00) rec4 (sigAt m 0x2300)
      | _ => false
    if !ok then 4
    else if Config.falconOk (keyAt m 0x400) rec4 (sigAt m 0x1500) && own = digest8 (keyAt m 0xC00)
        && (recScope m = 0 || recIdent m = b.identity) then 0
    else 6

/-! ### Records (R509) -/

/-- A record: TAG and body words. -/
abbrev ImgRec := Nat × List Nat

/-- R509: the records of a section from `a` to its end; none where they are not well formed. -/
def recsOf (m : Store Byte) : Nat → Nat → Nat → Option (List ImgRec)
  | 0, _, _ => none
  | k + 1, a, e =>
    if a = e then some []
    else if e < a + 4 then none
    else
      let t := imgW m a % 65536
      let n := imgW m a / 65536
      if t = 0 then (if imgZero m (a + 4) (e - a - 4) then some [] else none)
      else if e < a + 4 + 4 * n then none
      else (recsOf m k (a + 4 + 4 * n) e).map fun l => (t, imgWords m (a + 4) n) :: l

/-- The records of section type `t`; none of a section that is absent. -/
def secRecs (m : Store Byte) (t : Nat) : Option (List ImgRec) :=
  match sectAt m t with
  | none => some []
  | some (a, n) => recsOf m (n / 4 + 1) a (a + n)
def recsIn (m : Store Byte) (t : Nat) : List ImgRec := (secRecs m t).getD []
/-- The bodies of the records of one tag. -/
def bodies (m : Store Byte) (sec tag : Nat) : List (List Nat) := ((recsIn m sec).filter fun r => r.1 = tag).map fun r => r.2

/-- The pairs of a CSRSET body. -/
def pairsOf : List Nat → List (Nat × Nat)
  | o :: v :: r => (o, v) :: pairsOf r
  | _ => []

/-! ### The partition plan (R511) -/

structure PlanPart where
  part : Nat
  groups : Nat
  mask : Nat
  ranges : List (Nat × Nat)
deriving DecidableEq, Repr

def planPart (m : Store Byte) (a : Nat) : PlanPart :=
  let w := imgW m a
  ⟨nbits w 0 5, nbits w 12 9, imgW m (a + 4),
    (List.range (min 6 (nbits w 8 3))).map fun r => (nbits (imgW m (a + 8 + 4 * r)) 0 12, nbits (imgW m (a + 8 + 4 * r)) 12 12)⟩

/-- The entries of the plan. -/
def planOf (m : Store Byte) : List PlanPart :=
  match sectAt m 2 with
  | none => []
  | some (a, _) => (List.range (min 32 (nbits (imgW m a) 0 6))).map fun i => planPart m (a + 64 + 64 * i)

/-- One entry keeps R511: unnamed bits 0, ranges at or below GiB 3,071 (R399). -/
def planEntryOk (m : Store Byte) (a : Nat) : Bool :=
  let w := imgW m a
  let n := nbits w 8 3
  nbits w 5 3 = 0 && nbits w 11 1 = 0 && w < 2 ^ 21 && n ≤ 6 && nbits w 12 9 ≤ 256 && imgZero m (a + 32) 32 &&
  (List.range 6).all fun r =>
    let x := imgW m (a + 8 + 4 * r)
    if r < n then x < 2 ^ 24 && 1 ≤ nbits x 12 12 && nbits x 0 12 + nbits x 12 12 ≤ 3071 else x = 0

def rangesApart (p q : PlanPart) : Bool := p.ranges.all fun a => q.ranges.all fun b => a.1 + a.2 ≤ b.1 || b.1 + b.2 ≤ a.1
def plansApart : List PlanPart → Bool
  | [] => true
  | p :: r => r.all (fun q => p.part ≠ q.part && p.mask &&& q.mask = 0 && rangesApart p q) && plansApart r

/-- R511, R399. -/
def planOk (m : Store Byte) : Bool :=
  match sectAt m 2 with
  | none => false
  | some (a, n) =>
    let k := imgW m a
    let l := planOf m
    64 ≤ n && k ≤ 32 && imgZero m (a + 4) 60 && 64 + 64 * k ≤ n && ((List.range k).all fun i => planEntryOk m (a + 64 + 64 * i)) &&
    plansApart l && (l.map fun p => p.groups).foldl (· + ·) 0 ≤ 1024

/-- The partition a plan gives cluster `c`. -/
def planOfClu (l : List PlanPart) (c : Nat) : Option PlanPart := l.find? fun p => p.mask / 2 ^ c % 2 = 1

/-! ### The fields of each record (R509) -/

/-- A ring of `BINDING` or `EGRESS`: `len` bytes at the address of two words, inside its cluster's partition. -/
def ringOk (l : List PlanPart) (c lo hi len : Nat) : Bool :=
  let off := lo + 2 ^ 32 * (hi % 65536)
  let cls := nbits hi 16 4
  match planOfClu l c with
  | none => false
  | some p =>
    hi < 2 ^ 20 && (if cls = 0 then p.ranges.any fun r => r.1 * 2 ^ 30 ≤ off && off + len ≤ (r.1 + r.2) * 2 ^ 30
      else cls = 1 && off / 0x100000000 = c && off % 0x100000000 + len ≤ 0xC000000)

/-- R386, R388, R509: an entry a known-bad list may hold, its fields in range and its unnamed bits 0. -/
def knownBadOk (w : Nat) : Bool :=
  match w / 2 ^ 28 with
  | 1 => nbits w 17 6 < 36 && nbits w 0 17 = 0
  | 2 => nbits w 17 6 < 36 && nbits w 10 7 < 66 && nbits w 0 10 = 0
  | 3 => nbits w 17 6 < 52 && nbits w 0 17 = 0
  | 4 => nbits w 0 19 = 0
  | 5 => nbits w 0 5 = 0
  | 6 => nbits w 0 18 = 0
  | 7 => nbits w 23 5 < 24 && nbits w 0 12 = 0
  | 9 => nbits w 23 5 < 24 && nbits w 0 23 = 0
  | _ => false

/-- R509: a record of section `sec` keeps its tag's rules. -/
def recOk (l : List PlanPart) (sec : Nat) (r : ImgRec) : Bool :=
  let w (i : Nat) : Nat := r.2.getD i 0
  let n := r.2.length
  match r.1 with
  | 0x0001 => (sec = 1 || sec = 3 || sec = 4) && n % 2 = 0 && (pairsOf r.2).all fun p => p.1 % 4 = 0 && csrInBlock p.1
  | 0x0002 => sec = 1 && r.2.all knownBadOk
  | 0x0003 => sec = 1 && n = 10 && nbits (w 0) 11 5 = 0 && w 0 < 2 ^ 24 && w 1 < 2 ^ 23
  | 0x0004 => sec = 1 && n = 5 && nbits (w 0) 0 12 ≤ 3600
  | 0x0005 => sec = 1 && 1 ≤ nbits (w 0) 24 5 && nbits (w 0) 24 5 ≤ 16 && n = 1 + nbits (w 0) 24 5
  | 0x0101 => sec = 3 && n = 1 && nbits (w 0) 16 8 ≤ 40
  | 0x0201 => sec = 4 && n = 11 && nbits (w 0) 0 12 < (nbits (w 0) 12 4 + 1) * (nbits (w 0) 16 4 + 1) * (nbits (w 0) 20 4 + 1) &&
      (List.range 16).all fun i => nbits (w (1 + i / 8)) (4 * (i % 8)) 4 ≤ 7
  | 0x0202 => sec = 4 && n = 16 && nbits (w 0) 0 3 ≤ 5 && nbits (w 4) 0 6 ≤ 32 && nbits (w 4) 8 8 ≤ 128
  | 0x0203 => sec = 4 && n % 4 = 0 && 4 ≤ n && n ≤ 32
  | 0x0204 => sec = 4 && n = 4 && 1 ≤ nbits (w 0) 21 4 &&
      ringOk l (nbits (w 0) 16 5) (w 2) (w 3) (2 ^ (nbits (w 0) 21 4 + nbits (w 0) 25 2 + 11))
  | 0x0205 => sec = 4 && n = 3 && 1 ≤ nbits (w 0) 5 4 &&
      ringOk l (nbits (w 0) 0 5) (w 1) (w 2) (2 ^ (nbits (w 0) 5 4 + nbits (w 0) 9 2 + 11))
  | 0x0206 => sec = 4 && 1 ≤ nbits (w 0) 8 8 && n = 1 + nbits (w 0) 8 8 && l.any fun p => p.part = nbits (w 0) 0 5
  | 0x0501 => sec = 5 && n = 1
  | 0x0502 => sec = 5 && n = 1
  | _ => false

/-- R509: how many records of a tag an image may hold. -/
def tagMax (t : Nat) : Option Nat :=
  match t with
  | 0x0001 => none | 0x0005 | 0x0502 => some 64 | 0x0204 | 0x0205 | 0x0206 => some 32 | _ => some 1

/-- R509: the records of a section are well formed, in range, and no more than their count; the power plan holds POWER. -/
def secOk (m : Store Byte) (l : List PlanPart) (t : Nat) : Bool :=
  match secRecs m t with
  | none => false
  | some rs =>
    (rs.all fun r => recOk l t r && match tagMax r.1 with
      | none => true
      | some k => (rs.filter fun x => x.1 = r.1).length ≤ k) && (t ≠ 3 || rs.any fun r => r.1 = 0x0101)

/-! ### Programs (R512) and manifest (R513) -/

/-- A load record: KIND, cluster, MASK, OFFSET, and where its data lie and how many bytes. -/
structure LoadRec where
  kind : Nat
  clu : Nat
  mask : Nat
  off : Nat
  at_ : Nat
  len : Nat
deriving DecidableEq, Repr

/-- R512: the size of the memory a KIND names. -/
def loadSize (k : Nat) : Nat := match k with | 0 => 0x40000 | 1 => 0x10000 | 2 => 0x10000 | _ => 0x8000

def loadOk (m : Store Byte) (r : LoadRec) : Bool :=
  imgW m (r.at_ - 16) < 128 && (2 ≤ r.kind || r.mask = 0) && r.off % 4 = 0 && r.len % 4 = 0 && 4 ≤ r.len
    && r.off + r.len ≤ loadSize r.kind

/-- R512: the load records from `a`; none where the sequence is not well formed. -/
def loadsOf (m : Store Byte) : Nat → Nat → Nat → Option (List LoadRec)
  | 0, _, _ => none
  | k + 1, a, e =>
    if e < a + 16 then none
    else if imgZero m a 16 then some []
    else
      let w := imgW m a
      let r : LoadRec := ⟨w % 4, nbits w 2 5, imgW m (a + 4), imgW m (a + 8), a + 16, imgW m (a + 12)⟩
      let n := (r.len + 15) / 16 * 16
      if loadOk m r && a + 16 + n ≤ e && imgZero m (a + 16 + r.len) (n - r.len) then
        (loadsOf m k (a + 16 + n) e).map fun l => r :: l
      else none

def programs (m : Store Byte) : Option (List LoadRec) :=
  match sectAt m 7 with
  | none => none
  | some (a, n) => loadsOf m (n / 16 + 1) a (a + n)

/-- R513: the manifest's entries, 16 words each. -/
def manifest (m : Store Byte) : List (List Word) :=
  match sectAt m 8 with
  | none => []
  | some (a, n) => (List.range (min (n / 64 - 1) (nbits (imgW m a) 0 13))).map fun i => wordsAt m (a + 64 + 64 * i) 16

def manifestOk (m : Store Byte) : Bool :=
  match sectAt m 8 with
  | none => true
  | some (a, n) =>
    let k := imgW m a
    64 ≤ n && k ≤ 4096 && imgZero m (a + 4) 60 && 64 + 64 * k ≤ n && (List.range k).all fun i => imgZero m (a + 64 + 64 * i + 24) 8

/-- Check 7 of R516: the type of the first section that breaks R509–R513. -/
def contentBad (m : Store Byte) : Option Nat :=
  let l := planOf m
  if !secOk m l 1 then some 1
  else if !planOk m then some 2
  else if !secOk m l 3 then some 3
  else if !secOk m l 4 then some 4
  else if !secOk m l 5 then some 5
  else if (programs m).isNone then some 7
  else if !manifestOk m then some 8
  else none

/-! ### Glean packs (R514) -/

def packVer (m : Store Byte) (a : Nat) : Nat := imgW m (a + 4)
def packLen (m : Store Byte) (a : Nat) : Nat := imgW m (a + 8)
def packKern (m : Store Byte) (a : Nat) : Nat := imgW m (a + 12) % 8192

/-- R514: kernel `i` of the pack at `a`. -/
def kernelOk (m : Store Byte) (a i : Nat) : Bool :=
  let e := a + 64 + 16 * i
  let off := imgW m e
  let len := imgW m (e + 4)
  let k := a + off
  off % 64 = 0 && off + len ≤ packLen m a && imgW m (e + 8) < 4 && imgW m (e + 12) = 0 && imgW m k ≤ 65536 && imgW m (k + 4) ≤ 28672
    && imgZero m (k + 8) 8 && 64 + imgW m k + imgW m (k + 4) ≤ len

/-- R514: the pack at `a` of `n` bytes is well formed and its signature verifies under the vendor root or the owner. -/
def packOk (m : Store Byte) (a n : Nat) (vendor owner : List Byte) : Bool :=
  let len := packLen m a
  let w3 := imgW m (a + 12)
  let key := if nbits w3 16 1 = 1 then owner else vendor
  64 ≤ n && imgW m a = 0x4B504C47 && 1 ≤ packVer m a && len % 4 = 0 && len + 2048 ≤ 0x1000000 && len + 2048 ≤ n &&
  1 ≤ packKern m a && packKern m a ≤ 4096 && nbits w3 13 3 = 0 && w3 < 2 ^ 17 && imgZero m (a + 16) 48 &&
  64 + 16 * packKern m a ≤ len && ((List.range (packKern m a)).all fun i => kernelOk m a i) && sigLenOk m (a + len) &&
  Config.falconOk key (wordsBytes (digest16 (imgBytes m a len))) (sigAt m (a + len))

/-- R514: the kernels with WINDOW. -/
def packWindows (m : Store Byte) (a : Nat) : List Nat :=
  (List.range (packKern m a)).filter fun i => nbits (imgW m (a + 64 + 16 * i + 8)) 1 1 = 1

/-! ### The checks (R516) -/

/-- D of an image (R508). -/
def imgD (m : Store Byte) : List Word := digest16 (imgBytes m 0 (imgLen m))

/-- R516: the reason code of the first check that fails, and the section type of a CONTENT failure; (0, 0) where all pass.
`arrived`: every byte arrived and no staging slice returned an uncorrectable error. `nine`: check 9 counts. -/
def verify (m : Store Byte) (b : Boot) (arrived nine : Bool) : Nat × Nat :=
  if !headerOk m then (1, 0)
  else if !arrived then (2, 0)
  else if digest8 (keyAt m 0x400) ≠ b.vendor then (3, 0)
  else
    let r := ownerCheck m b
    if r ≠ 0 then (r, 0)
    else if !(sigLenOk m (imgLen m) && Config.falconOk (keyAt m 0xC00) (wordsBytes (imgD m)) (sigAt m (imgLen m))) then (7, 0)
    else match contentBad m with
      | some t => (8, t)
      | none =>
        let g := match sectAt m 6 with
          | none => true
          | some (a, n) => packOk m a n (keyAt m 0x400) (keyAt m 0xC00)
        if !g then (9, 0)
        else if nine && recKind m ≠ 1 && b.owners.all (fun o => o.prog) then (10, 0)
        else (0, 0)

end Sys2Proof.Machine
end

