-- ==== Sys2Proof/Machine/Boot.lean ====
section
/-!
DEFINITION. The start of the part: corner dies and the boot master (R379–R384), fuses and repair maps (R385–R388), tests and
voting (R389–R393), link qualification (R394), the cold and warm starts (R396–R401), enrolment (R517) and the settings of the
image (R12, R378, R509–R513). What the tests and the qualification of links find, and the far ends, are operands.
-/

namespace Sys2Proof.Machine

def State.modBoot (s : State) (g : Boot → Boot) : State := { s with boot := g s.boot }

/-! ### Fuses (R385–R387) -/

/-- R386: the CRC of entries in copy order, each little-endian. -/
def crcOf (l : List Word) : Nat := (l.flatMap fun w => leBytes 4 w.toNat).foldl crcByte 0xFFFF

/-- KIND of an entry. -/
def fuKind (w : Word) : Nat := wbits w 28 4

/-- R386, R387: the entries of a copy before END, where the copy is valid. -/
def fuseCopy (l : List Word) : Option (List Word) :=
  let es := l.takeWhile fun w => fuKind w ≠ 0
  match l[es.length]? with
  | none => none
  | some e =>
    if es.all (fun w => fuKind w ≤ 9) && es.length < 2048 && wbits e 16 12 = es.length && wbits e 0 16 = crcOf es then some es else none

/-- R387: the repair map used. -/
def Boot.fuses (b : Boot) : List Word :=
  match fuseCopy b.mapA, fuseCopy b.mapB with
  | some x, some y => x ++ y.filter fun w => !x.contains w
  | some x, none => x
  | none, some y => y
  | none, none => []

/-- Entries that mark physical core, column, slice, regulator slice, and stacks (R386). -/
def marksCore (l : List Word) (c p : Nat) : Bool := l.any fun w => fuKind w = 1 && wbits w 23 5 = c && wbits w 17 6 = p
def marksCol (l : List Word) (c p i : Nat) : Bool :=
  l.any fun w => fuKind w = 2 && wbits w 23 5 = c && wbits w 17 6 = p && wbits w 10 7 = i
def marksSlice (l : List Word) (c i : Nat) : Bool := l.any fun w => fuKind w = 3 && wbits w 23 5 = c && wbits w 17 6 = i
def marksReg (l : List Word) (c i : Nat) : Bool := l.any fun w => fuKind w = 4 && wbits w 23 5 = c && wbits w 19 4 = i
def marksStack (l : List Word) (st : Nat) : Bool := l.any fun w => fuKind w = 9 && wbits w 23 5 = st
/-- R404: the field that counts a wire of the mesh that a fuse entry marks: of the wires over a seam, the field west or north
of it. -/
def wireField (w : Word) : Nat :=
  let f := wbits w 24 4
  let r := wbits w 21 3
  let side := wbits w 19 2
  if side = 0 && r < 4 && 4 ≤ f then f - 4 else if side = 3 && r % 4 = 0 && f % 4 ≠ 0 then f - 1 else f
/-- R388, R394, R404: wires of field `f`, and UCIe lanes of position `p`, that the map has repaired. -/
def mapWires (l : List Word) (f : Nat) : Nat := l.countP fun w => fuKind w = 5 && wireField w = f
def mapLanes (l : List Word) (p : Nat) : Nat := l.countP fun w => fuKind w = 6 && wbits w 26 2 = p
/-- R386: the regulator trim of cluster `c`. -/
def trimOf (l : List Word) (c : Nat) : Nat :=
  l.foldl (fun a w => if fuKind w = 8 && wbits w 23 5 = c then wbits w 18 5 else a) 0

/-! ### Maps (R24, R26, R97, R220) -/

/-- R97: the bad columns of a physical core, ascending. -/
def badCols (marks test : Nat → Bool) : List Nat := (List.range 66).filter fun i => marks i || test i

/-- R24: the physical core that serves logical core `k`, given the bad ones. -/
def coreFor (bad : Nat → Bool) (k : Nat) : Option Nat :=
  if !bad k then some k
  else (([ 32, 33, 34, 35]).filter fun p => !bad p)[((List.range k).filter bad).length]?

/-- R24, R26, R97, R99, R391: the maps of cluster `c`; with its sequencer failed every logical core is ABSENT. The column map
of every physical core is kept, for a spare too. DESIGN CHOICE (log entry 70): RX and RY of an ABSENT core stay as they
were. -/
def State.mapCores (s : State) (c : Nat) (bad : Nat → Bool) (cols : Nat → List Nat) (seqOk : Bool) : State :=
  let pair (p : Nat) : Nat := (cols p).getD 0 0x7F + 128 * (cols p).getD 1 0x7F
  let s := s.modBoot fun b => { b with
    colMaps := (List.range 36).foldl (fun m p => m.set noCols (36 * c + p) (pair p)) b.colMaps }
  let s := (List.range 32).foldl (fun t k =>
    let n := 32 * c + k
    match (if seqOk then coreFor bad k else none) with
    | some p =>
      let t := (((t.setF (CORE_MAP_PCORE n) p).setF (CORE_MAP_RX n) (routerX c (p / 9))).setF (CORE_MAP_RY n) (routerY c (p / 9))).setF
        (CORE_MAP_ABSENT n) 0
      t.arrayCols n (36 * c + p)
    | none => t.coreAway n) s
  let good := (([ 32, 33, 34, 35]).filter fun p => !bad p).length
  let need := ((List.range 32).filter bad).length
  (s.setF (CLU_INFO_CORES_PRESENT c) (if seqOk then 32 - (need - good) else 0)).setF (CLU_INFO_CORE_SPARES_LEFT c) (good - need)

/-- R220: the spare slices. -/
def spareSlice (j : Nat) : Nat := match j with | 0 => 24 | 1 => 25 | 2 => 50 | _ => 51
/-- R220: the physical slice in service for logical slice `l`. -/
def inService (l : Nat) : Nat := if l < 24 then l else l + 2

/-- R220, R239: the slice map of cluster `c`. -/
def State.mapSlices (s : State) (c : Nat) (bad : Nat → Bool) : State :=
  let need := (List.range 48).filter fun l => bad (inService l)
  let good := (List.range 4).filter fun j => !bad (spareSlice j)
  let s := (List.range 4).foldl (fun t j =>
    (t.setF (GRN_SPARE_BAD c j) (bool1 (bad (spareSlice j)))).setF (GRN_SPARE_LSLICE c j)
      (match good.findIdx? (· = j) with | some i => need.getD i 0x3F | none => 0x3F)) s
  let mask (a n : Nat) : Nat := (List.range n).foldl (fun x i => if bad (a + i) then x + 2 ^ i else x) 0
  let s := ((s.setF (GRN_BADL_BAD c) (mask 0 32)).setF (GRN_BADH_BAD c) (mask 32 20)).setF (GRN_STAT_BAD_COUNT c)
    ((List.range 52).filter bad).length
  (s.setF (GRN_STAT_ABSENT c) (bool1 (good.length < need.length))).setF (CLU_INFO_SLICE_SPARES_LEFT c) (good.length - need.length)

/-! ### Owners (R503, R504, R524) -/

/-- The registers of the owner slots. -/
def State.showOwners (s : State) : State :=
  let o := s.boot.owners
  let mask (g : OwnSlot → Bool) : Nat := (o.zipIdx.foldl (fun a x => if g x.1 then a + 2 ^ x.2 else a) 0)
  let s := ((s.setF OWN_STAT_PROG (mask fun x => x.prog)).setF OWN_STAT_COMMIT (mask fun x => x.commit)).setF OWN_STAT_REVOKED
    (mask fun x => x.revoked)
  let f := slotInForce o
  let s := (s.setF OWN_STAT_INFORCE ((f.map fun x => x.1).getD 0)).setF OWN_STAT_NOOWNER (bool1 f.isNone)
  let d := (f.map fun x => x.2.digest).getD []
  (List.range 8).foldl (fun t i => t.setF (OWN_HASH_WORD i) (d.getD i 0).toNat) s

/-- R520: the MAC before a link plan sets one, and the link-local address formed from it (the form is PRESUMED, RFC 4291). -/
def macOf (id : List Word) : Nat :=
  ((wordsBytes id).take 5).foldl (fun a b => a * 256 + b.toNat) 0x02
def linkLocal (mac : Nat) : Nat :=
  0xFE80 * 2 ^ 112 + (mac / 2 ^ 24 ^^^ 0x020000) * 2 ^ 40 + 0xFFFE * 2 ^ 24 + mac % 2 ^ 24

/-! ### Beginning a start -/

/-- Data of a BOOT record: FAIL and STEP (R429). -/
def State.bootData (s : State) : Nat := s.f BOOT_STAT_FAIL + 16 * s.f BOOT_STAT_STEP

/-- R381, R383, R516: a failure that raises a BOOT Alarm. -/
def State.bootAlarm (s : State) (fail : Nat) : State :=
  (s.setF BOOT_STAT_FAIL fail).raise clsAlarm 0x060 0xFF 11 0 (fail + 16 * s.f BOOT_STAT_STEP)

/-- R381 step 4: no die is boot master. -/
def State.noMaster (s : State) : State := (s.modBoot fun b => { b with halted := true }).bootAlarm (s.f BOOT_STAT_FAIL)

/-- R284, R379, R381, R396 step 1: a cold start at P; `rom` are the positions whose ROM checks pass, none of which can
without the reference (R531). -/
def State.coldBegin (s : State) (rom : List Nat) (ref : Bool) : State :=
  let ok := if ref then (List.range 4).filter fun p => rom.contains p else []
  let s := s.keepAges
  let s := { s.keepRegs (fun o => !(0x300 ≤ o && o < 0x420) && !settingReg o) with dtime := 0, tim := Tim.reset }
  let s := ((s.setF MOD_PINS_REFOK (bool1 ref)).setF BOOT_STAT_STEP 1).setF KW_STAT_STATE 0
  let s := ok.foldl (fun t p => t.setF (CDIE_ID_ROMOK p) 1) s
  let s := s.setVpm fun v => { v with good := true, resetLow := false, vaon := true, govOff := false, kwAt := 0, devAbort := false }
  s.modBoot fun b => { b with
    romOk := ok, claim := none, powerAt := 0, halted := false, maps14 := false, testFails := [], inForce := false, restart := 0 }

/-- POWER_GOOD (R529): P, unless RESET# is low. -/
def execPowerGood (rom : List (Fin 4)) (ref : Bool) (s : State) : Out :=
  .next (if s.vpm.good || s.vpm.resetLow then s else s.coldBegin (rom.map fun p => p.val) ref)

/-- VAON_RISE (R526, R529): the VPM brings up VAON, and VAUX18 with it. -/
def execVaonRise (s : State) : Out := .next (s.setVpm fun v => { v with vaon := true })

/-- R530: the XSPI signals are in high impedance: while RESET# is low, and from VAON's rise until step 1 of a start. -/
def State.xspiFree (s : State) : Bool := s.vpm.resetLow || (s.vpm.vaon && !s.vpm.good)

/-- RESET_ASSERT (R529): low for 10 µs. -/
def execResetAssert (s : State) : Out :=
  .next ((s.setVpm fun v => { v with resetLow := true }).railsOff)

/-- RESET_RELEASE (R529). -/
def execResetRelease (rom : List (Fin 4)) (ref : Bool) (s : State) : Out :=
  .next (if s.vpm.resetLow then s.coldBegin (rom.map fun p => p.val) ref else s)

/-- R387: the repair map is read, and its copies are judged. -/
def State.fuseRead (s : State) : State :=
  let a := fuseCopy s.boot.mapA
  let b := fuseCopy s.boot.mapB
  let differ := a.isSome && b.isSome && a ≠ b
  let s := (((s.setF FUSE_STAT_A_OK (bool1 a.isSome)).setF FUSE_STAT_B_OK (bool1 b.isSome)).setF FUSE_STAT_DIFFER (bool1 differ)).setF
    FUSE_STAT_ENTRIES s.boot.fuses.length
  if a.isNone && b.isNone then s.raise clsError 0x060 0xFF 11 0 s.bootData
  else if a.isNone || b.isNone || differ then s.raise clsWarning 0x060 0xFF 11 0 s.bootData
  else s

/-- R520: the port before an image is in force: the link-local address of its MAC alone, and Caddy on port 52,189. -/
def State.bareEth (s : State) : State :=
  { s.setF CADDY_STAT_PORT 52189 with eth := { s.eth with
    iface := 2, mac := macOf s.boot.identity, ip6 := linkLocal (macOf s.boot.identity), ip4 := 0, gw4 := 0, gw6 := 0, pfx4 := 0, pfx6 := 0,
    tagged := false, vid := 0, prio := 0, dscp := [], masters := [], bindings := [], egress := [] } }

/-- R26, R341, R503, R520: what the fuses alone give. -/
def State.fuseMaps (s : State) : State :=
  let l := s.boot.fuses
  let s := (List.range 32).foldl (fun t c =>
    let cols (p : Nat) : List Nat := badCols (marksCol l c p) fun _ => false
    let t := t.mapCores c (fun p => marksCore l c p || 2 < (cols p).length) cols true
    (t.mapSlices c (marksSlice l c)).setF (REG_VT_TRIM c) (trimOf l c)) s
  let s := s.modBoot fun b => { b with identity := digest8 (identityKey b.seed) }
  let s := (List.range 8).foldl (fun t i => t.setF (ID_DIGEST_WORD i) (s.boot.identity.getD i 0).toNat) s.showOwners
  s.bareEth

/-- A die becomes boot master (R381, R384). -/
def State.master (s : State) (p : Nat) : State :=
  let s := (List.range 4).foldl (fun t q => t.setF (CDIE_ID_MASTER q) (bool1 (q = p))) s
  (s.setF BOOT_STAT_MASTER p).modBoot fun b => { b with claim := some p }

/-- A die is held in reset (R381, R383, R401). -/
def State.holdDie (s : State) (p : Nat) : State := (s.setF (CDIE_ID_HELD p) 1).setBit CDIE_COMMON_HELD p true

/-- R396 steps 2 and 3: the fuse rows are read; with PWR_WARN# low no field is powered, else the image comes next. -/
def State.fromStep2 (s : State) : State :=
  let s := ((s.setF BOOT_STAT_STEP 2).fuseRead).fuseMaps
  let s := (List.range 4).foldl (fun t p => if t.boot.romOk.contains p then t else t.holdDie p) s
  if s.vpm.warnLow then (s.setF BOOT_STAT_STEP 3).startFail 4 0 else s.setF BOOT_STAT_STEP 4

/-- BOOT_CLAIM (R381): die `p`, 2 ms × p after its ROM checks, claims if no die has. -/
def execBootClaim (p : Fin 4) (s : State) : Out :=
  .next (if s.f BOOT_STAT_STEP ≠ 1 || s.boot.claim.isSome || s.boot.halted || !s.boot.romOk.contains p.val then s
    else ((s.advanceTo (s.boot.powerAt + 2000000 * p.val * nsU)).master p.val).fromStep2)

/-- CLAIM_TIMEOUT (R381): no claim within 20 ms of power-good. -/
def execClaimTimeout (s : State) : Out :=
  .next (if s.f BOOT_STAT_STEP ≠ 1 || s.boot.claim.isSome || s.boot.halted then s
    else (s.advanceTo (s.boot.powerAt + 20000000 * nsU)).noMaster)

/-! ### Settings of the image (R12, R378, R509, R510) -/

/-- R3: a power limit; above the fused maximum it is clamped with a Warning. -/
def State.plimit (s : State) (w : Nat) : State :=
  let p := s.f DEV_PLIMIT_PMAX_W
  let s := s.setF DEV_PLIMIT_PSET_W (min w p)
  if p < w then s.raise clsWarning 0x005 0xFF 11 0 w else s

/-- R274, R378: the mesh weights; 0 sets 1. -/
def State.meshWeights (s : State) (w : Word) : State :=
  ([ MESH_VCW_W1, MESH_VCW_W2, MESH_VCW_W3, MESH_VCW_W4, MESH_VCW_W5]).foldl (fun t d => t.setF d (max 1 (wbits w d.lo d.wid))) s

/-- R12, R378: a write by the host, which fields set from the image take; `HBM_MAP` only from the image (R232). -/
def State.hostWrite (s : State) (image : Bool) (off : Nat) (w : Word) : State :=
  if off = 0x100 ∧ image then (s.setF HBM_MAP_LOCAL (wbits w 0 6)).setF HBM_MAP_RATE (wbits w 8 2)
  else if off = 0x200 then s.meshWeights w
  else if off = 0x38000100 then s.setF CADDY_STAT_PORT (wbits w 0 16)
  else if off = 0x34000000 then s.setF OCT_SYS_MODULE (wbits w 0 12)
  else s.csrWrite off w

/-- R510: an offset in a cluster's or a core's block. -/
def lateOff (o : Nat) : Bool := 0x10000000 ≤ o && o < 0x12000000

/-- R510: the CSRSET writes of an image whose offsets `p` picks, in record order. -/
def State.csrSets (s : State) (m : Store Byte) (p : Nat → Bool) : State :=
  let l := ([ 1, 3, 4]).flatMap fun t => (bodies m t 0x0001).flatMap pairsOf
  (l.filter fun x => p x.1).foldl (fun t x => t.hostWrite true x.1 (BitVec.ofNat 32 x.2)) s

/-- A 128-bit number of four words of a record. -/
def quad (r : List Nat) (i : Nat) : Nat :=
  r.getD i 0 + 2 ^ 32 * r.getD (i + 1) 0 + 2 ^ 64 * r.getD (i + 2) 0 + 2 ^ 96 * r.getD (i + 3) 0

/-- R509, R462: SYSTEM; without it module 0 of a 1 × 1 × 1 system. -/
def State.setSystem (s : State) (m : Store Byte) : State :=
  let r := (bodies m 4 0x0201).getD 0 []
  let w (i : Nat) : Nat := r.getD i 0
  let s := s.setF OCT_SYS_MODULE (nbits (w 0) 0 12)
  let s := (List.range 16).foldl (fun t l => t.setF (OCT_LSTAT_DIR l) (nbits (w (1 + l / 8)) (4 * (l % 8)) 4)) s
  s.modBoot fun b => { b with
    system := (nbits (w 0) 12 4 + 1, nbits (w 0) 16 4 + 1, nbits (w 0) 20 4 + 1),
    far := (List.range 16).foldl (fun t l => t.set 0 l (nbits (w (3 + l / 2)) (16 * (l % 2)) 12)) [],
    peers := (bodies m 4 0x0206).flatMap fun r =>
      (r.drop 1).map fun x => (nbits (r.getD 0 0) 0 5, nbits x 0 12, nbits x 12 8) }

/-- R509: ETHERNET, PTPADDR, BINDING and EGRESS. -/
def State.setEther (s : State) (m : Store Byte) : State :=
  let ring (c n sz lo hi dscp port : Nat) : Ring := ⟨port, c, n, sz + 11, devAddr (nbits hi 16 4) (lo + 2 ^ 32 * (hi % 65536)), dscp⟩
  let bind := (bodies m 4 0x0204).map fun r =>
    let w (i : Nat) : Nat := r.getD i 0
    ring (nbits (w 0) 16 5) (nbits (w 0) 21 4) (nbits (w 0) 25 2) (w 2) (w 3) (nbits (w 1) 0 6) (nbits (w 0) 0 16)
  let out := (bodies m 4 0x0205).map fun r =>
    let w (i : Nat) : Nat := r.getD i 0
    ring (nbits (w 0) 0 5) (nbits (w 0) 5 4) (nbits (w 0) 9 2) (w 1) (w 2) 0 0
  let s := { s with eth := { s.eth with
    bindings := bind, egress := out,
    masters := (bodies m 4 0x0203).flatMap fun r => (List.range (r.length / 4)).map fun i => (r.drop (4 * i)).take 4 } }
  match bodies m 4 0x0202 with
  | [] => s
  | r :: _ =>
    let w (i : Nat) : Nat := r.getD i 0
    let mac := w 14 + 2 ^ 32 * (w 15 % 65536)
    { s.setF CADDY_STAT_PORT (w 13) with eth := { s.eth with
      iface := nbits (w 0) 0 3, tagged := nbits (w 0) 3 1 = 1, vid := nbits (w 0) 4 12, prio := nbits (w 0) 16 3,
      dscp := [ nbits (w 1) 0 6, nbits (w 1) 8 6, nbits (w 1) 16 6], ip4 := w 2, gw4 := w 3, pfx4 := nbits (w 4) 0 6,
      pfx6 := nbits (w 4) 8 8, ip6 := quad r 5, gw6 := quad r 9, mac := if mac = 0 then s.eth.mac else mac } }

/-- R396 step 8: device settings, power plan and link plan. -/
def State.settings (s : State) (m : Store Byte) : State :=
  let s := s.csrSets m fun o => !lateOff o
  let p := ((bodies m 3 0x0101).getD 0 []).getD 0 0
  let s := (s.plimit (nbits p 0 16)).setVpm fun v => { v with vsramSet := 1400 + 5 * nbits p 16 8 }
  let s := (s.setSystem m).setEther m
  s.modBoot fun b => { b with retry := (bodies m 1 0x0005).map fun r => r.map (BitVec.ofNat 32), manifest := manifest m }

/-- R396 step 14, R511: the partition plan, and the settings of clusters and cores. -/
def State.applyPlan (s : State) (m : Store Byte) (seqs : Bool) : State :=
  let l := planOf m
  let s := { s with parts := s.parts.filter fun e => e.1 = devPart }
  let s := (List.range 32).foldl (fun t c =>
    t.setF (CLU_INFO_PARTITION c) (match planOfClu l c with
      | some p => if seqs && !t.on (START_TEST_SEQ_OK c) then 0xFF else p.part
      | none => 0xFF)) s
  let s := l.foldl (fun t p => t.modPart p.part fun x => { x with
    held := true, nGroups := p.groups, hbm := p.ranges.map fun r => (r.1 * 2 ^ 30, (r.1 + r.2) * 2 ^ 30 - 1) }) s
  s.csrSets m lateOff

/-! ### Programs (R512) and the copy of the image (R399) -/

/-- R512: the address of a load record's data in a core's or a sequencer's memory. -/
def loadAddr (r : LoadRec) (k : Nat) : Nat :=
  match r.kind with
  | 0 => simemAddr r.clu r.off | 1 => sdmemAddr r.clu r.off
  | 2 => imemAddr (32 * r.clu + k) r.off | _ => dmemAddr (32 * r.clu + k) r.off

/-- R396 step 16, R512. -/
def State.loadPrograms (s : State) (m : Store Byte) : State :=
  ((programs m).getD []).foldl (fun t r =>
    let d := imgBytes m r.at_ r.len
    if t.partOf r.clu = 0xFF then t
    else if r.kind ≤ 1 then t.wrN (loadAddr r 0) d
    else (List.range 32).foldl (fun u k =>
      if r.mask / 2 ^ k % 2 = 0 || u.absent (32 * r.clu + k) then u else u.wrN (loadAddr r k) d) t) s

/-- R399. -/
def copyBase : Nat := 0x2FFF0000000
/-- The image as its HBM copy holds it. -/
def State.hbmImage (s : State) : Store Byte := (List.range (s.boot.imgLen + 2048)).map fun i => (i, s.rd (devAddr 0 (copyBase + i)))
/-- R396 step 14, R400: the copy, valid for a warm start where every stack of pair 5 is in service. -/
def State.copyImage (s : State) (m : Store Byte) : State :=
  let s := s.wrN (devAddr 0 copyBase) (imgBytes m 0 (s.boot.imgLen + 2048))
  let ok := (List.range 4).all fun i => s.stackOk (pairStack 5 i)
  ((s.setF BOOT_IMGL_BASE_LO copyBase).setF BOOT_IMGH_BASE_HI (copyBase / 2 ^ 32)).setF BOOT_IMGH_VALID (bool1 ok)

/-! ### Verification and the boot decision (R383, R384, R516, R517) -/

/-- R517: enrolment takes the lowest slot with PROG clear; `ok` says whether each read-back succeeds, and a failed one is
followed by one more. -/
def enrol (l : List OwnSlot) (own : List Word) (revoke : Option Nat) : List Bool → Option (List OwnSlot) × List OwnSlot
  | [] => (none, l)
  | ok :: r =>
    match l.findIdx? fun o => !o.prog with
    | none => (none, l)
    | some i =>
      let l' := l.zipIdx.map fun x =>
        if x.2 = i then (if ok then ⟨own, true, true, false⟩ else { x.1 with prog := true }) else x.1
      if ok then (some (l'.zipIdx.map fun x => if revoke = some x.2 then { x.1 with revoked := true } else x.1), l')
      else enrol l' own revoke r

/-- R383: the stepping of position `p`, major × 16 + minor, 0 for a held die. -/
def State.stepping (s : State) (p : Nat) : Nat :=
  if s.on (CDIE_ID_HELD p) then 0 else 16 * s.f (CDIE_ID_MAJOR p) + s.f (CDIE_ID_MINOR p)

/-- R384: the boot master is held, and the next die that would have claimed reads the image again. -/
def State.handOver (s : State) : State :=
  match (List.range 4).find? fun q => s.f BOOT_STAT_MASTER < q && s.boot.romOk.contains q && !s.on (CDIE_ID_HELD q) with
  | some q => (s.master q).setF BOOT_STAT_STEP 6
  | none => s.noMaster

/-- R383: dies below the minimum stepping are held. -/
def State.holdOld (s : State) (m : Store Byte) : State :=
  let low := ((bodies m 5 0x0501).getD 0 []).getD 0 0 % 256
  (List.range 4).foldl (fun t p => if t.on (CDIE_ID_HELD p) || low ≤ t.stepping p then t else t.holdDie p) s

/-- R383: the first combination that matches; 0xFF for an empty table, none where none matches. -/
def State.combo (s : State) (m : Store Byte) : Option Nat :=
  let l := (bodies m 5 0x0502).map fun r => r.getD 0 0
  if l = [] then some 0xFF
  else l.findIdx? fun w => (List.range 4).all fun p => nbits w (8 * p) 8 = 0xFF || nbits w (8 * p) 8 = s.stepping p

/-- R383: the least feature level of the dies not held. -/
def State.commonLevel (s : State) : Nat :=
  (((List.range 4).filter fun p => !s.on (CDIE_ID_HELD p)).map fun p => s.f (CDIE_ID_FEATLVL p)).foldl min 255

/-- R524: what the image registers show of the image measured. -/
def State.showImage (s : State) (m : Store Byte) (r : Nat × Nat) : State :=
  let s := (((s.setF IMG_STAT_SRC (if s.boot.streamed then 2 else 1)).setF IMG_STAT_VERIFIED (bool1 (r.1 = 0))).setF
    IMG_STAT_REASON r.1).setF IMG_STAT_BADSECT r.2
  let s := s.setF IMG_STAT_ENROLLED 0
  let s := if s.boot.streamed then s.setF IMG_XFER_STATE 0 else s
  if r.1 = 1 then s
  else
    let s := ((s.setF IMG_STAT_SECTIONS (sectionBits m)).setF IMG_VER_IMGVER (imgVer m)).setF IMG_LEN_LEN (imgLen m)
    if r.1 = 2 then s else (List.range 16).foldl (fun t i => t.setF (IMG_DIGEST_WORD i) ((imgD m).getD i 0).toNat) s

/-- R517: the owner key of an ENROL or TRANSFER image is enrolled; false where both read-backs fail. -/
def State.enrolStep (s : State) (m : Store Byte) (rb : List Bool) : Bool × State :=
  if recKind m = 1 then (true, s)
  else
    let old := if recKind m = 3 then (slotInForce s.boot.owners).map fun x => x.1 else none
    match enrol s.boot.owners (recOwner m) old [ rb.getD 0 true, rb.getD 1 true] with
    | (some l, _) => (true, ((s.modBoot fun b => { b with owners := l }).setF IMG_STAT_ENROLLED 1).showOwners)
    | (none, l) => (false, ((s.modBoot fun b => { b with owners := l }).setF IMG_STAT_REASON 11).showOwners)

/-- R414: the pack of the image becomes the active one. -/
def State.usePack (s : State) (m : Store Byte) : State :=
  s.modBoot fun b => { b with
    packVer := (sectAt m 6).elim 0 fun x => packVer m x.1, packKernels := (sectAt m 6).elim 0 fun x => packKern m x.1,
    packWin := (sectAt m 6).elim [] fun x => packWindows m x.1,
    packBytes := (sectAt m 6).elim [] fun x => imgBytes m x.1 (packLen m x.1 + 2048) }

/-- R396 step 8 for an image that passes. -/
def State.decide8 (s : State) (m : Store Byte) (rb : List Bool) : State :=
  let e := s.enrolStep m rb
  if !e.1 then ((e.2.setF IMG_STAT_VERIFIED 0).bootAlarm 1).startFail 1 4
  else
    let s := e.2.holdOld m
    if s.on (CDIE_ID_HELD (s.f BOOT_STAT_MASTER)) then s.handOver
    else match s.combo m with
      | none => (s.bootAlarm 3).startFail 3 4
      | some i =>
        let s := ((s.setF CDIE_COMMON_COMBO i).setF CDIE_COMMON_LEVEL s.commonLevel).settings m
        let s := s.modBoot fun b => { b with
          staged := m, imgLen := imgLen m, digest := imgD m, inForce := true, readyOnce := false }
        (s.usePack m).setF BOOT_STAT_STEP 9

/-- R394, R403, R404: what link qualification found: wires replaced in each field beside those of the repair map, with the
spare groups in use, and UCIe lanes repaired on each corner die beside those of the map, 256 beyond repair. -/
def State.linkQual (s : State) (wires : List (Nat × Nat × Nat)) (ucie : List (Nat × Nat)) : State :=
  let l := s.boot.fuses
  let at_ (i : Nat) : Nat × Nat := ((wires.find? fun x => x.1 % 16 = i).map Prod.snd).getD (0, 0)
  let lane (p : Nat) : Nat := ((ucie.find? fun x => x.1 % 4 = p).map Prod.snd).getD 0
  let s := (List.range 16).foldl (fun t f =>
    (t.setF (LINK_QUAL_WIRES f) (min 255 (mapWires l f + (at_ f).1))).setF (LINK_QUAL_GROUPS f) (at_ f).2) s
  (List.range 4).foldl (fun t p =>
    if 255 < lane p then t.holdDie p else t.setF (CDIE_LINKQ_UCIE_REP p) (min 255 (mapLanes l p + lane p))) s

/-- IMAGE_VERIFY (R394, R396 steps 4–8, R516): mesh and seam wires are all repairable (`meshOk`), with the wires and groups
replaced in each field; UCIe lanes repaired on each corner die, 256 beyond repair; every image byte arrived without an
uncorrectable error; and the read-backs of an enrolment. -/
def execImageVerify (meshOk : Bool) (wires : List (Nat × Nat × Nat)) (ucie : List (Nat × Nat)) (arrived : Bool) (rb : List Bool)
    (s : State) : Out :=
  .next (let s := if s.f BOOT_STAT_STEP = 2 then s.fromStep2 else s
    if s.f BOOT_STAT_STEP < 4 || 8 < s.f BOOT_STAT_STEP || s.f KW_STAT_STATE = 2 || s.boot.claim.isNone || s.on BOOT_STAT_WARM
        || s.boot.halted then s
    else
      let s := s.linkQual wires ucie
      if !meshOk then s.startFail 2 5
      else if s.on (CDIE_ID_HELD (s.f BOOT_STAT_MASTER)) then s.handOver
      else
        let m := if s.boot.streamed then s.eth.stream else s.eth.flash
        let r := verify m s.boot (arrived && (!s.boot.streamed || s.eth.xferAt = s.eth.xferLen)) true
        let s := (s.setF BOOT_STAT_STEP 8).showImage m r
        if r.1 = 0 then s.decide8 m rb
        else ((s.modBoot fun b => { b with inForce := false }).bootAlarm 1).startFail 1 4)

/-! ### Start-up tests (R389–R393) -/

/-- R389: the three testers of physical core `p`. -/
def testers (p : Nat) : List Nat :=
  let q := p / 9
  [ 9 * q + (p - 9 * q + 1) % 9, 9 * q + (p - 9 * q + 2) % 9, if q % 2 = 0 then p + 9 else p - 9]
/-- The three targets of a tester. -/
def targets (t : Nat) : List Nat := (List.range 36).filter fun p => (testers p).contains t

/-- R390 step 1: the judgement of target `p` by the testers `may` vote. -/
def judge (may : Nat → Bool) (fails : Nat → Nat → Bool) (p : Nat) : Bool :=
  let v := (testers p).filter may
  let n := (v.filter fun t => fails t p).length
  2 ≤ n || v.length ≤ 2 * n

/-- R390 steps 2 and 3: the tester disagrees on two or more of its targets. -/
def suspect (marked : Nat → Bool) (fails : Nat → Nat → Bool) (t : Nat) : Bool :=
  !marked t && 2 ≤ ((targets t).filter fun p => fails t p ≠ judge (fun x => !marked x) fails p).length

/-- R390: the tests judge physical core `p` bad. -/
def votedBad (marked : Nat → Bool) (fails : Nat → Nat → Bool) (p : Nat) : Bool :=
  suspect marked fails p || judge (fun t => !marked t && !suspect marked fails t) fails p

/-- Count the true values of a list, for `BOOT_DISC`. -/
def countB (l : List Bool) : Nat := (l.filter id).length

/-- What the start-up tests of a device find: failing verdicts (cluster, tester, target); failing columns (cluster, core,
column); cores whose loft fails; slices; regulator slices, 16 for the controller; sequencers; and clusters that trip, with
whether a second time. -/
structure Found where
  fails : List (Nat × Nat × Nat)
  cols : List (Nat × Nat × Nat)
  loft : List (Nat × Nat)
  slices : List (Nat × Nat)
  regs : List (Nat × Nat)
  seqs : List Nat
  trips : List (Nat × Bool)
deriving DecidableEq, Repr

/-- R391, R392: the discrepancies of cluster `c`: units marked that pass, and units that fail and are not marked. -/
def Found.disc (x : Found) (l : List Word) (c : Nat) : Nat × Nat :=
  let bad (p : Nat) : Bool := votedBad (marksCore l c) (fun t p => x.fails.contains (c, t, p)) p || x.loft.contains (c, p)
  let pairs : List (Bool × Bool) :=
    ((List.range 36).map fun p => (marksCore l c p, bad p)) ++
    ((List.range 36).flatMap fun p => (List.range 66).map fun i => (marksCol l c p i, x.cols.contains (c, p, i))) ++
    ((List.range 52).map fun i => (marksSlice l c i, x.slices.contains (c, i))) ++
    ((List.range 16).map fun i => (marksReg l c i, x.regs.contains (c, i))) ++ [(false, x.seqs.contains c)]
  (countB (pairs.map fun y => y.1 && !y.2), countB (pairs.map fun y => !y.1 && y.2))

/-- R390–R393: cluster `c` after its tests; `l` holds the marks of fuses and of the known-bad list. -/
def State.testClu (s : State) (x : Found) (l : List Word) (c : Nat) : State :=
  let marked := marksCore l c
  let fails (t p : Nat) : Bool := x.fails.contains (c, t, p)
  let cols (p : Nat) : List Nat := badCols (marksCol l c p) fun i => x.cols.contains (c, p, i)
  let bad (p : Nat) : Bool := marked p || votedBad marked fails p || x.loft.contains (c, p) || 2 < (cols p).length
  let seqOk := !x.seqs.contains c
  let s := s.mapCores c bad cols seqOk
  let s := s.mapSlices c fun i => marksSlice l c i || x.slices.contains (c, i)
  let s := s.modBoot fun b => { b with badTest := b.badTest ++ ((List.range 36).filter bad).map fun p => (c, p) }
  let s := ((((s.setF (START_TEST_TESTED c) 36).setF (START_TEST_BAD_TEST c) ((List.range 36).filter (votedBad marked fails)).length).setF
    (START_TEST_SUSPECT c) ((List.range 36).filter (suspect marked fails)).length).setF (START_TEST_SEQ_OK c) (bool1 seqOk)).setF
    (START_TEST_RETRIED c) (bool1 (x.trips.any fun t => t.1 = c))
  let s := (s.setF (START_TEST_SLICES_BAD c) ((List.range 52).filter fun i => x.slices.contains (c, i)).length).setF
    (START_TEST_REG_FAILED c) ((List.range 16).filter fun i => x.regs.contains (c, i)).length
  let s := (List.range 16).foldl (fun t i => if marksReg l c i || x.regs.contains (c, i) then t.sliceFail c i false else t) s
  let s := if x.regs.contains (c, 16) then s.sliceFail c 0 true else s
  let s := if x.trips.any (fun t => t.1 = c && t.2) then s.goDark c 0 else s
  if seqOk then s else s.raise clsAlarm 0x060 0xFF 1 c s.bootData

/-- The known-bad list of the image (R388). -/
def knownBad (m : Store Byte) : List Word := (bodies m 1 0x0002).flatMap fun r => r.map (BitVec.ofNat 32)

/-- R392: bad sets, maps and discrepancies. -/
def State.testsEnd (s : State) (x : Found) : State :=
  let known := knownBad s.boot.staged
  let l := s.boot.fuses ++ known
  let d := (List.range 32).map fun c => x.disc l c
  let s := (s.bump BOOT_DISC_FUSE_ONLY ((d.map fun y => y.1).foldl (· + ·) 0)).bump BOOT_DISC_TEST_ONLY ((d.map fun y => y.2).foldl (· + ·) 0)
  let s := s.bump BOOT_DISC_LISTED ((known.filter fun w => fuKind w ≤ 4).eraseDups).length
  let s := s.modBoot fun b => { b with badTest := [], darkMap := [] }
  let s := (List.range 32).foldl (fun t c => t.testClu x l c) s
  (s.modBoot fun b => { b with testFails := [] }).setF BOOT_STAT_STEP 13

/-- START_TESTS_END (R390, R391): what the tests find, as in `Found`. -/
def execStartTestsEnd (fails cols : List (Nat × Nat × Nat)) (loft slices regs : List (Nat × Nat)) (seqs : List Nat)
    (trips : List (Nat × Bool)) (s : State) : Out :=
  .next (if s.f BOOT_STAT_STEP ≠ 9 || s.f KW_STAT_STATE = 2 then s
    else s.testsEnd ⟨fails ++ s.boot.testFails, cols, loft, slices, regs, seqs, trips⟩)

/-- TEST_KERNEL_TIMEOUT (R389): the tester fails a target that has not answered within 10 ms. -/
def execTestKernelTimeout (c : Fin 32) (t p : Fin 36) (s : State) : Out :=
  .next (if s.f BOOT_STAT_STEP ≠ 9 || !(testers p.val).contains t.val then s
    else (s.advanceTo (s.dtime + 10000000 * nsU)).modBoot fun b => { b with testFails := b.testFails ++ [(c.val, t.val, p.val)] })

/-! ### Links and stacks (R394, R438) -/

/-- R437, R438: the lanes in use: all eight, else the first group of four that all pass. -/
def ethWidth (l : List Bool) : Nat :=
  let g (a n : Nat) : Bool := (List.range n).all fun i => l.getD (a + i) false
  if g 0 8 then 2 else if g 0 4 || g 4 4 then 1 else 0

/-- R382, R438: the port follows its lanes, its far end and the boot master. -/
def State.ethUpdate (s : State) : State :=
  let w := if s.f BOOT_STAT_MASTER ≠ 0 || s.on (CDIE_ID_HELD 0) then 0 else ethWidth s.eth.lanes
  ((s.setF ETH_STAT_WIDTH w).setF (CDIE_LINKQ_ETH 0) w).setF ETH_STAT_UP (bool1 (s.eth.trained && w ≠ 0))

/-- R21, R394, R458: Octoon links at the widths found; an unavailable link raises a Note. The links of a held die stay
unavailable. -/
def State.octWidths (s : State) (l : List Nat) : State :=
  (List.range 16).foldl (fun t i =>
    let w := if t.linkOut i then 0 else l.getD i 0 % 4
    let t := (((t.setWidth i w).setF (OCT_LSTAT_UP i) (bool1 (w ≠ 0))).setF (OCT_LSTAT_RETRAIN i) 0).modLink i
      fun _ => { OLink.reset with unavail := w = 0, downAt := t.dtime, sentAt := t.dtime }
    if w = 0 && t.f (OCT_LSTAT_DIR i) ≠ 0 then t.raise clsNote 0x060 0xFF 10 i t.bootData else t) s

/-- R398: in a warm start the Octoon lanes retrain. -/
def State.octRetrain (s : State) : State :=
  (List.range 16).foldl (fun t i =>
    if t.linkOut i then t else (t.setF (OCT_LSTAT_RETRAIN i) 1).modLink i fun _ => OLink.reset) s

/-- R17, R233, R394: the stacks that have trained and are not marked out of service. -/
def State.setStacks (s : State) (l : List Word) (ok : List Nat) : State :=
  (List.range 16).foldl (fun t f =>
    let st (i : Nat) : Nat := bool1 (ok.contains (stackAt f i) && !marksStack l (stackAt f i))
    (t.setF (FIELD_INFO_STACK_A_OK f) (st 0)).setF (FIELD_INFO_STACK_B_OK f) (st 1)) s

/-- R289: the path delays calibrated: of the clusters, then of corner dies 1–3. -/
def State.setPaths (s : State) (d : List Nat) : State :=
  let s := (List.range 32).foldl (fun t c => t.setF (TIME_PATH_D c) (d.getD c 0)) s
  let s := (List.range 3).foldl (fun t p => t.modKeep (p + 1) fun x => { x with path := d.getD (32 + p) 0 % 65536 }) s
  s.modTim fun x => { x with stale := [] }

/-! ### Serving-ready (R396–R400) -/

/-- The stacks in service. -/
def State.stacksUp (s : State) : Nat := ((List.range 24).filter fun st => s.stackOk st).length

/-- R397: the first count of MINRES that falls short: KIND, UNIT and the count found. -/
def State.shortfall (s : State) (m : Store Byte) : Option (Nat × Nat × Nat) :=
  match bodies m 1 0x0003 with
  | [] => none
  | r :: _ =>
    let w (i : Nat) : Nat := r.getD i 0
    let present (c : Nat) : Nat := s.f (CLU_INFO_CORES_PRESENT c)
    let clu := (List.range 32).find? fun c => s.partOf c ≠ 0xFF && present c < nbits (w (2 + c / 4)) (8 * (c % 4)) 8
    let links (k : Nat) : Nat := ((List.range 16).filter fun l => k ≤ s.f (OCT_LSTAT_WIDTH l)).length
    let dev : List (Nat × Nat) :=
      [(((List.range 32).map present).foldl (· + ·) 0, nbits (w 0) 0 11), (s.stacksUp, nbits (w 0) 16 5),
       (((List.range 4).filter fun p => !s.on (CDIE_ID_HELD p)).length, nbits (w 0) 21 3), (128 - s.f BARN_STAT_CH_OUT, nbits (w 1) 0 8),
       (links 3, nbits (w 1) 8 5), (links 2, nbits (w 1) 13 5), (links 1, nbits (w 1) 18 5)]
    match clu with
    | some c => some (1, c, present c)
    | none => (dev.zipIdx.find? fun x => x.1.1 < x.1.2).map fun x => (11, x.2, x.1.1)

/-- R397: the module enters keep-warm. -/
def State.shortStart (s : State) (x : Nat × Nat × Nat) : State :=
  ((s.setF BOOT_STAT_FAIL 2).raise clsAlarm 0x060 0xFF x.1 x.2.1 (2 + 16 * s.f BOOT_STAT_STEP + 65536 * x.2.2)).startFail 2 5

/-- R372, R375: a cluster stays parked through a resumption. -/
def State.parked (s : State) (c : Nat) : Bool := (s.clu c).capParked || (s.clu c).heatParked

/-- The clusters come up on their PLLs at 800 MHz, under the cuts in force, those that are dark or parked apart (R341, R361,
R375). -/
def State.clustersUp (s : State) : State :=
  s.stook.foldl (fun t c =>
    let t := (t.showCeil c).showIssue c
    if t.on (REG_STAT_DARK c) then t
    else if t.parked c then t.enterOff c (if (t.clu c).heatParked then 1 else 2)
    else
      let t := ((((t.setF (PST_STAT_STATE c) 0).setF (PST_STAT_CAUSE c) 0).setF (CLK_STAT_SRC c) 0).setF (CLK_STAT_LOCK c) 1).setF (CLK_STAT_F_MHZ c) 800
      let t := (t.setVt c (t.vtOf c 800)).loadCopy c
      (if t.on PWR_ALERT_ASSERTED then t.cluAlert c else t).touch c) s

/-- R361, R396 step 17, R398 step 8, R406, R421: sequencers start, clusters of no partition go to Off, and READY is set. -/
def State.serve (s : State) (warm : Bool) : State :=
  let s := s.heldParts.foldl (fun t p => t.firstStart p) s
  let s := s.stook.foldl (fun t c =>
    if t.on (REG_STAT_DARK c) || t.parked c then t else if t.partOf c = 0xFF then t.enterOff c 0 else t.startSeq c) s
  let ms := (s.dtime - s.boot.powerAt) / (1000000 * nsU)
  let s := (((s.setF BOOT_STAT_STEP 0).setF BOOT_STAT_READY 1).setF BOOT_STAT_WARM (bool1 warm)).setF BOOT_TIME_LAST_MS (min ms 65535)
  let s := (s.setF KW_STAT_STATE 0).setF BOOT_STAT_FAIL 0
  let s := s.setVpm fun v => { v with govOff := false, devAbort := false, stackRefresh := false }
  s.modBoot fun b => { b with readyOnce := true, manDone := false, staged := [] }

/-- A channel found, as `ChanFound`, from a list of its seven numbers. -/
def chanOf (l : List Nat) : ChanFound :=
  (l.getD 0 0, l.getD 1 0, l.getD 2 0, l.getD 3 0, l.getD 4 0, l.getD 5 0, l.getD 6 0)

/-- R396 steps 10–17 of a cold start; `clean`: the staged image still reads without an uncorrectable error at step 16
(R401). -/
def State.coldEnd (s : State) (up oct : List Nat) (eth : List Bool) (chans : List ChanFound) (paths : List Nat) (clean : Bool) :
    State :=
  let m := s.boot.staged
  let s := s.setStacks (s.boot.fuses ++ knownBad m) up
  let s := { s with eth := { s.eth with lanes := eth } }.ethUpdate.octWidths oct
  let out := (bodies m 1 0x0004).getD 0 []
  let s := s.barnMount (chans.map fun x =>
    if s.on (CDIE_ID_HELD (x.1 % 128 / 32)) then (x.1, 1, x.2.2)
    else if nbits (out.getD (1 + x.1 % 128 / 32) 0) (x.1 % 32) 1 = 1 then (x.1, 5, x.2.2) else x)
  let s := ((s.copyImage m).setPaths paths).clustersUp.applyPlan m true
  let s := (s.modBoot fun b => { b with maps14 := true }).setF BOOT_STAT_STEP 15
  match s.shortfall m with
  | some x => s.shortStart x
  | none =>
    if !clean then
      ((((s.setF BOOT_STAT_STEP 16).showImage m (verify m s.boot false true)).modBoot fun b => { b with inForce := false }).bootAlarm
        1).startFail 1 4
    else (((s.loadPrograms m).setF MAN_STAT_POSTED 0).setF MAN_STAT_MISSING 0).setF MAN_STAT_MISMATCH 0 |>.serve false

/-- R400: the warm start falls back to a cold start from step 4; HBM contents are not guaranteed (log entry 45). -/
def State.fallBack (s : State) : State :=
  let s := (((s.setF BOOT_STAT_FALLBACK 1).setF BOOT_STAT_WARM 0).setF KW_STAT_STATE 0).raise clsAlarm 0x060 0xFF 11 0 s.bootData
  { (s.setF BOOT_STAT_STEP 4) with
    mem := [], poison := [], boot := { s.boot with maps14 := false, streamed := false, inForce := false } }

/-- R341, R398: clusters that went dark in the start before this one have the cores of their maps again. -/
def State.undark (s : State) : State :=
  let t := s.boot.darkMap.foldl (fun t (e : Nat × Nat) =>
    let c := e.1 / 32
    let t := (((t.setF (CORE_MAP_PCORE e.1) (e.2 - 1)).setF (CORE_MAP_RX e.1) (routerX c ((e.2 - 1) / 9))).setF (CORE_MAP_RY e.1)
      (routerY c ((e.2 - 1) / 9))).setF (CORE_MAP_ABSENT e.1) 0
    (t.arrayCols e.1 (36 * c + (e.2 - 1))).setF (CLU_INFO_CORES_PRESENT c) (t.f (CLU_INFO_CORES_PRESENT c) + 1)) s
  t.modBoot fun b => { b with darkMap := [] }

/-- R398: a warm start, with the stacks that come back, whether every wire can be repaired, and regulator slices that fail. -/
def State.warmEnd (s : State) (up : List Nat) (paths : List Nat) (meshOk : Bool) (regs : List (Nat × Nat)) : State :=
  let m := s.hbmImage
  let lost := (List.range 24).any fun st => s.stackOk st && !up.contains st
  if !s.on BOOT_IMGH_VALID || lost || !meshOk || digest16 (imgBytes m 0 s.boot.imgLen) ≠ s.boot.digest then s.fallBack
  else
    let s := ((s.stacksSr false).setF BARN_STAT_IDLE 0).setF BOOT_STAT_STEP 6
    let l := s.boot.fuses ++ knownBad m
    let marked := (List.range 32).flatMap fun c => ((List.range 16).filter fun i => marksReg l c i).map fun i => (c, i)
    let s := (marked ++ regs).foldl (fun t x => t.sliceFail (x.1 % 32) x.2 (x.2 = 16)) s.undark
    let s := (((s.usePack m).setPaths paths).octRetrain.clustersUp.csrSets m fun o => !lateOff o && !keptBlock o).applyPlan m true
    match s.shortfall m with
    | some x => s.shortStart x
    | none => (s.loadPrograms m).serve true

/-- SERVING_READY (R396, R398): a cold start's steps 10–17 after its tests, or a warm start. The findings: stacks trained,
width codes of the Octoon links (R403), Ethernet lanes that pass, NAND channels at the mount, path delays, and for a warm
start whether every wire can be repaired and which regulator slices fail, for a cold one whether the staged image still reads
without an uncorrectable error. -/
def execServingReady (up : List (Fin 24)) (oct : List Nat) (eth : List Bool) (chans : List (List Nat))
    (paths : List Nat) (ok : Bool × Bool) (regs : List (Nat × Nat)) (s : State) : Out :=
  .next (if s.f KW_STAT_STATE = 3 && s.on BOOT_STAT_WARM then s.warmEnd (up.map fun x => x.val) paths ok.1 regs
    else if s.f BOOT_STAT_STEP = 13 && s.f KW_STAT_STATE ≠ 2 then s.coldEnd (up.map fun x => x.val) oct eth (chans.map chanOf) paths ok.2
    else s)

/-- KEEPWARM_AUTO_RESUME (R368): PWR_WARN# has been high for HOLDOFF_MS with AUTO set and no undervoltage. -/
def execKeepwarmAutoResume (s : State) : Out :=
  .next (if s.f KW_STAT_STATE = 2 && s.on KW_CTL_AUTO && !s.vpm.warnLow && s.on MOD_PINS_PWRWARN && !s.vpm.uv then
      (s.advanceTo (s.vpm.warnHighAt + s.f KW_CTL_HOLDOFF_MS * 1000000 * nsU)).resume
    else s)

/-! ### Manifest (R513) -/

/-- R513: an entry against the catalogue: MISSING, MISMATCH, or its words to post. -/
def State.manEntry (s : State) (e : List Word) : State × List (List Word) :=
  let w (i : Nat) : Word := e.getD i 0
  match s.barn.bales.find? fun b => b.id = (w 0).toNat with
  | none => ((s.bump MAN_STAT_MISSING 1).raise clsWarning 0x005 0xFF 8 0 (w 0).toNat, [])
  | some b =>
    if b.size = (w 1).toNat ∧ b.owner = wbits (w 2) 8 8 ∧ b.digest = e.drop 8 ∧ b.state = 1 then
      (s, if wbits (w 2) 0 1 = 1 then [e] else [])
    else ((s.bump MAN_STAT_MISMATCH 1).raise clsWarning 0x005 0xFF 8 0 (w 0).toNat, [])

/-- MANIFEST_CHECK (R513): once READY is set and the barn is mounted. -/
def execManifestCheck (s : State) : Out :=
  .next (if !s.on BOOT_STAT_READY || s.f BARN_STAT_STATE ≠ 2 || s.boot.manDone then s
    else
      let s := s.modBoot fun b => { b with manDone := true }
      let r := s.boot.manifest.foldl (fun (a : State × List (List Word)) e =>
        let x := a.1.manEntry e
        (x.1, a.2 ++ x.2)) (s, [])
      r.1.autopost (r.1.barn.autoload ++ r.2))

end Sys2Proof.Machine
end

