-- ==== Sys2Proof/Machine/Ether.lean ====
section
/-!
DEFINITION. The Ethernet port (R437–R441, R520), request and egress rings (R442–R444), RoCEv2 (R445–R448) and the I3C port
(R534, R535).
-/

namespace Sys2Proof.Machine

def State.modEth (s : State) (g : Eth → Eth) : State := { s with eth := g s.eth }

/-! ### The port -/

/-- R439: untagged frames are accepted only when the link plan names no VID; a tagged one must carry the VID it names. -/
def State.tagOk (s : State) (vid : Option Nat) : Bool :=
  match vid with
  | none => !s.eth.tagged
  | some v => !s.eth.tagged || v = s.eth.vid

/-- R440: a UDP destination port that has a handler. -/
def State.portTaken (s : State) (v6 : Bool) (p : Nat) : Bool :=
  ((p = 319 || p = 320) && s.f PTP_CFG_TRANSPORT = (if v6 then 1 else 0)) || p = 4791 || p = s.f CADDY_STAT_PORT
    || s.eth.bindings.any fun b => b.port = p

/-- R440: the answer to an echo, up to 100 in a second. -/
def State.echo (s : State) : State :=
  let l := s.eth.echoes.filter fun t => s.dtime < t + secU
  if 100 ≤ l.length then s.modEth fun e => { e with echoes := l }
  else (s.modEth fun e => { e with echoes := l ++ [s.dtime] }).emit txCaddy [ 12]

/-- R448: a queue pair that takes requests. -/
def State.qpOk (s : State) (q : Nat) : Bool := s.on ETH_STAT_UP && s.f KW_STAT_STATE = 0 && s.eth.qps.any fun x => x.qpn = q && !x.err

/-- R439: the pause a frame asks for: `q` quanta of 512 bit times at the rate of the lanes in use. -/
def State.pauseU (s : State) (q : Nat) : Nat := q * 512 * nsU / (if s.f ETH_STAT_WIDTH = 2 then 1600 else 800)

/-- ETH_FRAME_RECEIVE (R439, R440, R445): a frame of `len` bytes with its tag, if any: kind 0 ARP, 1 neighbour discovery, 2 an echo, 3
UDP over IPv4, 4 UDP over IPv6, 5 PTP in IEEE 802.3, 6 a RoCEv2 SEND, atomic or operation with immediate data to queue pair `dport.2`,
7 a pause of priority `dport.1` for `dport.2` quanta. `drop`: a fragment, an option or an extension header. A datagram for a
handler is the handler's own row. -/
def execEthFrameReceive (len : Nat) (vid : Option Nat) (kind : Fin 8) (dport : Nat × Nat) (drop : Bool) (s : State) : Out :=
  .next (if !s.on ETH_STAT_UP || len < 64 || 9600 < len || (kind.val ≠ 7 && !s.tagOk vid) then s
    else match kind.val with
      | 7 => if dport.1 = s.eth.prio then s.modEth fun e => { e with pauseEnd := s.dtime + s.pauseU dport.2 } else s
      | k =>
        if drop then s.bump ETH_DROP_NOPORT 1
        else match k with
          | 0 => s.emit txCaddy [ 10]
          | 1 => s.emit txCaddy [ 11]
          | 2 => s.echo
          | 3 => if s.portTaken false dport.1 then s else s.bump ETH_DROP_NOPORT 1
          | 4 => if s.portTaken true dport.1 then s else s.bump ETH_DROP_NOPORT 1
          | 6 => if s.qpOk dport.2 then s.emit txRoce [ 41, dport.2] else s
          | _ => s)

/-- ETH_TRAINING_COMPLETE (R438): the far end has trained, or has stopped, with the lanes that pass. -/
def execEthTrainingComplete (lanes : List Bool) (up : Bool) (s : State) : Out :=
  .next (s.modEth fun e => { e with lanes := lanes, trained := up }).ethUpdate

/-- R520: the interfaces tried before an image, as R509 numbers them: KR8, CR8, 1.6TAUI-8, then the 4-lane forms. -/
def nextIface (i : Nat) : Nat := match i with | 2 => 1 | 1 => 0 | 0 => 5 | 5 => 4 | 4 => 3 | _ => 2

/-- ETH_INTERFACE_TRY_TIMEOUT (R520): a form tried for 1 s has not linked. -/
def execEthInterfaceTryTimeout (s : State) : Out :=
  .next (if s.boot.inForce || s.on ETH_STAT_UP then s
    else (s.advanceTo (s.dtime + secU)).modEth fun e => { e with iface := nextIface e.iface })

/-! ### Rings (R442–R444) -/

/-- R442: the first 32 bytes of a slot. -/
def slotHead (len : Nat) (v6 : Bool) (t sport dport : Nat) (src : List Word) : List Word :=
  [ BitVec.ofNat 32 (len + (if v6 then 65536 else 0)), BitVec.ofNat 32 t, BitVec.ofNat 32 (t / 2 ^ 32),
    BitVec.ofNat 32 (sport % 65536 + 65536 * (dport % 65536)), src.getD 0 0] ++
    (if v6 then [ src.getD 1 0, src.getD 2 0, src.getD 3 0] else [ 0, 0, 0])

/-- R442, R443: a datagram for binding `i`, written into its ring, with one MAIL word to the root. -/
def State.request (s : State) (i : Nat) (v6 : Bool) (sport : Nat) (src : List Word) (d : List Byte) : State :=
  match s.eth.bindings[i]? with
  | none => s
  | some b =>
    let c := b.clu
    let p := s.partOf c
    let n := 2 ^ b.log2n
    let h := s.f (RX_IDX_HEAD c)
    if !s.on ETH_STAT_UP then s
    else if s.aborting c || (s.part p).resetting || 2 ^ b.log2s < d.length + 32 || (h + 1) % n = s.f (RX_IDX_TAIL c) % n then
      s.bump ETH_DROP_RXFULL 1
    else
      let w := (slotHead d.length v6 s.now sport b.port src).flatMap fun x => leBytes 4 x.toNat
      let a := b.base + h % n * 2 ^ b.log2s
      let s := if s.devStatus a (32 + d.length) = .ok then (s.storeDev a (w ++ d)).1 else s
      let s := s.setF (RX_IDX_HEAD c) ((h + 1) % n)
      s.injectAt (cornerPlace 0 (0, 0)) (.inbox p c (BitVec.ofNat 32 (2 ^ 31 + h % n + 65536 * i)) 0x3FE)

/-- REQUEST_DATAGRAM (R442): for binding `b`, from `sport` of `src`, with its payload. -/
def execRequestDatagram (b : Fin 32) (v6 : Bool) (sport : Nat) (src : List Word) (d : List Byte) (s : State) : Out :=
  .next (s.request b.val v6 sport src d)

/-- EGRESS_FRAME_SENT (R441, R444): the slot at DONE leaves after what goes before it, or is skipped where its LEN is above 9,000. -/
def execEgressFrameSent (c : Fin 32) (s : State) : Out :=
  .next (match s.eth.egress.find? fun r => r.clu = c.val with
    | none => s
    | some r =>
      let n := 2 ^ r.log2n
      let i := s.f (TX_IDX_DONE c.val)
      if !s.on ETH_STAT_UP || i % n = (s.clu c.val).txReady % n then s
      else
        let a := r.base + i % n * 2 ^ r.log2s
        let len := (s.rd32 a).toNat % 65536
        let s := if 9000 < len then s.bump ETH_DROP_NOPORT 1
          else (s.sendBefore (s.eth.txq.length + 1)).modEth fun e => { e with
            turn := true, sent := e.sent ++ [ [ 30, c.val] ++ (s.rdN a (32 + len)).map BitVec.toNat] }
        s.setF (TX_IDX_DONE c.val) ((i + 1) % n))

/-! ### RoCEv2 (R445–R448) -/

/-- R446: the run lies in one region with the right needed. -/
def State.regionOk (s : State) (key addr len : Nat) (wr : Bool) : Bool :=
  s.eth.mrs.any fun r => r.key = key && (if wr then r.wr else r.rd) && r.base ≤ addr && addr + len ≤ r.base + r.len

/-- R445: an ECN-marked request is answered with a CNP. -/
def State.cnp (s : State) (q : Nat) (ecn : Bool) : State := if ecn then s.emit txRoce [ 44, q] else s

/-- R260, R446: a unit of the device cannot reach the run, or it crosses a word with an uncorrectable error that the access meets
(log entry 82). -/
def State.rdmaFails (s : State) (addr len : Nat) (bad : Bool) : Bool := s.devStatus (devAddr 0 addr) len ≠ .ok || bad

/-- RDMA_WRITE (R446, R447): written and then acknowledged (40), or refused with a remote-access NAK (41), or answered with an error
of the memory (43). -/
def execRdmaWrite (q : Nat × Bool) (key addr : Nat) (d : List Byte) (s : State) : Out :=
  .next (if !s.on ETH_STAT_UP then s.hostAbsent
    else if !s.qpOk q.1 then s
    else
      let s := s.cnp q.1 q.2
      if !s.regionOk key addr d.length true then s.emit txRoce [ 41, q.1]
      else if s.rdmaFails addr d.length false then s.emit txRoce [ 43, q.1]
      else
        let r := s.storeDev (devAddr 0 addr) d
        r.1.emit txRoce [ if r.2.1.isEmpty then 40 else 43, q.1])

/-- R445: responses to reads of a queue pair that have not left. -/
def Eth.openReads (e : Eth) (q : Nat) : Nat := e.txq.countP fun x => x.2.take 2 = [ 42, q]

/-- RDMA_READ (R445, R446): 16 may be outstanding on a queue pair; a further one is refused (log entry 82). -/
def execRdmaRead (q : Nat × Bool) (key addr len : Nat) (s : State) : Out :=
  .next (if !s.on ETH_STAT_UP then s.hostAbsent
    else if !s.qpOk q.1 then s
    else
      let s := s.cnp q.1 q.2
      if !s.regionOk key addr len false || 16 ≤ s.eth.openReads q.1 then s.emit txRoce [ 41, q.1]
      else
        let r := s.readDev (devAddr 0 addr) len
        if s.rdmaFails addr len r.2.1 then r.2.2.emit txRoce [ 43, q.1]
        else r.2.2.emit txRoce ([ 42, q.1] ++ r.1.map BitVec.toNat))

/-- Line rate, in the units of `QPair.rate`. -/
def lineRate : Nat := 65536

/-- CNP_RECEIVE (R445): the read-response rate halves. -/
def execCnpReceive (q : Nat) (s : State) : Out :=
  .next (s.modEth fun e => { e with qps := e.qps.map fun x => if x.qpn = q then { x with rate := x.rate / 2 } else x })

/-- CNP_RECOVERY (R445): every 55 µs, by 1/16 of line rate. -/
def execCnpRecovery (q : Nat) (s : State) : Out :=
  .next (s.modEth fun e => { e with qps := e.qps.map fun x =>
    if x.qpn = q then { x with rate := min lineRate (x.rate + lineRate / 16) } else x })

/-! ### I3C (R534, R535) -/

/-- A register's word as a read shows it, which clears nothing. -/
def State.peek (s : State) (off : Nat) : Word :=
  BitVec.ofNat 32 ((fieldsAt off).foldl (fun a d => a + s.view off d * 2 ^ d.lo) 0)

/-- R535: the word of the status block at offset `o`. -/
def State.i3cWord (s : State) (o : Nat) : Word :=
  match o with
  | 0x00 => s.peek 0x400 | 0x04 => s.peek 0x3C000124 | 0x08 => s.peek 0x3C000000 | 0x0C => s.peek 0x3C00000C
  | 0x10 => s.peek 0x500 | 0x14 => s.peek 0x308 | 0x18 => s.peek 0x40 | 0x1C => s.peek 0x44
  | 0x20 => s.peek 0x600 | 0x24 => s.peek 0x650 | 0x28 => s.peek 0x3C000118 | 0x2C => s.peek 0x700
  | o => if 0x40 ≤ o ∧ o < 0x60 then s.peek (0x680 + (o - 0x40))
    else if 0x60 ≤ o ∧ o < 0x80 then s.boot.lastAlarm.getD ((o - 0x60) / 4) 0 else 0

/-- R535: a byte of the status block. -/
def State.i3cByte (s : State) (o : Nat) : Byte := BitVec.ofNat 8 (wbits (s.i3cWord (o % 256 / 4 * 4)) (8 * (o % 4)) 8)

/-- R534: the port is not served in Off. -/
def State.i3cServed (s : State) : Bool := s.vpm.good

/-- I3C_READ (R534): `n` bytes from `off` on, which wraps at 256. -/
def execI3cRead (off : BitVec 8) (n : Nat) (s : State) : Out :=
  .next (if s.i3cServed then s.modBoot fun b => { b with
      i3cData := (List.range n).map fun i => s.i3cByte (off.toNat + i), i3cOff := (off.toNat + n) % 256 }
    else s)

/-- I3C_DYNAMIC_ADDRESS (R534). -/
def execI3cDynamicAddress (da : BitVec 7) (s : State) : Out :=
  .next (if s.i3cServed then s.setF MOD_PINS_I3C_DA da.toNat else s)

/-- R535: a command byte is accepted. -/
def State.i3cCmd (s : State) : Bool := s.i3cServed && s.on I3C_CFG_CMD

/-- I3C_ENTER (R535): as a write of `KW_CTL.ENTER`. -/
def execI3cEnter (s : State) : Out := .next (if s.i3cCmd then s.kwEnter 2 else s)
/-- I3C_RESUME (R535): as a write of `KW_CTL.RESUME`. -/
def execI3cResume (s : State) : Out := .next (if s.i3cCmd then s.resume else s)
/-- I3C_ALARM_CLEAR (R535): as a write of 1 to `EV_ALARM.PENDING`. -/
def execI3cAlarmClear (s : State) : Out := .next (if s.i3cCmd then s.csrWrite 0x500 1 else s)

end Sys2Proof.Machine
end

