-- ==== Sys2Proof/Machine/Caddy.lean ====
section
/-!
DEFINITION. Caddy (R450–R456): sessions, the operations of a CMD, writing and streaming images (R518, R519), glean packs
(R414) and quotes (R521, R522). Whether a CMD's tag matches (R452) is an operand.
-/

namespace Sys2Proof.Machine

/-! ### Sessions (R451–R453) -/

/-- A number the device chooses, unlike those in use and not 0 (log entry 3). -/
def freshId (start : Nat) (used : List Nat) : Nat :=
  (((List.range (used.length + 2)).map fun i => (start + i) % 2 ^ 32).find? fun x => x ≠ 0 && !used.contains x).getD 1

def State.modSession (s : State) (id : Nat) (g : Session → Session) : State :=
  s.modEth fun e => { e with sessions := e.sessions.map fun x => if x.id = id then g x else x }
/-- `CADDY_STAT.SESSIONS` counts the open sessions. -/
def State.countSessions (s : State) : State := s.setF CADDY_STAT_SESSIONS s.eth.sessions.length

/-- R518: the open transfer closes; the flash keeps what has been written. -/
def State.xferClose (s : State) : State := (s.setF IMG_XFER_STATE 0).setF IMG_XFER_KIB 0

/-- R453, R523: a session closes, and the transfer it holds open is abandoned. -/
def State.closeSession (s : State) (id : Nat) : State :=
  let s := if s.f IMG_XFER_STATE ≠ 0 && s.eth.xferBy = id then s.xferClose else s
  (s.modEth fun e => { e with sessions := e.sessions.filter fun x => x.id ≠ id }).countSessions

/-! ### The identity key (R520–R522) -/

/-- R505: a signature slot: a length from 1 to 1,462, the signature, zeros up to 1,536 bytes (log entry 83). -/
def sigSlot (d : List Byte) : List Byte := (leBytes 2 d.length ++ d ++ List.replicate 1536 0).take 1536

/-- R521, R522: the identity key's signature over a message, in its slot. -/
def State.identitySign (s : State) (msg : List Byte) : List Byte :=
  let k := identityBytes s.boot.seed
  sigSlot ((List.range (1 + Config.falconSigLen k msg % 1462)).map (Config.falconSig k msg))

/-! ### OPEN (R451, R452, R522) -/

/-- What an OPEN holds: owner public key, host nonce, encapsulation key, the bytes its signature covers, the signature. -/
structure OpenMsg where
  key : List Byte
  nonce : List Byte
  ek : List Byte
  signed : List Byte
  sig : List Byte
deriving DecidableEq, Repr

/-- R450: datagram `i` of an OPEN of `n` segments keeps the header's table. -/
def openSegOk (n : Nat) (x : List Byte × Nat) : Bool :=
  let w (i : Nat) : Nat := leVal ((x.1.drop (4 * i)).take 4)
  32 ≤ x.1.length && w 0 = 1 + 256 * 1 + 65536 * x.2 + 2 ^ 24 * n && w 1 = 0 && w 4 = x.1.length - 32 && w 4 ≤ 1400 && w 5 = 0 && w 6 = 0
    && w 7 = 0

/-- R451: where the signature begins in the payload of an OPEN. -/
def openSigAt : Nat := 1793 + 32 + 1568

/-- R450, R451: the bytes before the payload's byte `m`, each header with SEG = 0. -/
def openSigned : List (List Byte) → Nat → List Byte
  | [], _ => []
  | d :: r, m => d.take 2 ++ [ 0] ++ (d.drop 3).take 29 ++ (d.drop 32).take m ++ (if d.length - 32 ≤ m then openSigned r (m - (d.length - 32)) else [])

/-- R450, R451: the message of its datagrams; none where one of them breaks R450, or its payload the lengths of R451. -/
def openOf (segs : List (List Byte)) : Option OpenMsg :=
  let n := segs.length
  let p := segs.flatMap (List.drop 32)
  if 1 ≤ n && n ≤ 16 && segs.zipIdx.all (openSegOk n) && openSigAt < p.length && p.length ≤ openSigAt + 1462 then
    some ⟨p.take 1793, (p.drop 1793).take 32, (p.drop 1825).take 1568, openSigned segs openSigAt, p.drop openSigAt⟩
  else none

/-- R451: the OPEN is accepted. -/
def State.openOk (s : State) (m : OpenMsg) : Bool :=
  (match slotInForce s.boot.owners with | some x => x.2.digest = digest8 m.key | none => false)
    && Config.falconOk m.key m.signed m.sig && s.eth.sessions.length < 8

/-- R452: the 64 key bytes of session `id`, from the shared secret, the two nonces and the session's number. -/
def sessionKeys (m : OpenMsg) (n : Nat) (nonce : List Byte) (id : Nat) : List Byte :=
  (List.range 16).flatMap fun i =>
    leBytes 4 (Config.shake256 ((List.range 32).map (Config.kemSecret m.ek n) ++ m.nonce ++ nonce ++ leBytes 4 id) i).toNat

/-- R451, R522: the payload of OPEN_OK: SESSION, the device nonce, the ciphertext, and the identity key's signature over every byte
before it in the message, each header with SEG = 0 (log entry 83). -/
def State.openOkBytes (s : State) (m : OpenMsg) (n id : Nat) (nonce : List Byte) : List Byte :=
  let d := leBytes 4 id ++ nonce ++ (List.range 1568).map (Config.kemCipher m.ek n)
  d ++ s.identitySign (caddySigned 2 id 0 (d ++ List.replicate 1536 0) d.length)

/-- R451: a session opens, with fresh randomness `n`. -/
def State.openSession (s : State) (m : OpenMsg) (n : Nat) : State :=
  let id := freshId (Config.freeNat n) (s.eth.sessions.map fun x => x.id)
  let nonce := (List.range 32).map (Config.freeByte n)
  let s := (s.modEth fun e => { e with sessions := e.sessions ++ [⟨id, 0, [], s.dtime, 0, false, 0, sessionKeys m n nonce id⟩] }).countSessions
  s.caddySend id 2 (s.openOkBytes m n id nonce)

/-- R451: a refused OPEN is counted, raises a Warning and receives REFUSE with a status, STATE where 8 sessions are open and else
RANGE (log entry 83). -/
def State.openRefused (s : State) : State :=
  let st := if 8 ≤ s.eth.sessions.length then Status.state else .range
  ((s.bump CADDY_STAT_BADOPEN 1).raise clsWarning 0x005 0xFF 11 0 s.eth.sessions.length).emit txCaddy
    (8 :: (caddyHead 8 0 1 0 0 1 ++ leBytes 1 st.code).map BitVec.toNat)

/-- CADDY_OPEN (R451): the datagrams of an OPEN. One whose header breaks R450 is discarded in silence; at most 4 OPENs in a second
are processed. -/
def execCaddyOpen (first : List Byte) (rest : List (List Byte)) (s : State) : Out :=
  .next (if !s.on ETH_STAT_UP then s.hostAbsent
    else
      let l := s.eth.opens.filter fun t => s.dtime < t + secU
      match openOf (first :: rest) with
      | none => s
      | some m =>
        if 4 ≤ l.length then s
        else
          let s := s.modEth fun e => { e with opens := l ++ [s.dtime] }
          if s.openOk m then (let q := s.takeFree
            q.2.openSession m q.1) else s.openRefused)

/-- CADDY_CLOSE (R453). -/
def execCaddyClose (id : Nat) (ok : Bool) (s : State) : Out :=
  .next (if !s.on ETH_STAT_UP then s.hostAbsent
    else if (s.session id).isNone then s
    else if ok then s.closeSession id else s.bump CADDY_STAT_BADTAG 1)

/-- CADDY_SESSION_TIMEOUT (R453): no valid CMD for 300 s. -/
def execCaddySessionTimeout (id : Nat) (s : State) : Out :=
  .next (match s.session id with
    | none => s
    | some x => (s.advanceTo (x.heardAt + 300 * secU)).closeSession id)

/-- What an operation answers: its status, its result, and the state after it. -/
abbrev OpRes := Status × List Nat × State

/-- The RSP to session `id` (R453, R454): its status and result as 32-bit words (log entry 83). -/
def State.sendRsp (s : State) (id : Nat) (rsp : List Nat) : State := s.caddySend id 4 (numBytes rsp)

/-- R455: in keep-warm after a failed verification only CSR_READ, IMAGE and QUOTE are executed. -/
def State.opAllowed (s : State) (op : Nat) : Bool :=
  !(s.f KW_STAT_STATE = 2 && s.f BOOT_STAT_FAIL = 1) || op = 0x01 || op = 0x0B || op = 0x0C

/-- R452, R453: a CMD of number `seq` in session `id`: executed once, in order of SEQ; a repeat receives the cached RSP. -/
def State.cmd (s : State) (id seq : Nat) (ok : Bool) (op : Nat) (run : State → OpRes) : State :=
  match s.session id with
  | none => if s.on ETH_STAT_UP then s else s.hostAbsent
  | some x =>
    if !s.on ETH_STAT_UP then s.hostAbsent
    else if !ok then s.bump CADDY_STAT_BADTAG 1
    else if seq < x.seq ∨ seq = 0 then s
    else
      let s := s.modSession id fun y => { y with heardAt := s.dtime }
      if seq = x.seq then s.sendRsp id x.rsp
      else
        let r := if s.opAllowed op then run s else (.state, [], s)
        let rsp := r.1.code :: r.2.1
        (r.2.2.modSession id fun y => { y with seq := seq, rsp := rsp }).sendRsp id rsp

/-! ### Operations (R454) -/

/-- R31: a CSR offset that an access may name. -/
def csrOk (o : Nat) : Bool := o % 4 = 0 && csrInBlock o

/-- CSR_READ: the values read, up to an offset whose access does not complete with OK; a sequencer's SIMEM and SDMEM are
read here as well (R306). DEDUCED (log entry 24): that status ends the list. -/
def State.readAll (s : State) : List Nat → OpRes
  | [] => (.ok, [], s)
  | o :: r =>
    if csrOk o then
      let a := clsBase 0xF + o
      let s := s.wakeAccess a
      let st := s.devStatus a 4
      if st ≠ .ok then (st, [], s)
      else
        let x := s.devGet a 4
        if x.2.1 then (.ecc, [], x.2.2)
        else
          let y := x.2.2.readAll r
          (y.1, leVal x.1 :: y.2.1, y.2.2)
    else (.range, [], s)

def State.opRead (s : State) (offs : List Nat) : OpRes := if 256 < offs.length then (.range, [], s) else s.readAll offs

/-- One write of CSR_WRITE: SIMEM and SDMEM through the device port (R152, R306), a register as R12 says. -/
def State.writeOne (s : State) (o : Nat) (w : Word) : Status × State :=
  let a := clsBase 0xF + o
  match target a with
  | .csr _ =>
    let st := s.devStatus a 4
    if st ≠ .ok then (st, s) else (.ok, s.hostWrite false o w)
  | _ =>
    let s := s.wakeAccess a
    let st := s.devStatus a 4
    if st ≠ .ok then (st, s)
    else
      let x := s.devPut .none a (leBytes 4 w.toNat)
      (if x.2.1.isEmpty then .ok else .ecc, x.1)

/-- CSR_WRITE: pairs in order, up to one that does not complete with OK; with how many were applied. -/
def State.writeAll (s : State) (n : Nat) : List (Nat × Word) → OpRes
  | [] => (.ok, [n], s)
  | (o, w) :: r =>
    if csrOk o then
      let x := s.writeOne o w
      if x.1 ≠ .ok then (x.1, [n], x.2) else x.2.writeAll (n + 1) r
    else (.range, [n], s)

def State.opWrite (s : State) (l : List (Nat × Word)) : OpRes := if 128 < l.length then (.range, [ 0], s) else s.writeAll 0 l

/-- ABORT (R423, R425). -/
def State.opAbort (s : State) (p : Nat) : OpRes :=
  if p = 0xFF then (.ok, [], s.deviceAbort)
  else if p < 32 ∧ (s.part p).held then (.ok, [], s.abort p) else (.range, [], s)

/-- KEEPWARM (R365, R368); a resume refused completes with STATE. -/
def State.opKeepwarm (s : State) (enter : Bool) : OpRes :=
  if enter then (.ok, [], s.kwEnter 1)
  else (if s.vpm.warnLow || !s.on MOD_PINS_PWRWARN then .state else .ok, [], s.resume)

/-- PLIMIT (R3). -/
def State.opPlimit (s : State) (w : Nat) : OpRes := (.ok, [], s.plimit w)

/-- SUBSCRIBE (R456). -/
def State.opSubscribe (s : State) (id cls : Nat) (tel : Bool) : OpRes :=
  if 4 < cls then (.range, [], s) else (.ok, [], s.modSession id fun x => { x with cls := cls, tel := tel })

/-- TIMEOFDAY (R295). -/
def State.opTimeofday (s : State) (sec ns : Nat) : OpRes :=
  if 1000000000 ≤ ns ∨ 2 ^ 48 ≤ sec then (.range, [], s) else (.ok, [], s.modTim fun x => { x with todNext := some (sec, ns) })

/-- R445: a path MTU. -/
def mtuOk (m : Nat) : Bool := m = 1024 || m = 2048 || m = 4096

/-- QP (R445): 0 create, 1 modify, 2 destroy. -/
def State.opQp (s : State) (sub qpn mtu : Nat) : OpRes :=
  let have_ := s.eth.qps.any fun q => q.qpn = qpn
  let rest := s.eth.qps.filter fun q => q.qpn ≠ qpn
  match sub with
  | 0 =>
    if have_ || 256 ≤ s.eth.qps.length then (.state, [], s)
    else if !mtuOk mtu then (.range, [], s)
    else (.ok, [], s.modEth fun e => { e with qps := e.qps ++ [⟨qpn, mtu, lineRate, false⟩] })
  | 1 =>
    if !have_ then (.state, [], s)
    else if !mtuOk mtu then (.range, [], s)
    else (.ok, [], s.modEth fun e => { e with qps := e.qps.map fun q => if q.qpn = qpn then { q with mtu := mtu } else q })
  | 2 => if have_ then (.ok, [], s.modEth fun e => { e with qps := rest }) else (.state, [], s)
  | _ => (.range, [], s)

/-- REGION (R446): register, which answers the key the device assigns, or deregister a key. -/
def State.opRegion (s : State) (reg : Bool) (base len : Nat) (rd wr : Bool) : OpRes :=
  if reg then
    if 0x30000000000 < base + len ∨ len = 0 ∨ !(rd || wr) then (.range, [], s)
    else if 1024 ≤ s.eth.mrs.length then (.state, [], s)
    else
      let q := s.takeFree
      let k := freshId (Config.freeNat q.1) (s.eth.mrs.map fun r => r.key)
      (.ok, [k], q.2.modEth fun e => { e with mrs := e.mrs ++ [⟨k, base, len, rd, wr⟩] })
  else if s.eth.mrs.any fun r => r.key = base then
    (.ok, [], s.modEth fun e => { e with mrs := e.mrs.filter fun r => r.key ≠ base })
  else (.state, [], s)

/-! ### Glean packs over Caddy (R414) -/

/-- R414: a whole pack replaces the active one if it verifies and is no older; otherwise a Warning. -/
def State.packIn (s : State) (d : List Byte) : OpRes :=
  let m : Store Byte := d.zipIdx.map fun x => (x.2, x.1)
  let img := s.hbmImage
  if packOk m 0 d.length (keyAt img 0x400) (keyAt img 0xC00) && s.boot.packVer ≤ packVer m 0 then
    (.ok, [], s.modBoot fun b => { b with
      packVer := packVer m 0, packKernels := packKern m 0, packWin := packWindows m 0, packBytes := d })
  else (.state, [], s.raise clsWarning 0x073 0xFF 11 0 (packVer m 0))

/-- GLEAN (R414): the next segment of a pack, at offset `off`; offset 0 begins one. The last segment completes it. -/
def State.opGlean (s : State) (off : Nat) (d : List Byte) : OpRes :=
  let have_ := if off = 0 then [] else s.eth.pack
  if off ≠ have_.length ∨ 0x1000000 < off + d.length then (.range, [], s)
  else
    let p := have_ ++ d
    let m : Store Byte := (p.take 16).zipIdx.map fun x => (x.2, x.1)
    if 16 ≤ p.length ∧ packLen m 0 + 2048 ≤ p.length then (s.modEth fun e => { e with pack := [] }).packIn p
    else (.ok, [], s.modEth fun e => { e with pack := p })

/-! ### Images (R518, R519) -/

/-- R518: steps 1–8 of a cold start. -/
def State.step18 (s : State) : Bool := 1 ≤ s.f BOOT_STAT_STEP && s.f BOOT_STAT_STEP ≤ 8 && !s.on BOOT_STAT_WARM

/-- A transfer opens: state 1 to the flash, 2 a stream. -/
def State.xferOpen (s : State) (id st len : Nat) : State :=
  ((s.setF IMG_XFER_STATE st).setF IMG_XFER_KIB 0).modEth fun e => { e with
    xferLen := len, xferAt := 0, xferBy := id, xferTime := s.dtime }

def State.opFlashBegin (s : State) (id len : Nat) : OpRes :=
  if s.step18 || s.f IMG_XFER_STATE ≠ 0 then (.state, [], s)
  else if 2 ^ 28 < len then (.range, [], s)
  else (.ok, [], s.xferOpen id 1 len)

/-- R518: bytes at the next offset; each sector of the flash is erased before its first write (log entry 44). -/
def writeFlash (m : Store Byte) (off : Nat) (d : List Byte) : Store Byte :=
  let m := m.drop fun a => off ≤ a / 4096 * 4096 && a / 4096 * 4096 < off + d.length
  d.zipIdx.foldl (fun t x => t.set 0xFF (off + x.2) x.1) m

/-- DATA (R518). -/
def State.opData (s : State) (id off : Nat) (d : List Byte) : OpRes :=
  let st := s.f IMG_XFER_STATE
  if st = 0 || s.eth.xferBy ≠ id then (.state, [], s)
  else if off ≠ s.eth.xferAt ∨ d.length = 0 ∨ 22000 < d.length ∨ s.eth.xferLen < off + d.length then (.range, [], s)
  else
    let n := off + d.length
    let s := s.modEth fun e => { e with
      xferAt := n, xferTime := s.dtime,
      flash := if st = 1 then writeFlash e.flash off d else e.flash,
      stream := if st = 1 then e.stream else writeFlash e.stream off d }
    (.ok, [], s.setF IMG_XFER_KIB (n / 1024))

/-- FLASH_END (R518): the flash is read back and checks 1–8 run; the reason code is answered. -/
def State.opFlashEnd (s : State) (id : Nat) : OpRes :=
  if s.f IMG_XFER_STATE ≠ 1 || s.eth.xferBy ≠ id then (.state, [], s)
  else (.ok, [ (verify s.eth.flash s.boot true false).1], s.xferClose)

/-- RESTART (R518): after a device abort if the module is serving, from the flash or from a stream. -/
def State.opRestart (s : State) (id : Nat) (stream : Bool) (len : Nat) : OpRes :=
  if s.vpm.warnLow || !s.on MOD_PINS_PWRWARN || (stream && s.f IMG_XFER_STATE ≠ 0) then (.state, [], s)
  else if stream && 2 ^ 28 < len then (.range, [], s)
  else
    let s := if stream then (s.xferOpen id 2 len).modEth fun e => { e with stream := [] } else s
    let s := s.modBoot fun b => { b with restart := if stream then 2 else 1 }
    (.ok, [], if s.on BOOT_STAT_READY then s.deviceAbort else s.restartBegin)

/-- CANCEL (R518). -/
def State.opCancel (s : State) (id : Nat) : OpRes :=
  if s.f IMG_XFER_STATE = 0 || s.eth.xferBy ≠ id then (.state, [], s) else (.ok, [], s.xferClose)

/-! ### Quotes (R521) -/

/-- R521: the fuse-state digest: grade limits, vendor hash, owner slots with their bits, both copies of the repair map. -/
def State.fuseDigest (s : State) : List Word :=
  let slot (o : OwnSlot) : List Word := o.digest ++ [ BitVec.ofNat 32 (bool1 o.prog + 2 * bool1 o.commit + 4 * bool1 o.revoked)]
  digest8 (wordsBytes ([ BitVec.ofNat 32 (s.f DEV_GRADE_GRADE + 65536 * s.f DEV_GRADE_FMAX_MHZ), BitVec.ofNat 32 (s.f DEV_PLIMIT_PMAX_W)]
    ++ s.boot.vendor ++ s.boot.owners.flatMap slot ++ s.boot.mapA ++ s.boot.mapB))

/-- R521: the 48 words of a quote. -/
def State.quoteWords (s : State) (nonce : List Nat) : List Nat :=
  let d := if s.step18 then [] else if s.boot.inForce then s.boot.digest.map BitVec.toNat
    else (List.range 16).map fun i => s.f (IMG_DIGEST_WORD i)
  let step := (List.range 4).foldl (fun a p => a + s.stepping p * 2 ^ (8 * p)) 0
  let flags := s.f CDIE_COMMON_HELD + 16 * s.f BOOT_STAT_FAIL + 256 * s.f IMG_STAT_REASON + 4096 * s.f BOOT_STAT_WARM
    + 8192 * bool1 s.boot.streamed + 16384 * s.f OWN_STAT_INFORCE + 65536 * s.f OWN_STAT_NOOWNER
  [ 1] ++ (List.range 8).map (fun i => nonce.getD i 0 % 2 ^ 32) ++ (List.range 16).map (fun i => d.getD i 0) ++
    s.fuseDigest.map BitVec.toNat ++ [ step, flags, s.boot.packVer, s.f IMG_VER_IMGVER, s.now % 2 ^ 32, s.now / 2 ^ 32] ++
    (List.range 8).map (fun i => s.f (ID_DIGEST_WORD i)) ++ [ 0]

/-- Bytes as 32-bit words (R8), the last one filled up with zeros. -/
def packWords (d : List Byte) : List Nat := (List.range ((d.length + 3) / 4)).map fun i => leVal ((d.drop (4 * i)).take 4)

/-- R521: a quote, the identity key's signature slot over its 192 bytes and the identity public key, as words. -/
def State.quoteRsp (s : State) (nonce : List Nat) : List Nat :=
  let q := s.quoteWords nonce
  q ++ packWords (s.identitySign (numBytes q) ++ identityKey s.boot.seed)

/-- QUOTE (R521): at most 16 in a second. -/
def State.opQuote (s : State) (nonce : List Nat) : OpRes :=
  let l := s.eth.quotes.filter fun t => s.dtime < t + secU
  if 16 ≤ l.length then (.state, [], s)
  else (.ok, s.quoteRsp nonce, s.modEth fun e => { e with quotes := l ++ [s.dtime] })

/-! ### The rows -/

/-- Words of an operand as offset and value pairs. -/
def csrPairs (l : List Nat) : List (Nat × Word) := (pairsOf l).map fun p => (p.1, BitVec.ofNat 32 p.2)
def asBytes (l : List Nat) : List Byte := l.map (BitVec.ofNat 8)

/-- R518: an IMAGE operation by its subop. -/
def State.opImage (s : State) (id : Nat) (a : List Nat) : OpRes :=
  let w (i : Nat) : Nat := a.getD i 0
  match w 0 with
  | 0 => s.opFlashBegin id (w 1)
  | 1 => s.opData id (w 1) (asBytes (a.drop 2))
  | 2 => s.opFlashEnd id
  | 3 => s.opRestart id (w 1 % 2 = 1) (w 2)
  | 4 => s.opCancel id
  | _ => (.range, [], s)

/-- R454: an operation by its number, with its operand as numbers; any other completes with RANGE. -/
def State.operate (s : State) (id op : Nat) (a : List Nat) : OpRes :=
  let w (i : Nat) : Nat := a.getD i 0
  match op with
  | 0x01 => s.opRead a
  | 0x02 => s.opWrite (csrPairs a)
  | 0x03 => s.opAbort (w 0)
  | 0x04 => s.opKeepwarm (w 0 = 1)
  | 0x05 => s.opPlimit (w 0)
  | 0x06 => s.opSubscribe id (w 0) (w 1 = 1)
  | 0x07 => s.opTimeofday (w 0) (w 1)
  | 0x08 => s.opQp (w 0) (w 1) (w 2)
  | 0x09 => s.opRegion (w 0 = 1) (w 1) (w 2) (w 3 % 2 = 1) (w 3 / 2 % 2 = 1)
  | 0x0A => s.opGlean (w 0) (asBytes (a.drop 1))
  | 0x0B => s.opImage id a
  | 0x0C => s.opQuote a
  | _ => (.range, [], s)

/-- CADDY_CMD (R453, R454): session, SEQ, whether the tag matches, operation and operand. -/
def execCaddyCmd (id seq : Nat) (ok : Bool) (op : Nat) (a : List Nat) (s : State) : Out :=
  .next (s.cmd id seq ok op fun t => t.operate id op a)
/-- CSR_READ (R454). -/
def execCsrRead (id seq : Nat) (ok : Bool) (offs : List Nat) (s : State) : Out := .next (s.cmd id seq ok 0x01 fun t => t.opRead offs)
/-- CSR_WRITE (R12, R378, R454). -/
def execCsrWrite (id seq : Nat) (ok : Bool) (l : List (Nat × BitVec 32)) (s : State) : Out :=
  .next (s.cmd id seq ok 0x02 fun t => t.opWrite l)
/-- CADDY_ABORT (R454): partition `p`, or the device for 0xFF. -/
def execCaddyAbort (id seq : Nat) (ok : Bool) (p : BitVec 8) (s : State) : Out :=
  .next (s.cmd id seq ok 0x03 fun t => t.opAbort p.toNat)
/-- CADDY_KEEPWARM (R454). -/
def execCaddyKeepwarm (id seq : Nat) (ok enter : Bool) (s : State) : Out := .next (s.cmd id seq ok 0x04 fun t => t.opKeepwarm enter)
/-- PLIMIT (R3): in W. -/
def execPlimit (id seq : Nat) (ok : Bool) (w : Nat) (s : State) : Out := .next (s.cmd id seq ok 0x05 fun t => t.opPlimit w)
/-- SUBSCRIBE (R456). -/
def execSubscribe (id seq : Nat) (ok : Bool) (cls : Nat) (tel : Bool) (s : State) : Out :=
  .next (s.cmd id seq ok 0x06 fun t => t.opSubscribe id cls tel)
/-- TIMEOFDAY (R295). -/
def execTimeofday (id seq : Nat) (ok : Bool) (sec ns : Nat) (s : State) : Out :=
  .next (s.cmd id seq ok 0x07 fun t => t.opTimeofday sec ns)
/-- QP (R445): 0 create, 1 modify, 2 destroy. -/
def execQp (id seq : Nat) (ok : Bool) (sub qpn mtu : Nat) (s : State) : Out := .next (s.cmd id seq ok 0x08 fun t => t.opQp sub qpn mtu)
/-- REGION (R446): register a range, or deregister the key in `base`. -/
def execRegion (id seq : Nat) (ok reg : Bool) (base len : Nat) (rd wr : Bool) (s : State) : Out :=
  .next (s.cmd id seq ok 0x09 fun t => t.opRegion reg base len rd wr)
/-- GLEAN (R414). -/
def execGlean (id seq : Nat) (ok : Bool) (off : Nat) (d : List Byte) (s : State) : Out :=
  .next (s.cmd id seq ok 0x0A fun t => t.opGlean off d)
/-- FLASH_BEGIN (R518). -/
def execFlashBegin (id seq : Nat) (ok : Bool) (len : Nat) (s : State) : Out :=
  .next (s.cmd id seq ok 0x0B fun t => t.opFlashBegin id len)
/-- DATA (R518). -/
def execDataOp (id seq : Nat) (ok : Bool) (off : Nat) (d : List Byte) (s : State) : Out :=
  .next (s.cmd id seq ok 0x0B fun t => t.opData id off d)
/-- FLASH_END (R518). -/
def execFlashEnd (id seq : Nat) (ok : Bool) (s : State) : Out := .next (s.cmd id seq ok 0x0B fun t => t.opFlashEnd id)
/-- RESTART (R518). -/
def execRestart (id seq : Nat) (ok stream : Bool) (len : Nat) (s : State) : Out :=
  .next (s.cmd id seq ok 0x0B fun t => t.opRestart id stream len)
/-- CANCEL (R518). -/
def execCancel (id seq : Nat) (ok : Bool) (s : State) : Out := .next (s.cmd id seq ok 0x0B fun t => t.opCancel id)
/-- QUOTE (R521). -/
def execQuote (id seq : Nat) (ok : Bool) (nonce : List (BitVec 32)) (s : State) : Out :=
  .next (s.cmd id seq ok 0x0C fun t => t.opQuote (nonce.map BitVec.toNat))

/-- STREAM_DATA_TIMEOUT (R518): a stream with no DATA for 10 s fails check 2. -/
def execStreamDataTimeout (s : State) : Out :=
  .next (if s.f IMG_XFER_STATE ≠ 2 then s
    else
      let s := (s.advanceTo (s.eth.xferTime + 10 * secU)).xferClose
      (((s.setF IMG_STAT_REASON 2).setF IMG_STAT_VERIFIED 0).bootAlarm 1).startFail 1 4)

end Sys2Proof.Machine
end

