-- ==== Sys2Proof/Machine/SeqRows.lean ====
section
/-!
DEFINITION. What the sequencer's commands do (R318–R323), and what arrives by VC0 (R144, R324–R326, R312, R547), the
watchdog (R151) and held writes of instruction memory (R152).
-/

namespace Sys2Proof.Machine

/-! ### Commands of the sequencer -/

/-- The oldest issued command of target `tq` with opcode `op` that has not acted. -/
def State.seqCmd (s : State) (c tq op : Nat) : Option Cmd :=
  if s.cluRuns c then (s.hart (1024 + c)).cmds.find? fun k => k.q = tq && k.phase = .issued && k.op = op && k.pos = 0
  else none

/-- A command of the sequencer has run, with the statuses that apply (R174) and its RESULT (R323). -/
def State.seqRan (s : State) (c : Nat) (k : Cmd) (sts : List Status) (result : Nat) : State :=
  (s.ranCmd (1024 + c) k.id sts Flags.zero result).touch c

/-- R174, R318, R413, R422: the statuses that apply to a START. -/
def State.startStatuses (s : State) (c : Nat) (l : List Nat) : List Status :=
  (if l.any fun n => s.absent n then [ Status.absent] else []) ++
    if (s.partOf c ≠ 0xFF && s.on (PART_STAT_LEDGER_BAD (partCsr (s.partOf c))))
        || l.any (fun n => s.f (CC_STAT_STATE n) = 1 || s.remapping n) then [ Status.state] else []

/-- CORE_START (R318): every named core enters RUN at PC, or none does. -/
def execCoreStart (c : Fin 32) (s : State) : Out :=
  match s.seqCmd c.val 0 1 with
  | none => .next s
  | some k =>
    let l := maskCores c.val (k.word 2)
    let sts := s.startStatuses c.val l
    if sts ≠ [] then .next (s.seqRan c.val k sts 0)
    else .next ((l.foldl (fun t n => t.startHart n (k.fld 3 0 16)) s).seqRan c.val k [] l.length)

/-- R144, R146, R547: credits reach counter `cn` of logical core `n`. -/
def State.creditTo (s : State) (part n cn amt : Nat) : State :=
  if s.absent n || s.retiring n then
    (s.ledgerAdd part lRefused amt).raiseCore clsWarning 0x011 n (cn + amt * 65536)
  else (s.addCredit n cn amt part).retry n

/-- CORE_CREDIT (R318). -/
def execCoreCredit (c : Fin 32) (s : State) : Out :=
  match s.seqCmd c.val 0 2 with
  | none => .next s
  | some k =>
    let p := s.partOf c.val
    let l := maskCores c.val (k.word 2)
    let amt := k.fld 3 8 8
    let s := l.foldl (fun t n => (t.ledgerAdd p lSent amt).creditTo p n (k.fld 3 0 4) amt) s
    .next (s.seqRan c.val k [] (l.filter fun n => !s.absent n).length)

/-- The time at which a command of cluster `c` was issued, on the count of its DTIME copy. -/
def State.issueU (s : State) (c : Nat) (k : Cmd) : Nat := s.copyU c - (s.copy c + 2 ^ 64 - k.since) % 2 ^ 64

/-- HRES (R320): a share of the requests of stack place i, held with the other cluster of the field to 12/16. -/
def execHres (c : Fin 32) (s : State) : Out :=
  match s.seqCmd c.val 9 1 with
  | none => .next s
  | some k =>
    let i := k.fld 2 0 1
    let used := ([ c.val / 2 * 2, c.val / 2 * 2 + 1].flatMap fun d => ((s.clu d).hres.filter fun r => r.1 = i)).foldl
      (fun a r => a + r.2.1) 0
    let g := min (k.fld 2 4 4) (12 - used)
    if g = 0 then .next (s.seqRan c.val k [ .state] 0)
    else
      let t := s.issueU c.val k + (k.word 3).toNat * nsU
      .next ((s.modClu c.val fun x => { x with hres := x.hres ++ [ (i, g, t)] }).seqRan c.val k [] g)

/-- HREF (R320): the stack has performed `n` refreshes, up to eight for each bank. -/
def execHref (c : Fin 32) (n : Nat) (s : State) : Out :=
  match s.seqCmd c.val 9 2 with
  | none => .next s
  | some k => .next (s.seqRan c.val k [] n)

/-- HRES_END (R320): the oldest reservation of cluster `c` reaches its end. -/
def execHresEnd (c : Fin 32) (s : State) : Out :=
  match (s.clu c.val).hres with
  | [] => .next s
  | r :: l =>
    let t := l.foldl (fun a x => min a x.2.2) r.2.2
    .next ((s.advanceCopy c.val t).modClu c.val fun x => { x with hres := x.hres.filter fun y => y.2.2 ≠ t })

/-- R261: `n` member entries of four words in a sequencer's data memory at `off`. -/
def State.memberList (s : State) (c off n : Nat) : List (List Word) :=
  (List.range n).map fun i => (List.range 4).map fun j => s.rd32 (sdmemAddr c (off + 16 * i + 4 * j))

/-- GSET (R261, R321). `bad` names words of the member list found uncorrectable. -/
def execGset (c : Fin 32) (bad : List Nat) (s : State) : Out :=
  match s.seqCmd c.val 10 1 with
  | none => .next s
  | some k =>
    let n := k.fld 2 8 7
    let r := (s.addPoison bad).readDev (sdmemAddr c.val (k.fld 3 0 16)) (16 * n)
    if r.2.1 then .next (r.2.2.seqRan c.val k [ .ecc] 0)
    else
      let ms := s.memberList c.val (k.fld 3 0 16) n
      let p := s.partOf c.val
      let sts := s.groupStatuses p (k.fld 2 0 8) (k.fld 2 16 10) ms
      if sts ≠ [] then .next (s.seqRan c.val k sts 0)
      else .next ((s.groupSet p (k.fld 2 0 8) (k.fld 2 16 10) ms).seqRan c.val k [] n)

/-- GCLR (R321): it completes once every MCAST packet of the group in flight has landed; until then it has no effect. -/
def execGclr (c : Fin 32) (s : State) : Out :=
  match s.seqCmd c.val 10 2 with
  | none => .next s
  | some k =>
    let p := s.partOf c.val
    let g := k.fld 2 0 8
    if s.pkts.any fun q => q.typ = tMcast && q.part = p && q.gid = g then .next s
    else .next ((s.modPart p fun x => { x with groups := x.groups.set none g none }).seqRan c.val k [] 0)

/-- SHARM (R321): the descriptor is written, unless the sheaf is arming or open, and armed; the command waits for the sheaf
to open. -/
def execSharm (c : Fin 32) (s : State) : Out :=
  match s.seqCmd c.val 10 3 with
  | none => .next s
  | some k =>
    let i := k.fld 2 0 8
    let busy := s.f (SHF_STAT_STATE c.val i) = 1 || s.f (SHF_STAT_STATE c.val i) = 2
    let s := if busy then s else
      (List.range 8).foldl (fun t w => t.setF (SHF_DESC_WORD c.val i w) (if w < 6 then (k.word (w + 2)).toNat else 0)) s
    let sts := s.armStatuses c.val i
    let s := s.arm c.val i (some k.id)
    if sts ≠ [] then .next (s.seqRan c.val k sts 0)
    else .next (s.modCmd (1024 + c.val) k.id fun x => { x with pos := 1 })

/-- SHCANCEL (R268, R321). -/
def execShcancel (c : Fin 32) (s : State) : Out :=
  match s.seqCmd c.val 10 4 with
  | none => .next s
  | some k => .next ((s.shfCtl c.val (k.fld 2 0 8) 2).seqRan c.val k [] 0)

/-- MARK (R322). -/
def execMark (c : Fin 32) (s : State) : Out :=
  match s.seqCmd c.val 11 1 with
  | none => .next s
  | some k => .next (s.seqRan c.val k [] 0)

/-- HINT (R322): from its launch time for DUR_NS, at LEVEL. -/
def execHint (c : Fin 32) (s : State) : Out :=
  match s.seqCmd c.val 11 2 with
  | none => .next s
  | some k =>
    let e := k.launch + (k.word 2).toNat * nsU
    let s := s.modClu c.val fun x => { x with hints := x.hints ++ [ (k.launch, e, k.fld 3 0 4)] }
    let s := (s.modFld (c.val / 2) fun x => { x with hintEnd := max x.hintEnd e }).setF (VPM_FSTAT_HINT (c.val / 2)) 1
    .next (s.seqRan c.val k [] 0)

/-! ### Arrivals by VC0 -/

/-- What a cluster's mesh interface does with a CTRL flit (R271, R272, R357, R372): it absorbs it, holds it until the cluster
runs, or delivers it. -/
inductive Ctrl where
  | absorb | hold | deliver
deriving DecidableEq, Repr

def State.ctrl (s : State) (c : Nat) : Ctrl :=
  if s.meshDown (c / 2) || s.drainField = some (c / 2) || (s.partOf c ≠ 0xFF && (s.part (s.partOf c)).resetting) || s.f (PST_STAT_STATE c) = 3 then .absorb
  else if s.f (PST_STAT_STATE c) = 0 then .deliver else .hold

/-- R271, R547: a flit bound for an endpoint of cluster `c` is absorbed, and what it carries counts as refused; of a credit
for a core that has become ABSENT a Warning names the core. -/
def State.absorbFlit (s : State) (c : Nat) (fl : Flit) : State :=
  let s := (s.bump (MESH_ABSORB_PACKETS (c / 2)) 1).ledgerAdd (s.flitPart fl) lRefused (flitCredits fl)
  match fl with
  | .credit _ n cn amt => if s.absent n then s.raiseCore clsWarning 0x011 n (cn + amt * 65536) else s
  | _ => s

/-- Flit `i` reaches cluster `c`: a wake cause in Steep and Rest; delivered to `g` where the cluster runs. -/
def State.flitAt (s : State) (i c : Nat) (fl : Flit) (g : State → State) : State :=
  let s := s.wakeClu c
  match s.ctrl c with
  | .hold => s
  | .absorb => ({ s with flits := s.flits.eraseIdx i }).absorbFlit c fl
  | .deliver => g { s with flits := s.flits.eraseIdx i }

/-- CREDIT_ARRIVAL (R144, R146, R547): flit `i`. -/
def execCreditArrival (i : Nat) (s : State) : Out :=
  match s.flight i with
  | some (.credit p n cn amt, s) => .next (s.flitAt i (n / 32) (.credit p n cn amt) fun t => t.creditTo p n cn amt)
  | _ => .next s

/-- R324: an inbox word taken in the cycle it arrives. -/
def State.inboxTake (s : State) (part c : Nat) (w src : Word) : State :=
  let h := 1024 + c
  match s.inboxOf c w with
  | .credit n amt => (s.addCredit h n amt part).retry h
  | .arrive b => s.barrier c b
  | .mail v =>
    if 64 ≤ (s.clu c).mail.length then (s.bump (SEQ_DROP_MDROP c) 1).raiseClu clsWarning 0x012 c w.toNat
    else (s.modClu c fun x => { x with mail := x.mail ++ [ (v, src)] }).retry h
  | .refused => s.inboxRefuse part c w

/-- Flit `i` is an inbox word of one of the kinds given. -/
def State.inboxAt (s : State) (i : Nat) (kinds : List Nat) : State :=
  match s.flight i with
  | some (.inbox p c w src, s) =>
    if kinds.contains (wbits w 30 2) then s.flitAt i c (.inbox p c w src) fun t => t.inboxTake p c w src else s
  | _ => s

/-- INBOX_CREDIT (R324): kind 0. -/
def execInboxCredit (i : Nat) (s : State) : Out := .next (s.inboxAt i [ 0])
/-- INBOX_ARRIVE (R325): kind 1. -/
def execInboxArrive (i : Nat) (s : State) : Out := .next (s.inboxAt i [ 1])
/-- INBOX_MAIL (R324): kind 2, and kind 3, which is refused. -/
def execInboxMail (i : Nat) (s : State) : Out := .next (s.inboxAt i [ 2, 3])

/-- RECORD_COPY_ARRIVAL (R312): 64 slots take copies. -/
def execRecordCopyArrival (i : Nat) (s : State) : Out :=
  match s.flight i with
  | some (.copy c r, s) =>
    .next (s.flitAt i c (.copy c r) fun t =>
      if 64 ≤ ((t.hart (1024 + c)).recs.filter fun x => x.q = 15).length then
        (t.bump (SEQ_DROP_CDROP c) 1).raiseClu clsWarning 0x012 c 0
      else (t.modHart (1024 + c) fun x => { x with recs := x.recs ++ [ r] }).retry (1024 + c))
  | _ => .next s

/-- CORE_REPORT_ARRIVAL (R326). -/
def execCoreReportArrival (i : Nat) (s : State) : Out :=
  match s.flight i with
  | some (.halt n code, s) =>
    .next (s.flitAt i (n / 32) (.halt n code) fun t => t.orF (SEQ_HALTED_HALTED (n / 32)) (2 ^ (n % 32)))
  | some (.exc n cause, s) =>
    .next (s.flitAt i (n / 32) (.exc n cause) fun t => t.orF (SEQ_EXCM_EXC (n / 32)) (2 ^ (n % 32)))
  | _ => .next s

/-! ### The watchdog and held writes -/

/-- WATCHDOG_EXPIRY (R151; log entry 71): the watchdog of control core `h`, in RUN with a period, reaches zero. -/
def execWatchdogExpiry (h : Fin 1056) (s : State) : Out :=
  let c := hartClu h.val
  if s.f (CC_STAT_STATE h.val) ≠ 1 ∨ s.f (CC_WDOG_PERIOD_US h.val) = 0 ∨ s.f (PST_STAT_STATE c) ≠ 0 then .next s
  else .next ((s.advanceCopy c (s.hart h.val).wdogEnd).exc h.val 8 (s.hart h.val).pc)

/-- IMEM_WRITE (R152): packet `i` writes an instruction memory: it lands, or is held while the control core runs. -/
def execImemWrite (i : Nat) (bad : List Nat) (s : State) : Out :=
  match s.pkts[i]? with
  | none => .next s
  | some q =>
    let resp := if q.typ = tWrite then tWack else tMrsp
    if (imemHart q.addr).isNone || q.data.isEmpty || !(q.typ = tWrite || q.typ = tMgmt) then .next s
    else
      match s.arrival i q.typ with
      | none => .next s
      | some (p, s) =>
        match s.portStops p resp with
        | some t => .next t
        | none => .next ((s.addPoison bad).writeAt p resp)

/-- IMEM_HOLD_TIMEOUT (R152): the oldest held write of control core `h` has waited its time. -/
def execImemHoldTimeout (h : Fin 1056) (s : State) : Out :=
  match (s.hart h.val).ihold with
  | [] => .next s
  | w :: _ =>
    .next ((s.advanceCopy (hartClu h.val) (w.since + s.f (CC_IHOLD_TIMEOUT_US h.val) * 1000 * nsU)).discardHeld h.val)

end Sys2Proof.Machine
end

