-- ==== Sys2Proof/Machine/VecOps.lean ====
section
/-!
DEFINITION. The vector engine's values: operands as FP32 (R104), conversions to every output format (R56–R61, R105,
R109), lane operations (R107), fixed-order sums (R111), maxima (R112, R115) and keys (R116). A command's rows are taken
in order, each read before it is written.
-/

namespace Sys2Proof.Machine

/-! ### Inputs (R102, R104) -/

def flagsOf (sat nonfin lost : Bool) : Flags := ⟨sat, nonfin, false, lost⟩
def FRes.flags (r : FRes) : Flags := flagsOf r.sat r.nonfin false

/-- Grains of one tile register or one region. -/
def unitGrains (reg : Bool) : Nat := if reg then 4096 else 512

/-- The exact value of element `j` of an operand; grains take the scale of their tile or region. -/
def State.inVal (s : State) (reg : Bool) (f : Fmt) (n t0 j : Nat) : Val :=
  if f = .grain then intVal (s.grainAt reg n t0 j) (s.unitScale reg n (t0 + j / unitGrains reg)) else s.runVal f n t0 j

/-- R104: element `j` lies in a block with scale 0xFF. -/
def State.inFF (s : State) (f : Fmt) (n t0 j : Nat) : Bool :=
  f ≠ .grain && (s.elemScale f n (runElem f t0 j).1 (runElem f t0 j).2).isNone

/-- R104: element `j` as FP32, with the flags that reading it sets. -/
def State.in32 (s : State) (reg : Bool) (f : Fmt) (n t0 j : Nat) : Word × Flags :=
  match s.inVal reg f n t0 j with
  | .nan => (canonNan, flagsOf false (s.inFF f n t0 j) false)
  | v => (v.toF32.w, flagsOf v.toF32.sat false false)

/-! ### Outputs -/

/-- R56, R57, R60: a value in a format without scales. `conv`: the command converts its input, so that, as for every output
that is not FP32, a zero result is +0 whatever the sign of its source (log entry 69). -/
def convOut (f : Fmt) (conv : Bool) (v : Val) : Nat × Flags :=
  let ieee (ff : Ff) (canon : Nat) : Nat × Flags :=
    match v with
    | .nan => (canon, flagsOf false true false)
    | .inf n => ((if n then ff.sgn else 0) + ff.infBits, Flags.zero)
    | .fin n m e =>
      let r := ff.ieeeRound n m e
      (if (conv || f ≠ .fp32) && r.1 % ff.sgn = 0 then 0 else r.1, flagsOf r.2 false false)
  let int (top : Int) (w : Nat) : Nat × Flags :=
    match v with
    | .nan => (0, flagsOf false true false)
    | .inf n => (((if n then -top else top) % (2 ^ w : Nat)).toNat, flagsOf true false false)
    | x =>
      let i := x.dy.toUnit 0
      let h := max (-top) (min top i)
      ((h % (2 ^ w : Nat)).toNat, flagsOf (h ≠ i) false false)
  match f with
  | .bf16 => ieee ffBF16 0x7FC0
  | .fp16 => ieee ffFP16 0x7E00
  | .int8 => int 127 8
  | .int4 => int 7 4
  | _ => ieee ffFP32 0x7FC00000

/-- R58: emax, the element format, and its largest finite pattern. -/
def mxShape (f : Fmt) : Nat × Ff × Nat :=
  match f with
  | .e2m1 => (2, ffE2M1, 0x7)
  | .e3m2 => (4, ffE3M2, 0x1F)
  | .e2m3 => (2, ffE2M3, 0x1F)
  | .e4m3 => (8, ffE4M3, 0x7E)
  | .e5m2 => (15, ffE5M2, 0x7B)
  | _ => (0, ffE2M1, 0)

/-- R58 steps 4 and 5: one element under the exponent E. -/
def mxElem (f : Fmt) (ex : Int) (v : Val) : Nat :=
  let d := v.dy
  if f = .mxint8 then
    ((max (-127) (min 127 (d.toUnit (ex - 6)))) % 256).toNat
  else
    let (_, ff, top) := mxShape f
    let r := (ff.heldRound top (d.m < 0) d.m.natAbs (d.e - ex)).1
    if r % ff.sgn = 0 then 0 else r

/-- R58, R59: a block: its scale byte, its elements and its flags. -/
def mxBlock (f : Fmt) (vs : List Val) : Byte × List Nat × Flags :=
  if vs.any fun v => !v.isFin then (0xFF, vs.map fun _ => 0, flagsOf false true false)
  else
    let amax := vs.foldl (fun (a : Dy) v => if a.lt v.abs.dy then v.abs.dy else a) Dy.zero
    if amax.m = 0 then (0, vs.map fun _ => 0, Flags.zero)
    else
      let e0 := amax.log2 - ((mxShape f).1 : Int)
      let ex := max (-127) (min 127 e0)
      (BitVec.ofNat 8 (ex + 127).toNat, vs.map (mxElem f ex), flagsOf (127 < e0) false false)

/-- R51, R109: a value as a grain at scale `e`, with its flags; NaN and the infinities are non-finite inputs. -/
def toGrain (e : Int) (v : Val) : Int × Flags :=
  match v with
  | .nan => (0, flagsOf false true false)
  | .inf n => (if n then -grainMax else grainMax, flagsOf true true false)
  | x =>
    let r := grainSat (x.dy.toUnit e)
    (r.1, flagsOf r.2 false (x.dy.m ≠ 0 && r.1 = 0))

/-- What a command has done so far: the state, its own flags, and the flags of each grain tile it writes. -/
structure VAcc where
  s : State
  fl : Flags
  gf : Store Nat

/-- Add flags to output tile `u`. -/
def VAcc.mark (a : VAcc) (u : Nat) (g : Flags) : VAcc := { a with gf := a.gf.set 0 u (a.gf.get 0 u ||| g.bits) }

/-- The 64 elements of row `i` of output D, in its format. -/
def VAcc.emit (a : VAcc) (n : Nat) (f : VqF) (i : Nat) (conv : Bool) (vs : List Val) : VAcc :=
  let d := (fmtOf f.dfmt).getD .fp32
  if d = .grain then
    vs.zipIdx.foldl (fun t (v, c) =>
      let r := toGrain f.scale v
      { t.mark (i / 8) r.2 with
        s := t.s.setRunBits .grain n f.td (64 * i + c) (r.1 % (2 ^ 64 : Nat)).toNat, fl := t.fl.or r.2 }) a
  else if d.isMx then
    [ 0, 1].foldl (fun t h =>
      let r := mxBlock d ((vs.drop (32 * h)).take 32)
      let j := 64 * i + 32 * h
      let p := runElem d f.td j
      let s := t.s.setPlane n p.1 (p.2 / 32) r.1
      { t with s := r.2.1.zipIdx.foldl (fun u (b, c) => u.setRunBits d n f.td (j + c) b) s, fl := t.fl.or r.2.2 }) a
  else
    vs.zipIdx.foldl (fun t (v, c) =>
      let r := convOut d conv v
      { t with s := t.s.setRunBits d n f.td (64 * i + c) r.1, fl := t.fl.or r.2 }) a

/-- R105: the scale planes of the grain tiles written. -/
def VAcc.planes (a : VAcc) (n : Nat) (f : VqF) : VAcc :=
  if f.dfmt = 12 then
    { a with s := (List.range (grainUnits false f.r)).foldl (fun t u =>
        t.setGrainPlane n (f.td + u) f.scale (Flags.ofBits (a.gf.get 0 u))) a.s }
  else a

/-- Element `r` of a row vector. -/
def State.vecAt (s : State) (n t0 r : Nat) : Word := BitVec.ofNat 32 (s.runBits .fp32 n t0 r)
def State.setVec (s : State) (n t0 r : Nat) (w : Word) : State := s.setRunBits .fp32 n t0 r w.toNat

/-! ### Lane operations (R107, R108) -/

def f32One : Word := 0x3F800000#32

def condTrue (c : Word) : Bool := !(fval c).isZero

/-- One lane of opcodes 0x00–0x15. -/
def lane (op : Nat) (f : VqF) (a b c : Word) : FRes :=
  match op with
  | 0x00 => fadd a b
  | 0x01 => fsub a b
  | 0x02 => fmul a b
  | 0x03 => ffma a b c
  | 0x04 => vmax a b
  | 0x05 => vmin a b
  | 0x06 => if isNan32 a then fNan else ⟨a &&& 0x7FFFFFFF#32, false, false⟩
  | 0x07 => if isNan32 a then fNan else ⟨a ^^^ 0x80000000#32, false, false⟩
  | 0x08 => if isNan32 a || isNan32 b then ⟨0, false, true⟩ else ⟨if pcondF f.cond a b then f32One else 0, false, false⟩
  | 0x09 => let x := if condTrue c then a else b; if isNan32 x then fNan else ⟨x, false, false⟩
  | 0x10 => tableFn .exp false a
  | 0x11 => tableFn .exp2 false a
  | 0x12 => tableFn .log false a
  | 0x13 => tableFn .log2 false a
  | 0x14 => tableFn .rsqrt false a
  | _ => tableFn .recip f.z0 a

/-- R107: operand B of element `j`. -/
def State.bVal (s : State) (n : Nat) (f : VqF) (sb : Word) (j : Nat) : Word × Flags :=
  match f.bkind with
  | 0 => s.in32 f.breg ((fmtOf f.bfmt).getD .fp32) n f.tb j
  | 1 => (sb, Flags.zero)
  | 2 => (s.vecAt n f.tb (j / 64), Flags.zero)
  | _ => s.in32 false ((fmtOf f.bfmt).getD .fp32) n f.tb (j % 64)

/-- Row `i` of a lane operation. DESIGN CHOICE (log entry 73): SEL reads its condition in the format of A, and an MX block of
scale 0xFF sets NONFIN in whichever operand it is read (R104). -/
def VAcc.laneRow (a : VAcc) (n op : Nat) (f : VqF) (sb : Word) (i : Nat) : VAcc :=
  let fa := (fmtOf f.afmt).getD .fp32
  let hasB := op ≤ 0x05 || op = 0x08 || op = 0x09
  let hasC := op = 0x03 || op = 0x09
  let outs := (List.range 64).map fun l =>
    let x := a.s.in32 f.areg fa n f.ta (64 * i + l)
    let y := if hasB then a.s.bVal n f sb (64 * i + l) else (0, Flags.zero)
    let z := if hasC then a.s.in32 false fa n f.tc (64 * i + l) else (0, Flags.zero)
    let r := lane op f x.1 y.1 z.1
    (fval r.w, ((x.2.or y.2).or z.2).or r.flags)
  ({ a with fl := a.fl.or (Flags.any (outs.map Prod.snd)) }).emit n f i false (outs.map Prod.fst)

/-- Row `i` of CVT (R56–R60, R109). DEDUCED (log entry 72): from grains to grains the output tile carries the flags of its
source. -/
def VAcc.cvtRow (a : VAcc) (n : Nat) (f : VqF) (i : Nat) : VAcc :=
  let fa := (fmtOf f.afmt).getD .fp32
  let grain := fa = .grain
  let outs := (List.range 64).map fun l =>
    let j := 64 * i + l
    if grain || f.dfmt = 12 then (a.s.inVal f.areg fa n f.ta j, flagsOf false (a.s.inFF fa n f.ta j) false)
    else
      let x := a.s.in32 f.areg fa n f.ta j
      (fval x.1, x.2)
  let carry := if grain && f.dfmt = 12 then a.s.unitFlags f.areg n (f.ta + 64 * i / unitGrains f.areg) else Flags.zero
  let a := { a with fl := a.fl.or (Flags.any (outs.map Prod.snd)) }
  let a := if f.dfmt = 12 then a.mark (i / 8) carry else a
  a.emit n f i (fa ≠ .fp32) (outs.map Prod.fst)

/-! ### Grains as grains (R61, R110) -/

/-- The scales of every unit of a grain run. -/
def State.grainScales (s : State) (reg : Bool) (n t0 rows : Nat) : List Int :=
  (List.range (grainUnits reg rows)).map fun u => s.unitScale reg n (t0 + u)

/-- The flags of every unit of a grain run. -/
def State.grainFlags (s : State) (reg : Bool) (n t0 rows : Nat) : List Flags :=
  (List.range (grainUnits reg rows)).map fun u => s.unitFlags reg n (t0 + u)

/-- Element rows in a unit of a grain run. -/
def unitRows (reg : Bool) : Nat := if reg then 64 else 8

/-- Row `i` of GADD: exact sums, with the operands' flags carried into the tile. -/
def VAcc.gaddRow (a : VAcc) (n : Nat) (f : VqF) (fa fb : List Flags) (i : Nat) : VAcc :=
  let a := (a.mark (i / 8) (fa.getD (i / unitRows f.areg) Flags.zero)).mark (i / 8) (fb.getD (i / unitRows f.breg) Flags.zero)
  (List.range 64).foldl (fun t l =>
    let j := 64 * i + l
    let r := grainSat (t.s.grainAt f.areg n f.ta j + t.s.grainAt f.breg n f.tb j)
    let g := flagsOf r.2 false false
    { t.mark (i / 8) g with s := t.s.setRunBits .grain n f.td j (r.1 % (2 ^ 64 : Nat)).toNat, fl := t.fl.or g }) a

/-- Row `i` of GRESCALE, from the scales its run had at the start. DEDUCED (log entry 72): the output tile carries the flags of
its source, as in an addition or a move (R51). -/
def VAcc.rescaleRow (a : VAcc) (n : Nat) (f : VqF) (es : List Int) (fa : List Flags) (i : Nat) : VAcc :=
  let e1 := es.getD (i / unitRows f.areg) 0
  let a := a.mark (i / 8) (fa.getD (i / unitRows f.areg) Flags.zero)
  (List.range 64).foldl (fun t l =>
    let j := 64 * i + l
    let r := toGrain f.scale (intVal (t.s.grainAt f.areg n f.ta j) e1)
    { t.mark (i / 8) r.2 with s := t.s.setRunBits .grain n f.td j (r.1 % (2 ^ 64 : Nat)).toNat, fl := t.fl.or r.2 }) a

/-! ### Sums and extremes (R111, R112, R115) -/

/-- Adjacent results added. -/
def pairUp : List FRes → List FRes
  | a :: b :: r => (let x := fadd a.w b.w; ⟨x.w, a.sat || b.sat || x.sat, a.nonfin || b.nonfin || x.nonfin⟩) :: pairUp r
  | l => l

/-- R111 step 1: the pairwise tree over a row of 64. -/
def treeSum (l : List Word) : FRes :=
  (pairUp (pairUp (pairUp (pairUp (pairUp (pairUp (l.map fun w => ⟨w, false, false⟩))))))).headD ⟨0, false, false⟩

/-- R111 step 2: row partials added in ascending order. -/
def runSum : List FRes → FRes
  | [] => ⟨0, false, false⟩
  | p :: r => r.foldl (fun t q => let x := fadd t.w q.w; ⟨x.w, t.sat || q.sat || x.sat, t.nonfin || q.nonfin || x.nonfin⟩) p

/-- R111: the sum of rows of 64. -/
def sum111 (rows : List (List Word)) : FRes := runSum (rows.map treeSum)

/-- −0 read as +0. -/
def plusZero (w : Word) : Word := if w = 0x80000000#32 then 0 else w

/-- R112, R115, R116: the extreme of a run and its lowest place; none where every element is NaN. -/
def extreme (big : Bool) (l : List Word) : Option (Word × Nat) :=
  l.zipIdx.foldl (fun b (w, i) =>
    if isNan32 w then b
    else match b with
      | none => some (plusZero w, i)
      | some (x, _) => if (if big then valLt (fval x) (fval w) else valLt (fval w) (fval x)) then some (plusZero w, i) else b) none

/-- A row of an operand as FP32, with the flags that reading it sets. -/
def State.row32 (s : State) (reg : Bool) (f : Fmt) (n t0 i : Nat) : List Word × Flags :=
  let l := (List.range 64).map fun c => s.in32 reg f n t0 (64 * i + c)
  (l.map Prod.fst, Flags.any (l.map Prod.snd))

/-- Rows `i0` on, `k` of them. -/
def State.rows32 (s : State) (f : Fmt) (n t0 i0 k : Nat) : List (List Word) × Flags :=
  let l := (List.range k).map fun i => s.row32 false f n t0 (i0 + i)
  (l.map Prod.fst, Flags.any (l.map Prod.snd))

/-- 1/n for n = 64 × 2^wlog, as FP32. -/
def recipN (wlog : Nat) : Word := BitVec.ofNat 32 ((127 - 6 - wlog) * 2 ^ 23)

/-- R116: the key of a winning value at an index with its base added. DESIGN CHOICE (log entry 73): the sum is taken modulo
2^32. -/
def keyOf (w : Word) (idx : Nat) : Word × Word :=
  (BitVec.ofNat 32 (0xFFFFFFFF - idx % 2 ^ 32), if w.getLsbD 31 then w ^^^ 0x7FFFFFFF#32 else w)

end Sys2Proof.Machine
end

