-- ==== Sys2Proof/Machine/Vector.lean ====
section
/-!
DEFINITION. The vector engine (R102–R121): one definition for each opcode of R182. A command runs as one step; `ue` says
that it met an uncorrectable error.
-/

namespace Sys2Proof.Machine

/-! ### What every command does -/

/-- R173: what a command with ECC wrote is invalid: unspecified bytes in `len` bytes of a tile run. -/
def State.freeBytes (s : State) (n t0 len : Nat) : State :=
  let f := s.takeFree
  (List.range len).foldl (fun u i => u.setTile n t0 i (Config.freeByte f.1 i)) f.2

/-- Unspecified scales, or grain flags, of the output D. -/
def State.freeScales (s : State) (n : Nat) (f : VqF) : State :=
  let d := (fmtOf f.dfmt).getD .fp32
  let q := s.takeFree
  if d = .grain then
    (List.range (grainUnits false f.r)).foldl (fun u i =>
      u.setPlane n (f.td + i) 1 (BitVec.ofNat 8 ((Config.freeByte q.1 i).toNat % 16))) q.2
  else if d.isMx then
    (List.range (2 * f.r)).foldl (fun u b =>
      let p := runElem d f.td (32 * b)
      u.setPlane n p.1 (p.2 / 32) (Config.freeByte q.1 b)) q.2
  else s

/-- The outputs of a command that met an uncorrectable error. -/
def State.freeOuts (s : State) (n : Nat) (k : Cmd) : State :=
  let f := k.vq
  match vqRow k.op with
  | none => s
  | some row =>
    let logical := f.r / 2 ^ f.wlog
    let s := match row.d with
      | .none => s
      | .rowvec => s.freeBytes n f.td (4 * logical)
      | _ => (s.freeBytes n f.td (f.r * 8 * ((fmtOf f.dfmt).getD .fp32).bits)).freeScales n f
    if row.e = .rowvec then s.freeBytes n f.te (4 * logical) else s

/-- R169, R170, R174: a vector command has run. -/
def State.vecRan (s : State) (n : Nat) (k : Cmd) (fl : Flags) (ue : Bool) : State :=
  let s := if ue then (s.freeOuts n k).zeroReserved n k else s
  (s.ranCmd n k.id ((if fl.sat then [Status.sat] else []) ++ if ue then [Status.ecc] else []) fl k.vq.r).touch (n / 32)

/-- Run the oldest issued command of opcode `op`. -/
def State.runVec (s : State) (n op : Nat) (ue : Bool) (body : Cmd → State × Flags) : State :=
  match s.issuedCmd n 1 op with
  | none => s
  | some k =>
    if !s.cluRuns (n / 32) then s
    else
      let r := body k
      r.1.vecRan n k r.2 ue

def VAcc.init (s : State) : VAcc := ⟨s, Flags.zero, []⟩
def VAcc.done (a : VAcc) (n : Nat) (f : VqF) : State × Flags := ((a.planes n f).s, a.fl)

/-- R107: a lane operation. -/
def State.vecLanes (s : State) (n : Nat) (k : Cmd) : State × Flags :=
  ((List.range k.vq.r).foldl (fun (a : VAcc) i => a.laneRow n k.op k.vq k.sb i) (VAcc.init s)).done n k.vq

/-- VQ_ADD (R107). -/
def execVqAdd (n : Fin 1024) (ue : Bool) (s : State) : Out := .next (s.runVec n.val 0x00 ue (s.vecLanes n.val))
/-- VQ_SUB (R107). -/
def execVqSub (n : Fin 1024) (ue : Bool) (s : State) : Out := .next (s.runVec n.val 0x01 ue (s.vecLanes n.val))
/-- VQ_MUL (R107). -/
def execVqMul (n : Fin 1024) (ue : Bool) (s : State) : Out := .next (s.runVec n.val 0x02 ue (s.vecLanes n.val))
/-- FMA (R107). -/
def execFma (n : Fin 1024) (ue : Bool) (s : State) : Out := .next (s.runVec n.val 0x03 ue (s.vecLanes n.val))
/-- VQ_MAX (R107). -/
def execVqMax (n : Fin 1024) (ue : Bool) (s : State) : Out := .next (s.runVec n.val 0x04 ue (s.vecLanes n.val))
/-- VQ_MIN (R107). -/
def execVqMin (n : Fin 1024) (ue : Bool) (s : State) : Out := .next (s.runVec n.val 0x05 ue (s.vecLanes n.val))
/-- ABS (R107). -/
def execAbs (n : Fin 1024) (ue : Bool) (s : State) : Out := .next (s.runVec n.val 0x06 ue (s.vecLanes n.val))
/-- NEG (R107). -/
def execNeg (n : Fin 1024) (ue : Bool) (s : State) : Out := .next (s.runVec n.val 0x07 ue (s.vecLanes n.val))
/-- VQ_CMP (R107). -/
def execVqCmp (n : Fin 1024) (ue : Bool) (s : State) : Out := .next (s.runVec n.val 0x08 ue (s.vecLanes n.val))
/-- SEL (R107). -/
def execSel (n : Fin 1024) (ue : Bool) (s : State) : Out := .next (s.runVec n.val 0x09 ue (s.vecLanes n.val))
/-- EXP (R108). -/
def execExp (n : Fin 1024) (ue : Bool) (s : State) : Out := .next (s.runVec n.val 0x10 ue (s.vecLanes n.val))
/-- EXP2 (R108). -/
def execExp2 (n : Fin 1024) (ue : Bool) (s : State) : Out := .next (s.runVec n.val 0x11 ue (s.vecLanes n.val))
/-- LOG (R108). -/
def execLog (n : Fin 1024) (ue : Bool) (s : State) : Out := .next (s.runVec n.val 0x12 ue (s.vecLanes n.val))
/-- LOG2 (R108). -/
def execLog2 (n : Fin 1024) (ue : Bool) (s : State) : Out := .next (s.runVec n.val 0x13 ue (s.vecLanes n.val))
/-- RSQRT (R108). -/
def execRsqrt (n : Fin 1024) (ue : Bool) (s : State) : Out := .next (s.runVec n.val 0x14 ue (s.vecLanes n.val))
/-- RECIP (R108). -/
def execRecip (n : Fin 1024) (ue : Bool) (s : State) : Out := .next (s.runVec n.val 0x15 ue (s.vecLanes n.val))

/-- CVT (R56–R60). -/
def execCvt (n : Fin 1024) (ue : Bool) (s : State) : Out :=
  .next (s.runVec n.val 0x18 ue fun k =>
    ((List.range k.vq.r).foldl (fun (a : VAcc) i => a.cvtRow n.val k.vq i) (VAcc.init s)).done n.val k.vq)

/-! ### Grains (R61, R110) -/

/-- R110: GADD's scales do not match: RANGE and no side effect. -/
def State.gaddBad (s : State) (n : Nat) (f : VqF) : Bool :=
  (s.grainScales f.areg n f.ta f.r ++ s.grainScales f.breg n f.tb f.r).any (· ≠ f.scale)

/-- R110: GSUM's scales do not match. -/
def State.gsumBad (s : State) (n : Nat) (f : VqF) : Bool := (s.grainScales f.areg n f.ta f.r).any (· ≠ f.scale)

/-- Stop the oldest issued command of an opcode with RANGE where `bad` holds of it; else none. -/
def State.vecStop (s : State) (n op : Nat) (bad : VqF → Bool) : Option State :=
  match s.issuedCmd n 1 op with
  | none => none
  | some k => if s.cluRuns (n / 32) && bad k.vq then some (s.stopCmd n k.id .range) else none

/-- GADD (R110). -/
def execGadd (n : Fin 1024) (ue : Bool) (s : State) : Out :=
  .next ((s.vecStop n.val 0x19 (s.gaddBad n.val)).getD (s.runVec n.val 0x19 ue fun k =>
    let f := k.vq
    let fa := s.grainFlags f.areg n.val f.ta f.r
    let fb := s.grainFlags f.breg n.val f.tb f.r
    ((List.range f.r).foldl (fun (a : VAcc) i => a.gaddRow n.val f fa fb i) (VAcc.init s)).done n.val f))

/-- GRESCALE (R61). -/
def execGrescale (n : Fin 1024) (ue : Bool) (s : State) : Out :=
  .next (s.runVec n.val 0x1A ue fun k =>
    let f := k.vq
    let es := s.grainScales f.areg n.val f.ta f.r
    let fa := s.grainFlags f.areg n.val f.ta f.r
    ((List.range f.r).foldl (fun (a : VAcc) i => a.rescaleRow n.val f es fa i) (VAcc.init s)).done n.val f)

/-! ### Row statistics (R112–R114) -/

/-- Fold over the logical rows of a row-statistics command. -/
def State.overLogical (s : State) (f : VqF) (g : State → Nat → State × Flags) : State × Flags :=
  (List.range (f.r / 2 ^ f.wlog)).foldl (fun t r => let q := g t.1 r; (q.1, t.2.or q.2)) (s, Flags.zero)

/-- RMAX (R112). -/
def execRmax (n : Fin 1024) (ue : Bool) (s : State) : Out :=
  .next (s.runVec n.val 0x20 ue fun k => s.overLogical k.vq fun s r =>
    let f := k.vq
    let w := 2 ^ f.wlog
    let x := s.rows32 ((fmtOf f.afmt).getD .fp32) n.val f.ta (r * w) w
    let l := x.1.flatten
    let m := ((extreme true l).map Prod.fst).getD canonNan
    (s.setVec n.val f.td r m, x.2.or (flagsOf false (l.any isNan32) false)))

/-- RSUM (R112). -/
def execRsum (n : Fin 1024) (ue : Bool) (s : State) : Out :=
  .next (s.runVec n.val 0x21 ue fun k => s.overLogical k.vq fun s r =>
    let f := k.vq
    let w := 2 ^ f.wlog
    let x := s.rows32 ((fmtOf f.afmt).getD .fp32) n.val f.ta (r * w) w
    let t := sum111 x.1
    (s.setVec n.val f.td r t.w, x.2.or t.flags))

/-- R113: row `i` of EXPS under the maximum `m`: the y of its elements and the flags. -/
def State.expsRow (s : State) (n : Nat) (f : VqF) (m : Word) (i : Nat) : List Word × Flags :=
  if m = negInf then (List.replicate 64 0, Flags.zero)
  else
    let x := s.row32 false ((fmtOf f.afmt).getD .fp32) n f.ta i
    let l := x.1.map fun w =>
      let d := fsub w m
      let y := tableFn .exp false d.w
      (y.w, d.flags.or y.flags)
    (l.map Prod.fst, x.2.or (Flags.any (l.map Prod.snd)))

/-- EXPS (R113). -/
def execExps (n : Fin 1024) (ue : Bool) (s : State) : Out :=
  .next (s.runVec n.val 0x22 ue fun k =>
    let f := k.vq
    let w := 2 ^ f.wlog
    ((List.range (f.r / w)).foldl (fun (a : VAcc) r =>
      let m := a.s.vecAt n.val f.tb r
      let b := (List.range w).foldl (fun (t : VAcc × List FRes) i =>
        let y := t.1.s.expsRow n.val f m (r * w + i)
        (({ t.1 with fl := t.1.fl.or y.2 }).emit n.val f (r * w + i) false (y.1.map fval), t.2 ++ [treeSum y.1])) (a, [])
      let q := runSum b.2
      { b.1 with s := b.1.s.setVec n.val f.te r q.w, fl := b.1.fl.or q.flags }) (VAcc.init s)).done n.val f)

/-- LNSTAT (R114). -/
def execLnstat (n : Fin 1024) (ue : Bool) (s : State) : Out :=
  .next (s.runVec n.val 0x23 ue fun k => s.overLogical k.vq fun s r =>
    let f := k.vq
    let w := 2 ^ f.wlog
    let x := s.rows32 ((fmtOf f.afmt).getD .fp32) n.val f.ta (r * w) w
    let t := sum111 x.1
    let mu : FRes := if f.rms then ⟨0, false, false⟩ else fmul t.w (recipN f.wlog)
    let fl0 := if f.rms then Flags.zero else t.flags.or mu.flags
    let sq := x.1.map fun row => row.map fun a =>
      let d : FRes := if f.rms then ⟨a, false, false⟩ else fsub a mu.w
      let q := fmul d.w d.w
      (q.w, d.flags.or q.flags)
    let v := sum111 (sq.map fun row => row.map Prod.fst)
    let v1 := fmul v.w (recipN f.wlog)
    let v2 := fadd v1.w k.sy
    let rho := tableFn .rsqrt false v2.w
    let fl := (((fl0.or (Flags.any (sq.flatten.map Prod.snd))).or v.flags).or v1.flags).or (v2.flags.or rho.flags)
    ((s.setVec n.val f.td r mu.w).setVec n.val f.te r rho.w, x.2.or fl))

/-- R114: row `i` of NORM. -/
def VAcc.normRow (a : VAcc) (n : Nat) (f : VqF) (i : Nat) : VAcc :=
  let w := 2 ^ f.wlog
  let r := i / w
  let mu := a.s.vecAt n f.tb r
  let rho := a.s.vecAt n f.tc r
  let x := a.s.row32 false ((fmtOf f.afmt).getD .fp32) n f.ta i
  let outs := x.1.zipIdx.map fun (v, c) =>
    let g := a.s.vecAt n f.te (64 * (i % w) + c)
    let b := a.s.vecAt n (f.te + (w + 15) / 16) (64 * (i % w) + c)
    let d := fsub v mu
    let t := fmul d.w rho
    let y := ffma t.w g b
    (fval y.w, (d.flags.or t.flags).or y.flags)
  ({ a with fl := (a.fl.or x.2).or (Flags.any (outs.map Prod.snd)) }).emit n f i false (outs.map Prod.fst)

/-- NORM (R114). -/
def execNorm (n : Fin 1024) (ue : Bool) (s : State) : Out :=
  .next (s.runVec n.val 0x24 ue fun k =>
    ((List.range k.vq.r).foldl (fun (a : VAcc) i => a.normRow n.val k.vq i) (VAcc.init s)).done n.val k.vq)

/-! ### Reductions to scalar (R110, R115, R116, R119) -/

/-- R119: the predicate a reduction names. -/
def State.redPred (s : State) (n : Nat) (f : VqF) (b : Bool) : State := if f.pen then s.setP n f.pp b else s

/-- The elements of a reduction's run as FP32, with the flags that reading them sets. -/
def State.redRun (s : State) (n : Nat) (f : VqF) : List (List Word) × Flags :=
  s.rows32 ((fmtOf f.afmt).getD .fp32) n f.ta 0 f.r

/-- An FP32 result in Sd and its predicate. -/
def State.redF (s : State) (n : Nat) (k : Cmd) (w : Word) : State :=
  (s.setS n k.vq.sd w).redPred n k.vq (pcondF k.vq.pcond w k.sx)

/-- A 64-bit result in Sd and Sd+1 and its predicate. -/
def State.redPair (s : State) (n : Nat) (k : Cmd) (lo hi : Word) : State :=
  let v := sxNat 64 (lo.toNat + 2 ^ 32 * hi.toNat)
  ((s.setS n k.vq.sd lo).setS n (k.vq.sd + 1) hi).redPred n k.vq (pcondI k.vq.pcond v k.sx.toInt)

/-- SUM_TO_SCALAR (R115). -/
def execSumToScalar (n : Fin 1024) (ue : Bool) (s : State) : Out :=
  .next (s.runVec n.val 0x30 ue fun k =>
    let x := s.redRun n.val k.vq
    let t := sum111 x.1
    (s.redF n.val k t.w, x.2.or t.flags))

/-- MAX and MIN to scalar. -/
def State.redExt (s : State) (n : Nat) (big : Bool) (k : Cmd) : State × Flags :=
  let x := s.redRun n k.vq
  let l := x.1.flatten
  (s.redF n k (((extreme big l).map Prod.fst).getD canonNan), x.2.or (flagsOf false (l.any isNan32) false))

/-- MAX_TO_SCALAR (R115). -/
def execMaxToScalar (n : Fin 1024) (ue : Bool) (s : State) : Out := .next (s.runVec n.val 0x31 ue (s.redExt n.val true))
/-- MIN_TO_SCALAR (R115). -/
def execMinToScalar (n : Fin 1024) (ue : Bool) (s : State) : Out := .next (s.runVec n.val 0x32 ue (s.redExt n.val false))

/-- ARGMAX (R115, R116). -/
def execArgmax (n : Fin 1024) (ue : Bool) (s : State) : Out :=
  .next (s.runVec n.val 0x33 ue fun k =>
    let x := s.redRun n.val k.vq
    let l := x.1.flatten
    let fl := x.2.or (flagsOf false (l.any isNan32) false)
    let e := extreme true l
    if k.vq.key then
      let q := match e with
        | some (w, i) => keyOf w (k.sy.toNat + i)
        | none => (0#32, 0x80000000#32)
      (s.redPair n.val k q.1 q.2, fl)
    else
      let w := match e with
        | some (_, i) => k.sy + BitVec.ofNat 32 i
        | none => 0xFFFFFFFF#32
      ((s.setS n.val k.vq.sd w).redPred n.val k.vq (pcondU k.vq.pcond w.toNat k.sx.toNat), fl))

/-- COUNT (R115). DESIGN CHOICE (log entry 73): a threshold that is NaN is satisfied by nothing and sets no NONFIN itself. -/
def execCount (n : Fin 1024) (ue : Bool) (s : State) : Out :=
  .next (s.runVec n.val 0x34 ue fun k =>
    let x := s.redRun n.val k.vq
    let l := x.1.flatten
    let w := BitVec.ofNat 32 (l.countP fun a => pcondF k.vq.cond a k.sy)
    ((s.setS n.val k.vq.sd w).redPred n.val k.vq (pcondU k.vq.pcond w.toNat k.sx.toNat),
      x.2.or (flagsOf false (l.any isNan32) false)))

/-- GSUM (R110): the record reports all four flags of the result, those of its operands included. DESIGN CHOICE (log entry
73): elements are added in rising order, each addition saturating; a SAT flag that only the operands carry sets
`VEC_STAT.SAT` and leaves the status OK. -/
def execGsum (n : Fin 1024) (ue : Bool) (s : State) : Out :=
  .next ((s.vecStop n.val 0x35 (s.gsumBad n.val)).getD
    (match s.issuedCmd n.val 1 0x35 with
    | none => s
    | some k =>
      if !s.cluRuns (n.val / 32) then s
      else
        let f := k.vq
        let r := (List.range (64 * f.r)).foldl (fun (t : Int × Bool) j =>
          let q := grainSat (t.1 + s.grainAt f.areg n.val f.ta j)
          (q.1, t.2 || q.2)) (0, false)
        let g := Flags.any (s.grainFlags f.areg n.val f.ta f.r)
        let v := (r.1 % (2 ^ 64 : Nat)).toNat
        let s := s.redPair n.val k (BitVec.ofNat 32 v) (BitVec.ofNat 32 (v / 2 ^ 32))
        let s := if ue then s.zeroReserved n.val k else s
        (s.ranCmd n.val k.id ((if r.2 then [Status.sat] else []) ++ if ue then [Status.ecc] else [])
          { g with sat := g.sat || r.2 } f.r).touch (n.val / 32)))

end Sys2Proof.Machine
end

