-- ==== Sys2Proof/Machine/Dispatch.lean ====
section
/-!
DEFINITION. The dispatch: one arm for each command of the table, each a direct call of its meaning.
-/

namespace Sys2Proof.Machine

def exec (i : Instr) (s : State) : Host.Outcome State Fault Refusal :=
  match i with
  | .alu ag d a b fn => Sys2Proof.Machine.execAlu ag d a b fn s
  | .fpu ag d a b fn => Sys2Proof.Machine.execFpu ag d a b fn s
  | .addi ag d a imm => Sys2Proof.Machine.execAddi ag d a imm s
  | .andi ag d a imm => Sys2Proof.Machine.execAndi ag d a imm s
  | .ori ag d a imm => Sys2Proof.Machine.execOri ag d a imm s
  | .xori ag d a imm => Sys2Proof.Machine.execXori ag d a imm s
  | .slti ag d a imm => Sys2Proof.Machine.execSlti ag d a imm s
  | .sltiu ag d a imm => Sys2Proof.Machine.execSltiu ag d a imm s
  | .shi ag d a imm => Sys2Proof.Machine.execShi ag d a imm s
  | .lui ag d a imm => Sys2Proof.Machine.execLui ag d a imm s
  | .lw ag d a imm => Sys2Proof.Machine.execLw ag d a imm s
  | .lhu ag d a imm => Sys2Proof.Machine.execLhu ag d a imm s
  | .lbu ag d a imm => Sys2Proof.Machine.execLbu ag d a imm s
  | .sw ag b a imm => Sys2Proof.Machine.execSw ag b a imm s
  | .sh ag b a imm => Sys2Proof.Machine.execSh ag b a imm s
  | .sb ag b a imm => Sys2Proof.Machine.execSb ag b a imm s
  | .la ag z ad a imm => Sys2Proof.Machine.execLa ag z ad a imm s
  | .sa ag z ab a imm => Sys2Proof.Machine.execSa ag z ab a imm s
  | .aop ag dst src1 b sh z fn => Sys2Proof.Machine.execAop ag dst src1 b sh z fn s
  | .aaddi ag z1 ad z0 aa imm => Sys2Proof.Machine.execAaddi ag z1 ad z0 aa imm s
  | .cmp ag z1 pd a b z0 cond => Sys2Proof.Machine.execCmp ag z1 pd a b z0 cond s
  | .cmpi ag cond pd a imm => Sys2Proof.Machine.execCmpi ag cond pd a imm s
  | .plog ag d a b fn => Sys2Proof.Machine.execPlog ag d a b fn s
  | .bp ag n pp z off => Sys2Proof.Machine.execBp ag n pp z off s
  | .bc ag n sel z off => Sys2Proof.Machine.execBc ag n sel z off s
  | .bflag ag n k ki flag off => Sys2Proof.Machine.execBflag ag n k ki flag off s
  | .bcmp ag cond a b off => Sys2Proof.Machine.execBcmp ag cond a b off s
  | .jal ag d off => Sys2Proof.Machine.execJal ag d off s
  | .jalr ag d a imm => Sys2Proof.Machine.execJalr ag d a imm s
  | .push ag q a ax ay x y u => Sys2Proof.Machine.execPush ag q a ax ay x y u s
  | .cpop ag d q z => Sys2Proof.Machine.execCpop ag d q z s
  | .waitq ag z1 q z0 n => Sys2Proof.Machine.execWaitq ag z1 q z0 n s
  | .strm ag m last aa b z => Sys2Proof.Machine.execStrm ag m last aa b z s
  | .sig ag t cn a b z => Sys2Proof.Machine.execSig ag t cn a b z s
  | .cwait ag z1 cn z0 imm => Sys2Proof.Machine.execCwait ag z1 cn z0 imm s
  | .csrr ag d z off => Sys2Proof.Machine.execCsrr ag d z off s
  | .csrw ag b z off => Sys2Proof.Machine.execCsrw ag b z off s
  | .rdtime ag d z => Sys2Proof.Machine.execRdtime ag d z s
  | .waitt ag z1 a z0 => Sys2Proof.Machine.execWaitt ag z1 a z0 s
  | .knote ag z1 a b z0 => Sys2Proof.Machine.execKnote ag z1 a b z0 s
  | .nop ag z arg => Sys2Proof.Machine.execNop ag z arg s
  | .halt ag z arg => Sys2Proof.Machine.execHalt ag z arg s
  | .ifence ag z arg => Sys2Proof.Machine.execIfence ag z arg s
  | .wdog ag z arg => Sys2Proof.Machine.execWdog ag z arg s
  | .clksel ag z arg => Sys2Proof.Machine.execClksel ag z arg s
  | .spush ag tq a ax ay x y u => Sys2Proof.Machine.execSpush ag tq a ax ay x y u s
  | .spop ag d z => Sys2Proof.Machine.execSpop ag d z s
  | .swaitq ag z n => Sys2Proof.Machine.execSwaitq ag z n s
  | .sstrm ag m last aa b z => Sys2Proof.Machine.execSstrm ag m last aa b z s
  | .ssig ag a b z => Sys2Proof.Machine.execSsig ag a b z s
  | .srecv ag d pp nb z => Sys2Proof.Machine.execSrecv ag d pp nb z s
  | .sres ag d pp nb z => Sys2Proof.Machine.execSres ag d pp nb z s
  | .sbc ag n sel z off => Sys2Proof.Machine.execSbc ag n sel z off s
  | .timedLaunch h q => Sys2Proof.Machine.execTimedLaunch h q s
  | .commandIssue h q => Sys2Proof.Machine.execCommandIssue h q s
  | .commandCompletion h q => Sys2Proof.Machine.execCommandCompletion h q s
  | .remoteResponseTimeout h q => Sys2Proof.Machine.execRemoteResponseTimeout h q s
  | .mqMul n bub ue => Sys2Proof.Machine.execMqMul n bub ue s
  | .l1 n bub ue => Sys2Proof.Machine.execL1 n bub ue s
  | .l2 n bub ue => Sys2Proof.Machine.execL2 n bub ue s
  | .cmpcount n bub ue => Sys2Proof.Machine.execCmpcount n bub ue s
  | .maxplus n bub ue => Sys2Proof.Machine.execMaxplus n bub ue s
  | .minplus n bub ue => Sys2Proof.Machine.execMinplus n bub ue s
  | .hamming n bub ue => Sys2Proof.Machine.execHamming n bub ue s
  | .weightLoad n => Sys2Proof.Machine.execWeightLoad n s
  | .arrayCold n => Sys2Proof.Machine.execArrayCold n s
  | .columnGroupEnable n => Sys2Proof.Machine.execColumnGroupEnable n s
  | .firstSlotAdmit n => Sys2Proof.Machine.execFirstSlotAdmit n s
  | .vqAdd n ue => Sys2Proof.Machine.execVqAdd n ue s
  | .vqSub n ue => Sys2Proof.Machine.execVqSub n ue s
  | .vqMul n ue => Sys2Proof.Machine.execVqMul n ue s
  | .fma n ue => Sys2Proof.Machine.execFma n ue s
  | .vqMax n ue => Sys2Proof.Machine.execVqMax n ue s
  | .vqMin n ue => Sys2Proof.Machine.execVqMin n ue s
  | .abs n ue => Sys2Proof.Machine.execAbs n ue s
  | .neg n ue => Sys2Proof.Machine.execNeg n ue s
  | .vqCmp n ue => Sys2Proof.Machine.execVqCmp n ue s
  | .sel n ue => Sys2Proof.Machine.execSel n ue s
  | .exp n ue => Sys2Proof.Machine.execExp n ue s
  | .exp2 n ue => Sys2Proof.Machine.execExp2 n ue s
  | .log n ue => Sys2Proof.Machine.execLog n ue s
  | .log2 n ue => Sys2Proof.Machine.execLog2 n ue s
  | .rsqrt n ue => Sys2Proof.Machine.execRsqrt n ue s
  | .recip n ue => Sys2Proof.Machine.execRecip n ue s
  | .cvt n ue => Sys2Proof.Machine.execCvt n ue s
  | .gadd n ue => Sys2Proof.Machine.execGadd n ue s
  | .grescale n ue => Sys2Proof.Machine.execGrescale n ue s
  | .rmax n ue => Sys2Proof.Machine.execRmax n ue s
  | .rsum n ue => Sys2Proof.Machine.execRsum n ue s
  | .exps n ue => Sys2Proof.Machine.execExps n ue s
  | .lnstat n ue => Sys2Proof.Machine.execLnstat n ue s
  | .norm n ue => Sys2Proof.Machine.execNorm n ue s
  | .sumToScalar n ue => Sys2Proof.Machine.execSumToScalar n ue s
  | .maxToScalar n ue => Sys2Proof.Machine.execMaxToScalar n ue s
  | .minToScalar n ue => Sys2Proof.Machine.execMinToScalar n ue s
  | .argmax n ue => Sys2Proof.Machine.execArgmax n ue s
  | .count n ue => Sys2Proof.Machine.execCount n ue s
  | .gsum n ue => Sys2Proof.Machine.execGsum n ue s
  | .walk h m bad ue => Sys2Proof.Machine.execWalk h m bad ue s
  | .gather h m bad ue => Sys2Proof.Machine.execGather h m bad ue s
  | .scatter h m bad ue => Sys2Proof.Machine.execScatter h m bad ue s
  | .append h m bad ue => Sys2Proof.Machine.execAppend h m bad ue s
  | .commit h m => Sys2Proof.Machine.execCommit h m s
  | .streamEntry h m bad ue => Sys2Proof.Machine.execStreamEntry h m bad ue s
  | .put n bad ue => Sys2Proof.Machine.execPut n bad ue s
  | .get n => Sys2Proof.Machine.execGet n s
  | .mcast n bad ue => Sys2Proof.Machine.execMcast n bad ue s
  | .sheaf n ue => Sys2Proof.Machine.execSheaf n ue s
  | .coreStart c => Sys2Proof.Machine.execCoreStart c s
  | .coreCredit c => Sys2Proof.Machine.execCoreCredit c s
  | .hres c => Sys2Proof.Machine.execHres c s
  | .href c n => Sys2Proof.Machine.execHref c n s
  | .gset c bad => Sys2Proof.Machine.execGset c bad s
  | .gclr c => Sys2Proof.Machine.execGclr c s
  | .sharm c => Sys2Proof.Machine.execSharm c s
  | .shcancel c => Sys2Proof.Machine.execShcancel c s
  | .mark c => Sys2Proof.Machine.execMark c s
  | .hint c => Sys2Proof.Machine.execHint c s
  | .creditArrival ki => Sys2Proof.Machine.execCreditArrival ki s
  | .inboxCredit ki => Sys2Proof.Machine.execInboxCredit ki s
  | .inboxArrive ki => Sys2Proof.Machine.execInboxArrive ki s
  | .inboxMail ki => Sys2Proof.Machine.execInboxMail ki s
  | .recordCopyArrival ki => Sys2Proof.Machine.execRecordCopyArrival ki s
  | .coreReportArrival ki => Sys2Proof.Machine.execCoreReportArrival ki s
  | .wakeAlarm c => Sys2Proof.Machine.execWakeAlarm c s
  | .watchdogExpiry h => Sys2Proof.Machine.execWatchdogExpiry h s
  | .imemWrite ki bad => Sys2Proof.Machine.execImemWrite ki bad s
  | .imemHoldTimeout h => Sys2Proof.Machine.execImemHoldTimeout h s
  | .read ki bad => Sys2Proof.Machine.execRead ki bad s
  | .write ki bad => Sys2Proof.Machine.execWrite ki bad s
  | .mgmt ki bad => Sys2Proof.Machine.execMgmt ki bad s
  | .rdata ki => Sys2Proof.Machine.execRdata ki s
  | .wack ki => Sys2Proof.Machine.execWack ki s
  | .mrsp ki => Sys2Proof.Machine.execMrsp ki s
  | .mcastLanding ki bad => Sys2Proof.Machine.execMcastLanding ki bad s
  | .mack ki => Sys2Proof.Machine.execMack ki s
  | .mcastStall f p g => Sys2Proof.Machine.execMcastStall f p g s
  | .linkReplay f side failed => Sys2Proof.Machine.execLinkReplay f side failed s
  | .escalation f => Sys2Proof.Machine.execEscalation f s
  | .sheafCombine ki j => Sys2Proof.Machine.execSheafCombine ki j s
  | .shfArm c ki => Sys2Proof.Machine.execShfArm c ki s
  | .sheafOpen c ki => Sys2Proof.Machine.execSheafOpen c ki s
  | .shfCancel c ki => Sys2Proof.Machine.execShfCancel c ki s
  | .sheafSegmentArrival ki => Sys2Proof.Machine.execSheafSegmentArrival ki s
  | .sheafTimeout c ki => Sys2Proof.Machine.execSheafTimeout c ki s
  | .sheafResultDelivery c => Sys2Proof.Machine.execSheafResultDelivery c s
  | .partitionReset p fin => Sys2Proof.Machine.execPartitionReset p fin s
  | .meshDrainEnd f => Sys2Proof.Machine.execMeshDrainEnd f s
  | .meshReturnDrainEnd f => Sys2Proof.Machine.execMeshReturnDrainEnd f s
  | .pathRecalibration u d => Sys2Proof.Machine.execPathRecalibration u d s
  | .beaconSend => Sys2Proof.Machine.execBeaconSend s
  | .beaconArrival u corr late => Sys2Proof.Machine.execBeaconArrival u corr late s
  | .beaconMiss u => Sys2Proof.Machine.execBeaconMiss u s
  | .copyFollow c => Sys2Proof.Machine.execCopyFollow c s
  | .oscCopyLoad c => Sys2Proof.Machine.execOscCopyLoad c s
  | .wrapsoon => Sys2Proof.Machine.execWrapsoon s
  | .dtimeWrap => Sys2Proof.Machine.execDtimeWrap s
  | .refLoss => Sys2Proof.Machine.execRefLoss s
  | .refReturn => Sys2Proof.Machine.execRefReturn s
  | .refRelock => Sys2Proof.Machine.execRefRelock s
  | .ptpSync m seq two t1 corr => Sys2Proof.Machine.execPtpSync m seq two t1 corr s
  | .ptpFollowUp m seq t1 corr => Sys2Proof.Machine.execPtpFollowUp m seq t1 corr s
  | .ptpDelayResp m t corr => Sys2Proof.Machine.execPtpDelayResp m t corr s
  | .pdelayReq m seq => Sys2Proof.Machine.execPdelayReq m seq s
  | .ptpLoss => Sys2Proof.Machine.execPtpLoss s
  | .ppsInEdge => Sys2Proof.Machine.execPpsInEdge s
  | .ppsOut => Sys2Proof.Machine.execPpsOut s
  | .tsyncSend l => Sys2Proof.Machine.execTsyncSend l s
  | .tsyncReceive l t2 t3 => Sys2Proof.Machine.execTsyncReceive l t2 t3 s
  | .electionKeySend => Sys2Proof.Machine.execElectionKeySend s
  | .electionKeyReceive l cls hold sys hops => Sys2Proof.Machine.execElectionKeyReceive l cls hold sys hops s
  | .parentLoss => Sys2Proof.Machine.execParentLoss s
  | .timeNowlRead => Sys2Proof.Machine.execTimeNowlRead s
  | .freqEvaluation c m => Sys2Proof.Machine.execFreqEvaluation c m s
  | .glideStepEnd c => Sys2Proof.Machine.execGlideStepEnd c s
  | .raiseConfirm c => Sys2Proof.Machine.execRaiseConfirm c s
  | .raiseTimeout c => Sys2Proof.Machine.execRaiseTimeout c s
  | .stretchEvent c => Sys2Proof.Machine.execStretchEvent c s
  | .crossingSlip f x => Sys2Proof.Machine.execCrossingSlip f x s
  | .crossingRecentre f x => Sys2Proof.Machine.execCrossingRecentre f x s
  | .forcedGap f x => Sys2Proof.Machine.execForcedGap f x s
  | .inputUndervoltage v => Sys2Proof.Machine.execInputUndervoltage v s
  | .inputUvClear v => Sys2Proof.Machine.execInputUvClear v s
  | .inputBelow42v v => Sys2Proof.Machine.execInputBelow42v v s
  | .vaonLoss => Sys2Proof.Machine.execVaonLoss s
  | .inputOvervoltage v => Sys2Proof.Machine.execInputOvervoltage v s
  | .inputAbove64v => Sys2Proof.Machine.execInputAbove64v s
  | .inputCurrentOver ki => Sys2Proof.Machine.execInputCurrentOver ki s
  | .inputCurrentTrip ki => Sys2Proof.Machine.execInputCurrentTrip ki s
  | .senseMinima f w e v => Sys2Proof.Machine.execSenseMinima f w e v s
  | .regulatorUpdate c head => Sys2Proof.Machine.execRegulatorUpdate c head s
  | .senseLoss f => Sys2Proof.Machine.execSenseLoss f s
  | .senseRestore f => Sys2Proof.Machine.execSenseRestore f s
  | .sliceFailure c sl ctrl => Sys2Proof.Machine.execSliceFailure c sl ctrl s
  | .brownout c => Sys2Proof.Machine.execBrownout c s
  | .kettleNoticeArrival c => Sys2Proof.Machine.execKettleNoticeArrival c s
  | .kettleAction f => Sys2Proof.Machine.execKettleAction f s
  | .kettleWindowEnd f => Sys2Proof.Machine.execKettleWindowEnd f s
  | .phasesOffline f => Sys2Proof.Machine.execPhasesOffline f s
  | .ocSample c amps => Sys2Proof.Machine.execOcSample c amps s
  | .ocResume c amps => Sys2Proof.Machine.execOcResume c amps s
  | .regOcRelease c => Sys2Proof.Machine.execRegOcRelease c s
  | .alertAssert ki => Sys2Proof.Machine.execAlertAssert ki s
  | .alertRelease => Sys2Proof.Machine.execAlertRelease s
  | .telemetryFrame pin vin temp rs => Sys2Proof.Machine.execTelemetryFrame pin vin temp rs s
  | .steepEntry c => Sys2Proof.Machine.execSteepEntry c s
  | .restEntry c => Sys2Proof.Machine.execRestEntry c s
  | .pstCtlRest c => Sys2Proof.Machine.execPstCtlRest c s
  | .pstCtlWake c => Sys2Proof.Machine.execPstCtlWake c s
  | .pstCtlOff c => Sys2Proof.Machine.execPstCtlOff c s
  | .pstCtlOn c => Sys2Proof.Machine.execPstCtlOn c s
  | .ticketRecheck c => Sys2Proof.Machine.execTicketRecheck c s
  | .neighbourThrottleEnd c => Sys2Proof.Machine.execNeighbourThrottleEnd c s
  | .restWakeReady c => Sys2Proof.Machine.execRestWakeReady c s
  | .pllLock c => Sys2Proof.Machine.execPllLock c s
  | .capEvaluation link mem cmp clu => Sys2Proof.Machine.execCapEvaluation link mem cmp clu s
  | .thermalSample clu fields => Sys2Proof.Machine.execThermalSample clu fields s
  | .pwrWarnLow => Sys2Proof.Machine.execPwrWarnLow s
  | .pwrWarnHigh => Sys2Proof.Machine.execPwrWarnHigh s
  | .keepwarmEntry cause => Sys2Proof.Machine.execKeepwarmEntry cause s
  | .deviceAbortEnd => Sys2Proof.Machine.execDeviceAbortEnd s
  | .kwEnter => Sys2Proof.Machine.execKwEnter s
  | .kwResume => Sys2Proof.Machine.execKwResume s
  | .keepwarmAutoResume => Sys2Proof.Machine.execKeepwarmAutoResume s
  | .powerGood rom ref => Sys2Proof.Machine.execPowerGood rom ref s
  | .resetAssert => Sys2Proof.Machine.execResetAssert s
  | .resetRelease rom ref => Sys2Proof.Machine.execResetRelease rom ref s
  | .bootClaim p => Sys2Proof.Machine.execBootClaim p s
  | .claimTimeout => Sys2Proof.Machine.execClaimTimeout s
  | .imageVerify meshOk wires ucie arrived rb => Sys2Proof.Machine.execImageVerify meshOk wires ucie arrived rb s
  | .startTestsEnd fails cols loft slices regs seqs trips => Sys2Proof.Machine.execStartTestsEnd fails cols loft slices regs seqs trips s
  | .testKernelTimeout c t p => Sys2Proof.Machine.execTestKernelTimeout c t p s
  | .servingReady up oct eth chans paths ok regs => Sys2Proof.Machine.execServingReady up oct eth chans paths ok regs s
  | .manifestCheck => Sys2Proof.Machine.execManifestCheck s
  | .winnowCopyLanding n => Sys2Proof.Machine.execWinnowCopyLanding n s
  | .witnessRun w errs => Sys2Proof.Machine.execWitnessRun w errs s
  | .winnowCompare w ue => Sys2Proof.Machine.execWinnowCompare w ue s
  | .sampleExpiry w => Sys2Proof.Machine.execSampleExpiry w s
  | .classificationVerdict w se we te ue => Sys2Proof.Machine.execClassificationVerdict w se we te ue s
  | .classificationTimeout w => Sys2Proof.Machine.execClassificationTimeout w s
  | .wnSeedWrite p v => Sys2Proof.Machine.execWnSeedWrite p v s
  | .wnCoreRetire n => Sys2Proof.Machine.execWnCoreRetire n s
  | .retirementRemap n => Sys2Proof.Machine.execRetirementRemap n s
  | .remapEnd n badA badB => Sys2Proof.Machine.execRemapEnd n badA badB s
  | .gleanWindow n ks fails => Sys2Proof.Machine.execGleanWindow n ks fails s
  | .gleanWindowEnd n => Sys2Proof.Machine.execGleanWindowEnd n s
  | .partCtlAbort p => Sys2Proof.Machine.execPartCtlAbort p s
  | .abortWriteoff p => Sys2Proof.Machine.execAbortWriteoff p s
  | .abortReconcile p => Sys2Proof.Machine.execAbortReconcile p s
  | .partCtlLedgerAudit p => Sys2Proof.Machine.execPartCtlLedgerAudit p s
  | .ledgerStatAudit => Sys2Proof.Machine.execLedgerStatAudit s
  | .auditVerdict p => Sys2Proof.Machine.execAuditVerdict p s
  | .collectorForward k room => Sys2Proof.Machine.execCollectorForward k room s
  | .coalescedRecordOut k => Sys2Proof.Machine.execCoalescedRecordOut k s
  | .evRinghWrite p v => Sys2Proof.Machine.execEvRinghWrite p v s
  | .evAlarmClear => Sys2Proof.Machine.execEvAlarmClear s
  | .ethFrameReceive len vid kind dport drop => Sys2Proof.Machine.execEthFrameReceive len vid kind dport drop s
  | .requestDatagram b v6 sport src d => Sys2Proof.Machine.execRequestDatagram b v6 sport src d s
  | .txIdxHeadWrite c head => Sys2Proof.Machine.execTxIdxHeadWrite c head s
  | .egressFrameSent c => Sys2Proof.Machine.execEgressFrameSent c s
  | .rdmaWrite q key addr d => Sys2Proof.Machine.execRdmaWrite q key addr d s
  | .rdmaRead q key addr len => Sys2Proof.Machine.execRdmaRead q key addr len s
  | .cnpReceive q => Sys2Proof.Machine.execCnpReceive q s
  | .cnpRecovery q => Sys2Proof.Machine.execCnpRecovery q s
  | .caddyOpen first rest => Sys2Proof.Machine.execCaddyOpen first rest s
  | .caddyCmd id seq ok op a => Sys2Proof.Machine.execCaddyCmd id seq ok op a s
  | .caddyClose id ok => Sys2Proof.Machine.execCaddyClose id ok s
  | .caddySessionTimeout id => Sys2Proof.Machine.execCaddySessionTimeout id s
  | .csrRead id seq ok offs => Sys2Proof.Machine.execCsrRead id seq ok offs s
  | .csrWrite id seq ok l => Sys2Proof.Machine.execCsrWrite id seq ok l s
  | .caddyAbort id seq ok p => Sys2Proof.Machine.execCaddyAbort id seq ok p s
  | .caddyKeepwarm id seq ok enter => Sys2Proof.Machine.execCaddyKeepwarm id seq ok enter s
  | .plimit id seq ok w => Sys2Proof.Machine.execPlimit id seq ok w s
  | .subscribe id seq ok cls tel => Sys2Proof.Machine.execSubscribe id seq ok cls tel s
  | .timeofday id seq ok sec ns => Sys2Proof.Machine.execTimeofday id seq ok sec ns s
  | .qp id seq ok sub qpn mtu => Sys2Proof.Machine.execQp id seq ok sub qpn mtu s
  | .region id seq ok reg base len rd wr => Sys2Proof.Machine.execRegion id seq ok reg base len rd wr s
  | .glean id seq ok off d => Sys2Proof.Machine.execGlean id seq ok off d s
  | .flashBegin id seq ok len => Sys2Proof.Machine.execFlashBegin id seq ok len s
  | .dataOp id seq ok off d => Sys2Proof.Machine.execDataOp id seq ok off d s
  | .flashEnd id seq ok => Sys2Proof.Machine.execFlashEnd id seq ok s
  | .restart id seq ok stream len => Sys2Proof.Machine.execRestart id seq ok stream len s
  | .cancel id seq ok => Sys2Proof.Machine.execCancel id seq ok s
  | .streamDataTimeout => Sys2Proof.Machine.execStreamDataTimeout s
  | .quote id seq ok nonce => Sys2Proof.Machine.execQuote id seq ok nonce s
  | .octoonBlockReceive l good seq ack nack credits ps => Sys2Proof.Machine.execOctoonBlockReceive l good seq ack nack credits ps s
  | .linkRetrainEnd l width => Sys2Proof.Machine.execLinkRetrainEnd l width s
  | .linkUnavailableAbsorb l => Sys2Proof.Machine.execLinkUnavailableAbsorb l s
  | .octoonPacketRoute ki => Sys2Proof.Machine.execOctoonPacketRoute ki s
  | .remotePut c k => Sys2Proof.Machine.execRemotePut c k s
  | .remoteGet c k => Sys2Proof.Machine.execRemoteGet c k s
  | .remoteSheaf c k => Sys2Proof.Machine.execRemoteSheaf c k s
  | .remoteCredit c k => Sys2Proof.Machine.execRemoteCredit c k s
  | .remoteSlotTimeout c k => Sys2Proof.Machine.execRemoteSlotTimeout c k s
  | .load host c k bad retries => Sys2Proof.Machine.execLoad host c k bad retries s
  | .store host c k fails => Sys2Proof.Machine.execStore host c k fails s
  | .create host c k => Sys2Proof.Machine.execCreate host c k s
  | .seal host c k => Sys2Proof.Machine.execSeal host c k s
  | .delete host c k => Sys2Proof.Machine.execDelete host c k s
  | .infoOp host c k => Sys2Proof.Machine.execInfoOp host c k s
  | .nandReadyTimeout host c k ch => Sys2Proof.Machine.execNandReadyTimeout host c k ch s
  | .blockScrub ch tgt blk temp soft reloc => Sys2Proof.Machine.execBlockScrub ch tgt blk temp soft reloc s
  | .blockErase ch tgt blk ok => Sys2Proof.Machine.execBlockErase ch tgt blk ok s
  | .journalCheckpoint => Sys2Proof.Machine.execJournalCheckpoint s
  | .barnRebuild => Sys2Proof.Machine.execBarnRebuild s
  | .barnRebuildEnd => Sys2Proof.Machine.execBarnRebuildEnd s
  | .hbmTemperatureRead st temp => Sys2Proof.Machine.execHbmTemperatureRead st temp s
  | .hbmEccReport st ce odecc ue => Sys2Proof.Machine.execHbmEccReport st ce odecc ue s
  | .refreshManagement st => Sys2Proof.Machine.execRefreshManagement st s
  | .granaryScrub c off ce ue last => Sys2Proof.Machine.execGranaryScrub c off ce ue last s
  | .seqCtlStart c entry => Sys2Proof.Machine.execSeqCtlStart c entry s
  | .seqBarArrive c b => Sys2Proof.Machine.execSeqBarArrive c b s
  | .apBaselWrite n m a v => Sys2Proof.Machine.execApBaselWrite n m a v s
  | .apBasehWrite n m a v => Sys2Proof.Machine.execApBasehWrite n m a v s
  | .apLimitWrite n m a v => Sys2Proof.Machine.execApLimitWrite n m a v s
  | .apStepWrite n m a v => Sys2Proof.Machine.execApStepWrite n m a v s
  | .apCommitWrite n m a v => Sys2Proof.Machine.execApCommitWrite n m a v s
  | .clkCtlWrite c mhz => Sys2Proof.Machine.execClkCtlWrite c mhz s
  | .hbmMapWrite v => Sys2Proof.Machine.execHbmMapWrite v s
  | .registerWrite off v => Sys2Proof.Machine.execRegisterWrite off v s
  | .i3cRead off n => Sys2Proof.Machine.execI3cRead off n s
  | .i3cDynamicAddress da => Sys2Proof.Machine.execI3cDynamicAddress da s
  | .i3cEnter => Sys2Proof.Machine.execI3cEnter s
  | .i3cResume => Sys2Proof.Machine.execI3cResume s
  | .i3cAlarmClear => Sys2Proof.Machine.execI3cAlarmClear s
  | .waittTimeReached h => Sys2Proof.Machine.execWaittTimeReached h s
  | .vc0BucketRefill b => Sys2Proof.Machine.execVc0BucketRefill b s
  | .hresEnd c => Sys2Proof.Machine.execHresEnd c s
  | .hintEnd f => Sys2Proof.Machine.execHintEnd f s
  | .kettleWindowStart c => Sys2Proof.Machine.execKettleWindowStart c s
  | .ppsInLoss => Sys2Proof.Machine.execPpsInLoss s
  | .ptpAnnounce p1 cls acc var p2 m steps => Sys2Proof.Machine.execPtpAnnounce p1 cls acc var p2 m steps s
  | .pdelayResp m t1 far t4 => Sys2Proof.Machine.execPdelayResp m t1 far t4 s
  | .ethTrainingComplete lanes up => Sys2Proof.Machine.execEthTrainingComplete lanes up s
  | .ethInterfaceTryTimeout => Sys2Proof.Machine.execEthInterfaceTryTimeout s
  | .nandOperationComplete kind ch tgt blk ok retries => Sys2Proof.Machine.execNandOperationComplete kind ch tgt blk ok retries s
  | .blankMediumFormatEnd l => Sys2Proof.Machine.execBlankMediumFormatEnd l s
  | .vaonRise => Sys2Proof.Machine.execVaonRise s
  | .chargeExpiry n => Sys2Proof.Machine.execChargeExpiry n s

end Sys2Proof.Machine
end

