-- ==== Sys2Proof/Machine/Tick.lean ====
section
/-!
DEFINITION. What happens while no command waits.
-/

namespace Sys2Proof.Machine

/-- The agent of a control core. -/
def agentOf (h : Nat) : Agent := if x : h < 1024 then .core ⟨h, x⟩ else .seq (Fin.ofNat 32 (h - 1024))

/-- R126, R150: a control core whose next word has an unlisted opcode or function raises ILLEGAL. The table has a row for every
listed instruction and none for such a word (log entry 10). -/
def State.fetchIllegal (s : State) (h : Nat) : State :=
  let pc := (s.hart h).pc
  if s.canIssue h && (s.hart h).stall.isNone && pc < imemTop h && pc % 4 = 0 && !s.poisoned (hartImem h pc) 4
      && (decodeTcs (agentOf h) (s.rd32 (hartImem h pc))).isNone then
    (s.clkInt h).exc h 1 pc
  else s

/-- R4, R250: the mesh cycles of 0.8 ns that end between two times. -/
def meshCycles (t u : Nat) : Nat := u * 5 / (4 * nsU) - t * 5 / (4 * nsU)

/-- R210, R248: ports with transactions to take again send on. -/
def State.portsGo (s : State) : State :=
  s.harts.foldl (fun t (e : Nat × Hart) => if (t.portNext e.1).isSome then t.grantTxns e.1 128 else t) s

/-- DTIME counts 1 ns (R284, R286), the routers by as many cycles, Octoon links send their blocks (R458), the Ethernet port
a frame (R441), every stalled instruction tries again (R137), a word without a
row is refused (R126), and a written REST or OFF whose cluster is idle takes effect (R356, R361) (log entry 10). -/
def State.tick (s : State) : State :=
  let d := s.dtime
  let s := s.count
  let s := (s.meshWhile (fun _ => true) (meshCycles d s.dtime)).portsGo
  let s := ((List.range 16).foldl (fun t l => t.octGo l) s).sendFrame
  let s := (List.range 1056).foldl (fun t h => t.retry h) s
  let s := s.harts.foldl (fun t (e : Nat × Hart) => t.fetchIllegal e.1) s
  (List.range 32).foldl (fun t c => t.wantDone c) s

end Sys2Proof.Machine
end

