-- ==== Sys2Proof/Safety.lean ====
section
/-!
DEFINITION. The words the statements use: what it takes for a control core to issue an instruction, what an instruction
leaves behind when it retires, what a frame is, and the invariants.
-/

namespace Sys2Proof.Safety

open Sys2Proof Sys2Proof.Machine

/-! ### Invariants -/

/-- The memory is in its one form: addresses rising and no byte listed that reads as 0 without being listed. -/
def memWf (s : State) : Bool := Store.canon 0 s.mem

/-! ### Instructions of a control core -/

/-- Control core `h` can issue an instruction and fetches it without fault (R137, R148, R150, R355). -/
def ready (s : State) (h : Nat) : Prop :=
  (s.hart h).stall = none ∧ s.canIssue h = true ∧ (s.hart h).pc < imemTop h ∧ (s.hart h).pc % 4 = 0 ∧
    s.poisoned (hartImem h (s.hart h).pc) 4 = false

/-- None of the scalar registers is reserved (R117). -/
def unres (s : State) (h : Nat) (l : List Nat) : Prop := ∀ r ∈ l, r ≠ 0 → s.reservedS h r = false

/-- None of the predicates is reserved (R119). -/
def unresP (s : State) (h : Nat) (l : List Nat) : Prop := ∀ p ∈ l, p ≠ 0 → s.reservedP h p = false

/-- R155: issuing on the oscillator sets `CC_FSUM.CLKINT`. -/
def fetched (s : State) (h : Nat) : State :=
  if s.on (CLK_STAT_SRC (hartClu h)) then s.setF (CC_FSUM_CLKINT h) 1 else s

/-- The instruction at the program counter of `s` has retired with the effects of `t`: the next one is the next word. -/
def retires (s : State) (h : Nat) (t : State) : State := t.retired h ((s.hart h).pc + 4)

/-- It waits: nothing but the note that it does (R137). -/
def waits (s : State) (h : Nat) (i : Instr) : State := (fetched s h).stallOn h i

/-- Every byte of memory reads as before. -/
def memSame (s t : State) : Prop := ∀ a, t.rd a = s.rd a

/-- The bytes `l` stand at `a`, and every other byte reads as before. -/
def memStores (s t : State) (a : Nat) (l : List Byte) : Prop :=
  ∀ x, t.rd x = if a ≤ x ∧ x < a + l.length then l.getD (x - a) 0 else s.rd x

/-- The tiles, scale planes and grains are as before. -/
def tensorSame (s t : State) : Prop := t.tiles = s.tiles ∧ t.planes = s.planes ∧ t.grains = s.grains

/-- Every register field but those of the list reads as before. -/
def fieldsSame (s t : State) (l : List Fd) : Prop := ∀ d : Fd, d.key ∉ l.map Fd.key → t.f d = s.f d

/-- What an instruction of control core `h` leaves as it was, but for scalar registers `ds`, address registers `as`,
predicates `ps` and register fields `fs`: S, A and P registers, queues, records and address queues, every other control core,
tiles and grains, and the register fields; `CC_FSUM.CLKINT` is set on the oscillator (R155). -/
def instrFrame (s t : State) (h : Nat) (ds as ps : List Nat) (fs : List Fd) : Prop :=
  (∀ r, r ∉ ds ∨ r = 0 → t.sreg h r = s.sreg h r) ∧ (∀ r, r ∉ as → t.areg h r = s.areg h r) ∧
  (∀ p, p ∉ ps ∨ p = 0 → t.pred h p = s.pred h p) ∧
  (t.hart h).cmds = (s.hart h).cmds ∧ (t.hart h).recs = (s.hart h).recs ∧ (t.hart h).aq = (s.hart h).aq ∧
  (∀ g, g ≠ h → t.hart g = s.hart g) ∧ tensorSame s t ∧ fieldsSame s t (CC_FSUM_CLKINT h :: fs) ∧
  t.pending = s.pending

/-! ### Commands of the engines -/

/-- Command `k` of control core `h` has run, and no other command changed: its phase, its RESULT, and `more`, the statuses
that the run added. -/
def hasRun (s t : State) (h : Nat) (k : Cmd) (result : Nat) (more : List Status) : Prop :=
  ∃ g : Flags, (t.hart h).cmds = (s.hart h).cmds.map fun e =>
    if e.id = k.id then { e with phase := .ran, result := result, sts := e.sts ++ more, flags := g } else e

/-- What a command of core `n`'s own engines leaves: memory, every other control core, address registers, program counter,
stall, records, address queues and the queue of commands. -/
def engineFrame (s t : State) (n : Nat) : Prop :=
  memSame s t ∧ (∀ g, g ≠ n → t.hart g = s.hart g) ∧ (t.hart n).aregs = (s.hart n).aregs ∧ (t.hart n).pc = (s.hart n).pc ∧
    (t.hart n).stall = (s.hart n).stall ∧ (t.hart n).recs = (s.hart n).recs ∧ (t.hart n).aq = (s.hart n).aq ∧
    t.pending = s.pending

/-- The same of a matrix pass, which may leave a sample in slot W of one other core (R408). -/
def passFrame (s t : State) (n : Nat) : Prop :=
  memSame s t ∧ (∀ g, g ≠ n → t.hart g = s.hart g ∨
      ∃ x, t.hart g = { s.hart g with slotW := some x, witRows := [], witFlags := none }) ∧
    (t.hart n).aregs = (s.hart n).aregs ∧ (t.hart n).pc = (s.hart n).pc ∧ (t.hart n).stall = (s.hart n).stall ∧
    (t.hart n).recs = (s.hart n).recs ∧ (t.hart n).aq = (s.hart n).aq ∧ t.pending = s.pending

/-- The oldest issued command of opcode `op` in queue `q`, in a cluster whose clocks run, with its id its own. -/
def atWork (s : State) (n q op : Nat) (k : Cmd) : Prop :=
  s.issuedCmd n q op = some k ∧ s.cluRuns (n / 32) = true ∧ ∀ e ∈ (s.hart n).cmds, e.id = k.id → e = k

/-! ### Flits -/

/-- From `s` to `t`, flit `fl` entered the mesh from local port `pl`, or waits there behind the port's buckets (R251), and no other
flit did. -/
def sends (s t : State) (pl : Nat) (fl : Flit) : Prop :=
  t.flits = s.flits ++ [ ⟨s.net.next, pl, fl⟩] ∨
    t.flits = s.flits ∧ (t.vport pl).queue = (s.vport pl).queue ++ [ fl]

/-- The command for the arrival of flit `fl` as number `i`, with the cluster it goes to (R324, R312, R326). -/
def arrivalRow (i : Nat) : Flit → Instr × Nat
  | .credit _ n _ _ => (.creditArrival i, n / 32)
  | .inbox _ c w _ => (if wbits w 30 2 = 0 then .inboxCredit i else if wbits w 30 2 = 1 then .inboxArrive i else .inboxMail i, c)
  | .copy c _ => (.recordCopyArrival i, c)
  | .halt n _ => (.coreReportArrival i, n / 32)
  | .exc n _ => (.coreReportArrival i, n / 32)

end Sys2Proof.Safety
end

