-- ==== Sys2Proof/Certificates/Slice0/Obligations.lean ====
section
/-!
DEFINITION. The statements about the model, for the provers. Each says what commands do in the words of Safety.lean and of
the model's reading operations.
-/

open Sys2Proof Sys2Proof.Machine Sys2Proof.Safety

/-- The completion and result of ALU, FPU, ADDI, ANDI, ORI, XORI, SLTI, SLTIU, SHI and LUI (R127–R130). The ALU's functions are
the subject of AluFunctions; FPU answers the model's reading of R106 (fpuFn). -/
def Obligations.ScalarResults : Prop :=
  ∀ (ag : Agent) (d a b : BitVec 5) (fn : BitVec 11) (imm : BitVec 16) (s : State),
    ready s ag.hart → unres s ag.hart [ d.toNat, a.toNat, b.toNat] →
    let h := ag.hart
    let x := s.sreg h a.toNat
    let y := s.sreg h b.toNat
    let wr (v : Word) : State := retires s h ((fetched s h).setS h d.toNat v)
    ((Instr.alu ag d a b fn).wf = true → (fn.toNat % 32 = 0x11 → unresP s h [ fn.toNat / 256]) →
      exec (.alu ag d a b fn) s = .next (wr (aluFn (fn.toNat % 32) (s.pred h (fn.toNat / 256)) x y))) ∧
    ((Instr.fpu ag d a b fn).wf = true → exec (.fpu ag d a b fn) s = .next (wr (fpuFn fn.toNat x y))) ∧
    exec (.addi ag d a imm) s = .next (wr (x + imm.signExtend 32)) ∧
    exec (.andi ag d a imm) s = .next (wr (x &&& imm.zeroExtend 32)) ∧
    exec (.ori ag d a imm) s = .next (wr (x ||| imm.zeroExtend 32)) ∧
    exec (.xori ag d a imm) s = .next (wr (x ^^^ imm.zeroExtend 32)) ∧
    exec (.slti ag d a imm) s = .next (wr (if x.toInt < imm.toInt then 1 else 0)) ∧
    exec (.sltiu ag d a imm) s = .next (wr (if x.toNat < (imm.signExtend 32).toNat then 1 else 0)) ∧
    (imm.toNat / 32 = 0 → exec (.shi ag d a imm) s = .next (wr (x <<< (imm.toNat % 32)))) ∧
    (imm.toNat / 32 = 1 → exec (.shi ag d a imm) s = .next (wr (x >>> (imm.toNat % 32)))) ∧
    (imm.toNat / 32 = 2 → exec (.shi ag d a imm) s = .next (wr (x.sshiftRight (imm.toNat % 32)))) ∧
    exec (.lui ag d 0 imm) s = .next (wr (imm ++ 0#16))

/-- The frame of the instructions whose one destination is a scalar register: ALU, FPU, ADDI, ANDI, ORI, XORI, SLTI, SLTIU, SHI,
LUI, LW, LHU and LBU. It holds for d = 0 too, where nothing is written (R124), and for an instruction that stalls. -/
def Obligations.ScalarFrame : Prop :=
  ∀ (ag : Agent) (d a b : BitVec 5) (fn : BitVec 11) (imm : BitVec 16) (s t : State) (i : Instr),
    ready s ag.hart → i.wf = true →
    i ∈ [ Instr.alu ag d a b fn, .fpu ag d a b fn, .addi ag d a imm, .andi ag d a imm, .ori ag d a imm, .xori ag d a imm,
      .slti ag d a imm, .sltiu ag d a imm, .shi ag d a imm, .lui ag d a imm] ∨
    (i ∈ [ Instr.lw ag d a imm, .lhu ag d a imm, .lbu ag d a imm] ∧
      s.ea ag.hart a.toNat imm % 4 = 0 ∧ s.ea ag.hart a.toNat imm < dmemTop ag.hart ∧ s.poison = []) →
    exec i s = .next t → instrFrame s t ag.hart [ d.toNat] [] [] [] ∧ memSame s t

/-- R129, the ALU table: every function as an integer value, and the legal function codes. -/
def Obligations.AluFunctions : Prop :=
  (∀ (p : Bool) (a b : Word),
    (aluFn 0x00 p a b).toNat = (a.toNat + b.toNat) % 2 ^ 32 ∧
    (aluFn 0x01 p a b).toNat = (a.toNat + 2 ^ 32 - b.toNat) % 2 ^ 32 ∧
    (∀ i, (aluFn 0x02 p a b).getLsbD i = (a.getLsbD i && b.getLsbD i)) ∧
    (∀ i, (aluFn 0x03 p a b).getLsbD i = (a.getLsbD i || b.getLsbD i)) ∧
    (∀ i, (aluFn 0x04 p a b).getLsbD i = (a.getLsbD i != b.getLsbD i)) ∧
    (aluFn 0x05 p a b).toNat = a.toNat * 2 ^ (b.toNat % 32) % 2 ^ 32 ∧
    (aluFn 0x06 p a b).toNat = a.toNat / 2 ^ (b.toNat % 32) ∧
    (aluFn 0x07 p a b).toInt = a.toInt / 2 ^ (b.toNat % 32) ∧
    aluFn 0x08 p a b = (if a.toInt < b.toInt then 1 else 0) ∧
    aluFn 0x09 p a b = (if a.toNat < b.toNat then 1 else 0) ∧
    (aluFn 0x0A p a b).toNat = a.toNat * b.toNat % 2 ^ 32 ∧
    (aluFn 0x0B p a b).toInt = a.toInt * b.toInt / 2 ^ 32 ∧
    (aluFn 0x0C p a b).toNat = a.toNat * b.toNat / 2 ^ 32 ∧
    (aluFn 0x0D p a b).toInt = min a.toInt b.toInt ∧
    (aluFn 0x0E p a b).toInt = max a.toInt b.toInt ∧
    (aluFn 0x0F p a b).toNat = min a.toNat b.toNat ∧
    (aluFn 0x10 p a b).toNat = max a.toNat b.toNat ∧
    aluFn 0x11 p a b = (if p then a else b) ∧
    ((aluFn 0x12 p a b).toNat ≤ 32 ∧ a.toNat < 2 ^ (32 - (aluFn 0x12 p a b).toNat) ∧
      ((aluFn 0x12 p a b).toNat < 32 → 2 ^ (31 - (aluFn 0x12 p a b).toNat) ≤ a.toNat)) ∧
    (aluFn 0x13 p a b).toNat = ((List.range 32).map fun i => a.toNat / 2 ^ i % 2).sum) ∧
  ∀ (ag : Agent) (d a b : BitVec 5) (fn : BitVec 11), (Instr.alu ag d a b fn).wf = true ↔
    fn.toNat % 32 ≤ 0x13 ∧ fn.toNat / 32 % 8 = 0 ∧ (fn.toNat % 32 ≠ 0x11 → fn.toNat / 256 = 0) ∧
      ((fn.toNat % 32 = 0x12 ∨ fn.toNat % 32 = 0x13) → b = 0)

/-- Completion and result of LW, LHU, LBU and LA (R128). The address is Sa plus the sign-extended immediate. -/
def Obligations.LoadsReadBytes : Prop :=
  ∀ (ag : Agent) (d a : BitVec 5) (ad : BitVec 4) (imm : BitVec 16) (s : State),
    ready s ag.hart → unres s ag.hart [ d.toNat, a.toNat] →
    let h := ag.hart
    let e := (s.sreg h a.toNat + imm.signExtend 32).toNat
    let m := hartDmem h e
    let wr (v : Word) : State := retires s h ((fetched s h).setS h d.toNat v)
    (e % 4 = 0 → e < dmemTop h → s.poisoned m 4 = false →
      exec (.lw ag d a imm) s = .next (wr (s.rd (m + 3) ++ s.rd (m + 2) ++ s.rd (m + 1) ++ s.rd m))) ∧
    (e % 2 = 0 → e < dmemTop h → s.poisoned m 2 = false →
      exec (.lhu ag d a imm) s = .next (wr (0#16 ++ s.rd (m + 1) ++ s.rd m))) ∧
    (e < dmemTop h → s.poisoned m 1 = false → exec (.lbu ag d a imm) s = .next (wr (0#24 ++ s.rd m))) ∧
    (e % 8 = 0 → e < dmemTop h → s.poisoned m 8 = false →
      exec (.la ag 0 ad a imm) s = .next (retires s h ((fetched s h).setA h ad.toNat
        (s.rd (m + 5) ++ s.rd (m + 4) ++ s.rd (m + 3) ++ s.rd (m + 2) ++ s.rd (m + 1) ++ s.rd m))))

/-- Completion, result and frame of SW, SH, SB and SA (R128, R228). `m` is the device address that the meaning computes for data
memory; the bytes stored are those of the form's width from `m` on. -/
def Obligations.StoresWriteBytes : Prop :=
  ∀ (ag : Agent) (b a : BitVec 5) (ab : BitVec 4) (imm : BitVec 16) (s : State),
    ready s ag.hart → unres s ag.hart [ b.toNat, a.toNat] →
    let h := ag.hart
    let e := (s.sreg h a.toNat + imm.signExtend 32).toNat
    let m := hartDmem h e
    let v := s.sreg h b.toNat
    let w := s.areg h ab.toNat
    let fits (n : Nat) : Prop := e % n = 0 ∧ e < dmemTop h ∧ s.poisoned m n = false
    let done (t : State) (l : List Byte) : Prop := memStores s t m l ∧ instrFrame s t h [] [] [] [] ∧
      (t.hart h).pc = (s.hart h).pc + 4 ∧ (t.hart h).stall = none
    (fits 4 → ∃ t, exec (.sw ag b a imm) s = .next t ∧
      done t [ v.extractLsb' 0 8, v.extractLsb' 8 8, v.extractLsb' 16 8, v.extractLsb' 24 8]) ∧
    (fits 2 → ∃ t, exec (.sh ag b a imm) s = .next t ∧ done t [ v.extractLsb' 0 8, v.extractLsb' 8 8]) ∧
    (fits 1 → ∃ t, exec (.sb ag b a imm) s = .next t ∧ done t [ v.extractLsb' 0 8]) ∧
    (fits 8 → ∃ t, exec (.sa ag 0 ab a imm) s = .next t ∧
      done t [ w.extractLsb' 0 8, w.extractLsb' 8 8, w.extractLsb' 16 8, w.extractLsb' 24 8,
        w.extractLsb' 32 8, w.extractLsb' 40 8, 0, 0])

/-- Completion and result of AOP, AADDI, CMP, CMPI and PLOG (R128, R131–R133). Comparison codes 6 to 9 compare as FP32 (valLt, valEq);
PSET leaves P0. -/
def Obligations.AddressAndPredicateResults : Prop :=
  ∀ (ag : Agent) (dst b d a k : BitVec 5) (ad aa : BitVec 4) (pd pa pb : BitVec 3) (cond : BitVec 4) (imm : BitVec 16)
    (im : BitVec 14) (s : State), ready s ag.hart → unres s ag.hart [ dst.toNat, b.toNat, d.toNat, a.toNat] →
    unresP s ag.hart (List.range 8) →
    let h := ag.hart
    let u := fetched s h
    let S (r : BitVec 5) : Word := s.sreg h r.toNat
    let A (r : BitVec 4) : Off48 := s.areg h r.toNat
    let P (r : BitVec 3) : Bool := s.pred h r.toNat
    let ok (t : State) : Out := .next (retires s h t)
    let five (r : BitVec 4) : BitVec 5 := r.zeroExtend 5
    let three (r : BitVec 3) : BitVec 5 := r.zeroExtend 5
    exec (.aop ag (five ad) (five aa) b k 0 0) s = ok (u.setA h ad.toNat (A aa + ((S b).signExtend 48 <<< k.toNat))) ∧
    exec (.aop ag (five ad) a b 0 0 1) s = ok (u.setA h ad.toNat ((S b).extractLsb' 0 16 ++ S a)) ∧
    exec (.aop ag dst (five aa) 0 0 0 2) s = ok (u.setS h dst.toNat ((A aa).extractLsb' 0 32)) ∧
    exec (.aop ag dst (five aa) 0 0 0 3) s = ok (u.setS h dst.toNat (0#16 ++ (A aa).extractLsb' 32 16)) ∧
    exec (.aop ag (five ad) (five aa) 0 0 0 4) s = ok (u.setA h ad.toNat (A aa)) ∧
    exec (.aaddi ag 0 ad 0 aa imm) s = ok (u.setA h ad.toNat (A aa + imm.signExtend 48)) ∧
    (∀ r, cmpCode cond.toNat (S a) (S b) = some r → exec (.cmp ag 0 pd a b 0 cond) s = ok (u.setP h pd.toNat r)) ∧
    (∀ r, cond.toNat ≤ 5 → cmpCode cond.toNat (S a) (im.signExtend 32) = some r →
      exec (.cmpi ag cond pd a im) s = ok (u.setP h pd.toNat r)) ∧
    exec (.plog ag (three pd) (three pa) (three pb) 0) s = ok (u.setP h pd.toNat (P pa && P pb)) ∧
    exec (.plog ag (three pd) (three pa) (three pb) 1) s = ok (u.setP h pd.toNat (P pa || P pb)) ∧
    exec (.plog ag (three pd) (three pa) (three pb) 2) s = ok (u.setP h pd.toNat (P pa != P pb)) ∧
    exec (.plog ag (three pd) (three pa) (three pb) 3) s = ok (u.setP h pd.toNat (P pa && !P pb)) ∧
    (∃ v : Word, exec (.plog ag d 0 0 4) s = ok (u.setS h d.toNat v) ∧
      ∀ i, v.getLsbD i = (decide (i < 8) && s.pred h i)) ∧
    (∃ t, exec (.plog ag 0 a 0 5) s = .next t ∧ (t.hart h).pc = (s.hart h).pc + 4 ∧
      (∀ p, 1 ≤ p → p < 8 → t.pred h p = (S a).getLsbD p) ∧ instrFrame s t h [] [] (List.range 8) [] ∧ memSame s t)

/-- R132 over the codes: 0 to 5 as integers; 6 to 9 on FP32 values (fval, R39), with FEQ of −0 and +0 true and every code but FUN
false beside a NaN; and which codes are ILLEGAL. -/
def Obligations.ComparisonCodes : Prop :=
  (∀ a b : Word,
    cmpCode 0 a b = some (decide (a.toNat = b.toNat)) ∧ cmpCode 1 a b = some (decide (a.toNat ≠ b.toNat)) ∧
    cmpCode 2 a b = some (decide (a.toInt < b.toInt)) ∧ cmpCode 3 a b = some (decide (b.toInt ≤ a.toInt)) ∧
    cmpCode 4 a b = some (decide (a.toNat < b.toNat)) ∧ cmpCode 5 a b = some (decide (b.toNat ≤ a.toNat)) ∧
    (isNan32 a = true ∨ isNan32 b = true →
      cmpCode 6 a b = some false ∧ cmpCode 7 a b = some false ∧ cmpCode 8 a b = some false ∧ cmpCode 9 a b = some true) ∧
    (isNan32 a = false ∧ isNan32 b = false → cmpCode 9 a b = some false) ∧
    (isNan32 a = true ↔ a.toNat / 2 ^ 23 % 256 = 255 ∧ a.toNat % 2 ^ 23 ≠ 0)) ∧
  cmpCode 6 0x80000000 0 = some true ∧
  ∀ (ag : Agent) (pd : BitVec 3) (a b : BitVec 5) (c : BitVec 4) (im : BitVec 14),
    ((Instr.cmp ag 0 pd a b 0 c).wf = true ↔ c.toNat ≤ 9) ∧ ((Instr.cmpi ag c pd a im).wf = true ↔ c.toNat ≤ 5)

/-- Completion of BP, BC, BFLAG, BCMP, SBC, JAL and JALR (R127, R128, R134–R136, R311). A target is the branch's own address plus 4 times the
signed offset, modulo 2^32; the conditions of BC, BFLAG and SBC are the model's tables (bcCond, sbcCond). -/
def Obligations.BranchesAndJumps : Prop :=
  ∀ (ag : Agent) (n k : BitVec 1) (pp : BitVec 3) (c : BitVec 8) (i : BitVec 6) (flag cc : BitVec 2) (d a b : BitVec 5)
    (off imm : BitVec 16) (off14 : BitVec 14) (off21 : BitVec 21) (s : State),
    ready s ag.hart → unres s ag.hart [ d.toNat, a.toNat, b.toNat] → unresP s ag.hart [ pp.toNat] →
    let h := ag.hart
    let u := fetched s h
    let pc := (s.hart h).pc
    let goal (o : Int) : Nat := (((pc : Int) + 4 * o) % 2 ^ 32).toNat
    let br (t : Bool) (o : Int) : Out := .next (u.retired h (if t then goal o else pc + 4))
    exec (.bp ag n pp 0 off) s = br (s.pred h pp.toNat != decide (n = 1)) off.toInt ∧
    (bcSelOk ag.isSeq c.toNat = true → exec (.bc ag n c 0 off) s = br (u.bcCond h c.toNat != decide (n = 1)) off.toInt) ∧
    (ag.isSeq = false → (k = 1 ∨ i.toNat ≤ 15) → s.writerOf h (if k = 1 then i.toNat else 64 + i.toNat) = false →
      exec (.bflag ag n k i flag off) s =
        br ((if k = 1 then u.tileFlags h i.toNat else u.regionFlags h i.toNat).bit flag.toNat != decide (n = 1)) off.toInt) ∧
    exec (.bcmp ag cc a b off14) s = br (bcmpCode cc.toNat (s.sreg h a.toNat) (s.sreg h b.toNat)) off14.toInt ∧
    (ag.isSeq = true → sbcSelOk c.toNat = true →
      exec (.sbc ag n c 0 off) s = br (u.sbcCond (h - 1024) c.toNat != decide (n = 1)) off.toInt) ∧
    exec (.jal ag d off21) s = .next ((u.setS h d.toNat (BitVec.ofNat 32 (pc + 4))).retired h (goal off21.toInt)) ∧
    exec (.jalr ag d a imm) s = .next ((u.setS h d.toNat (BitVec.ofNat 32 (pc + 4))).retired h
      (s.sreg h a.toNat + imm.signExtend 32).toNat)

/-- R126, R137, R148, R150 for every instruction row: the order of the checks at issue, what each exception is, and that a stall leaves
nothing but its note. The order of the checks among themselves is the model's (DEDUCED, log entry 13). -/
def Obligations.ExceptionsAndStalls : Prop :=
  ∀ (i : Instr) (h : Nat) (x : Tcs) (s : State), tcsOf i = some (h, x) → (s.hart h).stall = none →
    let pc := (s.hart h).pc
    let good := pc < imemTop h ∧ pc % 4 = 0
    (s.canIssue h = false → exec i s = .next s) ∧
    (s.canIssue h = true → ¬ good → exec i s = .next ((fetched s h).exc h 2 pc)) ∧
    (s.canIssue h = true → good → s.poisoned (hartImem h pc) 4 = true →
      exec i s = .next ((fetched s h).excMem h 5 pc (hartImem h pc))) ∧
    (ready s h → i.wf = false → exec i s = .next ((fetched s h).exc h 1 pc)) ∧
    (ready s h → i.wf = true → (∃ r ∈ x.regs, r ≠ 0 ∧ s.reservedS h r = true) → exec i s = .next (waits s h i)) ∧
    (ready s h → i.wf = true → (∃ p ∈ x.preds, p ≠ 0 ∧ s.reservedP h p = true) → exec i s = .next (waits s h i))

/-- R150, codes 3, 4, 6 and 7, for LW, LHU, LBU, LA, SW, SH, SB, SA, PUSH, SPUSH, CSRR and CSRW. That DALIGN comes before DRANGE is the
model's choice (log entry 13). `memExc` and `csrExc` list what each form needs. -/
def Obligations.MemoryExceptions : Prop :=
  ∀ (ag : Agent) (d a : BitVec 5) (r : BitVec 4) (q : BitVec 3) (tq ax ay : BitVec 4) (x y : BitVec 1) (u8 : BitVec 8)
    (u7 : BitVec 7) (imm : BitVec 16) (off : BitVec 12) (s : State),
    ready s ag.hart → unres s ag.hart [ d.toNat, a.toNat] →
    let h := ag.hart
    let pc := (s.hart h).pc
    let e := (s.sreg h a.toNat + imm.signExtend 32).toNat
    let f (n : Nat) : Nat := (s.sreg h a.toNat + BitVec.ofNat 32 (32 * n)).toNat
    let at_ (i : Instr) (e al : Nat) (reads : Bool) : Prop :=
      (e % al ≠ 0 → exec i s = .next ((fetched s h).exc h 3 pc)) ∧
      (e % al = 0 → dmemTop h ≤ e → exec i s = .next ((fetched s h).exc h 4 pc)) ∧
      (reads = true → e % al = 0 → e < dmemTop h → ∀ m, s.poison.find? (touches (hartDmem h e) al) = some m →
        exec i s = .next ((fetched s h).excMem h 6 pc m))
    at_ (.lw ag d a imm) e 4 true ∧ at_ (.lhu ag d a imm) e 2 true ∧ at_ (.lbu ag d a imm) e 1 true ∧
    at_ (.la ag 0 r a imm) e 8 true ∧ at_ (.sw ag d a imm) e 4 false ∧ at_ (.sh ag d a imm) e 2 true ∧
    at_ (.sb ag d a imm) e 1 true ∧ at_ (.sa ag 0 r a imm) e 8 false ∧
    (ag.isSeq = false → q.toNat < 5 → s.held h q.toNat < 32 → at_ (.push ag q a ax ay x y u8) (f u8.toNat) 32 true) ∧
    (ag.isSeq = true → tq.toNat ≤ 11 → s.iqHeld h < 64 → at_ (.spush ag tq a ax ay x y u7) (f u7.toNat) 32 true) ∧
    (off.toNat % 4 ≠ 0 → exec (.csrr ag d 0 off) s = .next ((fetched s h).exc h 7 pc) ∧
      exec (.csrw ag d 0 off) s = .next ((fetched s h).exc h 7 pc))

/-- R150, R152: the entry into EXC, on a core whose streams wait for no address-queue entry (R202). The
report is a flit in the mesh, or the port's queue while its buckets are empty (R251); a cluster in no partition sends none (R260). -/
def Obligations.ExceptionEntry : Prop :=
  ∀ (s : State) (h c a : Nat), h < 1056 → c < 16 → s.streamWaits h 0 = none → s.streamWaits h 1 = none →
    (isSeqHart h = true → ∀ m, s.streamWaits h m = none) → (s.hart h).ihold = [] →
    let t := s.exc h c a
    t.f (CC_STAT_STATE h) = 2 ∧ t.f (CC_STAT_CAUSE h) = c ∧ t.f (CC_EPC_EPC h) = epcOf h a ∧
    (∀ r, t.sreg h r = s.sreg h r) ∧ (∀ r, t.areg h r = s.areg h r) ∧ (∀ p, t.pred h p = s.pred h p) ∧
    (t.hart h).stall = none ∧ memSame s t ∧
    (h < 1024 → s.partOf (h / 32) ≠ 0xFF →
      (∃ x ∈ t.flits, x.fl = .exc h c) ∨ .exc h c ∈ (t.vport (t.place h (0, 0))).queue) ∧
    (1024 ≤ h → t.flits = s.flits)

/-- R128, R137, R145, R157, R309: completion of CWAIT, WAITQ, SWAITQ, WAITT and NOP, and their stall. The credits taken are counted by the
partition's account (R419). -/
def Obligations.SetsOfCounters : Prop :=
  ∀ (ag : Agent) (cn : BitVec 4) (k : BitVec 16) (q : BitVec 3) (n : BitVec 6) (m : BitVec 7) (a : BitVec 5) (s : State),
    ready s ag.hart → unres s ag.hart [ a.toNat, a.toNat + 1] →
    let h := ag.hart
    let u := fetched s h
    (k ≠ 0 → k.toNat ≤ s.credit h cn.toNat → ∃ t, exec (.cwait ag 0 cn 0 k) s = .next t ∧
      t.credit h cn.toNat = s.credit h cn.toNat - k.toNat ∧ (t.hart h).pc = (s.hart h).pc + 4 ∧
      (∀ j, j ≠ cn.toNat → j < 16 → t.credit h j = s.credit h j) ∧ memSame s t) ∧
    (k ≠ 0 → s.credit h cn.toNat < k.toNat → exec (.cwait ag 0 cn 0 k) s = .next (waits s h (.cwait ag 0 cn 0 k))) ∧
    (ag.isSeq = false → q.toNat < 5 → n.toNat ≤ 32 →
      exec (.waitq ag 0 q 0 n) s = .next (if (s.qCmds h q.toNat).length ≤ n.toNat then retires s h u
        else waits s h (.waitq ag 0 q 0 n))) ∧
    (ag.isSeq = true → m.toNat ≤ 64 →
      exec (.swaitq ag 0 m) s = .next (if (s.hart h).cmds.length ≤ m.toNat then retires s h u
        else waits s h (.swaitq ag 0 m))) ∧
    (a.toNat % 2 = 0 →
      exec (.waitt ag 0 a 0) s = .next (if (s.sreg h a.toNat).toNat + 2 ^ 32 * (s.sreg h (a.toNat + 1)).toNat ≤ s.copy (hartClu h)
        then retires s h u else waits s h (.waitt ag 0 a 0))) ∧
    exec (.nop ag 0 0) s = .next (retires s h u)

/-- R139–R143, R309, R310: completion of PUSH, SPUSH, STRM, SSTRM, CPOP and SPOP. -/
def Obligations.QueuesPushAndPop : Prop :=
  ∀ (ag : Agent) (q : BitVec 3) (tq : BitVec 4) (a b : BitVec 5) (ax ay aa : BitVec 4) (x y last m1 : BitVec 1) (u8 : BitVec 8)
    (u7 : BitVec 7) (m3 : BitVec 3) (d8 : BitVec 3) (s : State) (r : Rec),
    ready s ag.hart → unres s ag.hart (a.toNat :: b.toNat :: (List.range 4).map (4 * d8.toNat + ·)) →
    let h := ag.hart
    let u := fetched s h
    let ea (n : Nat) : Nat := (s.sreg h a.toNat + BitVec.ofNat 32 (32 * n)).toNat
    let cmd (qq n : Nat) : Cmd := u.captureCmd h qq (ea n) (s.areg h ax.toNat) (s.areg h ay.toNat) (x = 1) (y = 1)
    let held (qq n : Nat) : State := (u.modHart h fun z => { z with nextId := z.nextId + 1, cmds := z.cmds ++ [ cmd qq n] }).ledgerAdd
      (s.partOf (hartClu h)) lPushed 1
    let reads (n : Nat) : Prop := ea n % 32 = 0 ∧ ea n < dmemTop h ∧ s.poisoned (hartDmem h (ea n)) 32 = false
    let free (qq n : Nat) : Prop := (∀ j ∈ (cmd qq n).opRegs h, j ≠ 0 → s.reservedS h j = false) ∧
      ∀ k', (held qq n).headCmd h qq = some k' → k'.headStatuses (held qq n) h = []
    let popped (t : State) (p : Rec → Bool) (d : BitVec 5) : Prop := (t.hart h).recs = dropRec p (s.hart h).recs ∧
      (d ≠ 0 → t.sreg h d.toNat = r.w0 ∧ t.sreg h (d.toNat + 1) = r.w1 ∧ t.sreg h (d.toNat + 2) = r.w2 ∧
        t.sreg h (d.toNat + 3) = r.w3) ∧
      (∀ j, (d = 0 ∨ j < d.toNat ∨ d.toNat + 3 < j) → t.sreg h j = s.sreg h j) ∧
      t.f (CC_CCR_STATUS h) = wbits r.w0 20 4 ∧ t.f (CC_CCR_NONFIN h) = wbits r.w0 25 1 ∧
      (t.hart h).pc = (s.hart h).pc + 4 ∧ (t.hart h).cmds = (s.hart h).cmds ∧ memSame s t
    let entry (m : Nat) : State := retires s h (u.modHart h fun z => { z with
      aq := z.aq ++ [ AqEntry.mk m (s.areg h aa.toNat).toNat (s.sreg h b.toNat).toNat (decide (last = 1))] })
    let d : BitVec 5 := d8 ++ 0#2
    (ag.isSeq = false → q.toNat < 5 → s.held h q.toNat < 32 → reads u8.toNat → free q.toNat u8.toNat →
      exec (.push ag q a ax ay x y u8) s = .next (retires s h (held q.toNat u8.toNat))) ∧
    (ag.isSeq = true → tq.toNat ≤ 11 → s.iqHeld h < 64 → reads u7.toNat → free tq.toNat u7.toNat →
      exec (.spush ag tq a ax ay x y u7) s = .next (retires s h (held tq.toNat u7.toNat))) ∧
    (ag.isSeq = false → q.toNat < 5 → 32 ≤ s.held h q.toNat → reads u8.toNat →
      exec (.push ag q a ax ay x y u8) s = .next (waits s h (.push ag q a ax ay x y u8))) ∧
    (ag.isSeq = true → tq.toNat ≤ 11 → 64 ≤ s.iqHeld h → reads u7.toNat →
      exec (.spush ag tq a ax ay x y u7) s = .next (waits s h (.spush ag tq a ax ay x y u7))) ∧
    (ag.isSeq = false → q.toNat < 5 → (s.hart h).recs.find? (fun r => r.q = q.toNat) = some r →
      ∃ t, exec (.cpop ag d q 0) s = .next t ∧ popped t (fun r => r.q = q.toNat) d) ∧
    (ag.isSeq = false → q.toNat < 5 → (s.hart h).recs.find? (fun r => r.q = q.toNat) = none →
      exec (.cpop ag d q 0) s = .next (waits s h (.cpop ag d q 0))) ∧
    (ag.isSeq = true → (s.hart h).recs.find? (fun _ => true) = some r →
      ∃ t, exec (.spop ag d 0) s = .next t ∧ popped t (fun _ => true) d) ∧
    (ag.isSeq = true → (s.hart h).recs = [] → exec (.spop ag d 0) s = .next (waits s h (.spop ag d 0))) ∧
    (ag.isSeq = false → (s.aqOf h m1.toNat).length < 256 → exec (.strm ag m1 last aa b 0) s = .next (entry m1.toNat)) ∧
    (ag.isSeq = false → 256 ≤ (s.aqOf h m1.toNat).length →
      exec (.strm ag m1 last aa b 0) s = .next (waits s h (.strm ag m1 last aa b 0))) ∧
    (ag.isSeq = true → (s.aqOf h m3.toNat).length < 256 → exec (.sstrm ag m3 last aa b 0) s = .next (entry m3.toNat)) ∧
    (ag.isSeq = true → 256 ≤ (s.aqOf h m3.toNat).length →
      exec (.sstrm ag m3 last aa b 0) s = .next (waits s h (.sstrm ag m3 last aa b 0)))

/-- R147, R251, R309, R324, R327: completion of SIG, SSIG, SRECV and SRES. The credits are counted as sent by the partition's account, and as
refused too where the wall refuses them (R419). -/
def Obligations.SignalsAndResults : Prop :=
  ∀ (ag : Agent) (cn : BitVec 4) (a b : BitVec 5) (d4 : BitVec 3) (pp : BitVec 3) (nb : BitVec 1) (s : State),
    ready s ag.hart → unres s ag.hart (a.toNat :: b.toNat :: (List.range 4).map (4 * d4.toNat + ·)) → unresP s ag.hart [ pp.toNat] →
    let h := ag.hart
    let c := hartClu h
    let p := s.partOf c
    let u := fetched s h
    let amt := (s.sreg h a.toNat).toNat % 65536
    let core := (s.sreg h b.toNat).toNat % 1024
    let peer := (s.sreg h b.toNat).toNat % 32
    let d : BitVec 5 := d4 ++ 0#2
    let pl := s.place h (0, 0)
    let sent (fl : Flit) : Flight := ⟨s.net.next, pl, fl⟩
    (amt = 0 → exec (.sig ag 1 cn a b 0) s = .next (retires s h u)) ∧
    (amt ≠ 0 → p ≠ 0xFF → s.partOf (core / 32) = p → s.absent core = false → s.mayInject h = true →
      ∃ t, exec (.sig ag 1 cn a b 0) s = .next t ∧ t.flits = s.flits ++ [ sent (.credit p core cn.toNat amt)] ∧
        (t.vport pl).bucket = (s.vport pl).bucket - 1 ∧ (t.hart h).pc = (s.hart h).pc + 4 ∧ memSame s t) ∧
    (amt ≠ 0 → s.partOf (core / 32) ≠ p → ∃ t, exec (.sig ag 1 cn a b 0) s = .next t ∧ t.flits = s.flits ∧
      t.f (CC_FSUM_RANGE h) = 1 ∧ (t.hart h).pc = (s.hart h).pc + 4) ∧
    (ag.isSeq = false → p ≠ 0xFF → s.mayInject h = true → ∃ t, exec (.sig ag 0 0 a 0 0) s = .next t ∧
      t.flits = s.flits ++ [ sent (.inbox p c (s.sreg h a.toNat) (srcWord h))] ∧ (t.hart h).pc = (s.hart h).pc + 4 ∧ memSame s t) ∧
    (ag.isSeq = true → p ≠ 0xFF → s.partOf peer = p → s.mayInject h = true → ∃ t, exec (.ssig ag a b 0) s = .next t ∧
      t.flits = s.flits ++ [ sent (.inbox p peer (s.sreg h a.toNat) (srcWord h))] ∧ (t.hart h).pc = (s.hart h).pc + 4 ∧ memSame s t) ∧
    (ag.isSeq = true → ∀ w l, (s.clu c).mail = w :: l → exec (.srecv ag d pp nb 0) s = .next (retires s h
      ((((u.modClu c fun x => { x with mail := l }).setS h d.toNat w.1).setS h (d.toNat + 1) w.2).setP h pp.toNat true))) ∧
    (ag.isSeq = true → (s.clu c).mail = [] → exec (.srecv ag d pp 1 0) s = .next (retires s h (u.setP h pp.toNat false)) ∧
      exec (.srecv ag d pp 0 0) s = .next (waits s h (.srecv ag d pp 0 0))) ∧
    (ag.isSeq = true → ∀ x l, (s.clu c).resq = x :: l → ∃ t, exec (.sres ag d pp nb 0) s = .next t ∧
      (t.clu c).resq = l ∧ (d ≠ 0 → t.sreg h d.toNat = x.lo) ∧ t.sreg h (d.toNat + 1) = x.hi ∧
      t.sreg h (d.toNat + 2) = BitVec.ofNat 32 (x.id + 256 * x.status.code + 4096 * x.flags.bits) ∧ t.sreg h (d.toNat + 3) = 0 ∧
      (pp ≠ 0 → t.pred h pp.toNat = decide (x.status = .ok)) ∧ (t.hart h).pc = (s.hart h).pc + 4 ∧ memSame s t) ∧
    (ag.isSeq = true → (s.clu c).resq = [] → exec (.sres ag d pp 1 0) s = .next (retires s h (u.setP h pp.toNat false)) ∧
      exec (.sres ag d pp 0 0) s = .next (waits s h (.sres ag d pp 0 0)))

/-- R149, R151, R156–R158, R328: completion of CSRR, CSRW, RDTIME, WDOG and KNOTE. What a register reads and what a write does are csrRead and csrWrite (RegisterWritesAndEventPath), what a notice does WindowsAndHints. -/
def Obligations.SystemRegisters : Prop :=
  ∀ (ag : Agent) (d a b : BitVec 5) (e4 : BitVec 4) (off : BitVec 12) (s : State),
    ready s ag.hart → unres s ag.hart [ d.toNat, a.toNat, b.toNat, 2 * e4.toNat, 2 * e4.toNat + 1] →
    let h := ag.hart
    let c := hartClu h
    let u := fetched s h
    let ev : BitVec 5 := e4 ++ 0#1
    (off.toNat % 4 = 0 → exec (.csrr ag d 0 off) s = .next (retires s h
      ((u.csrRead (hartCsr h + off.toNat)).2.setS h d.toNat (u.csrRead (hartCsr h + off.toNat)).1))) ∧
    (off.toNat % 4 = 0 → exec (.csrw ag b 0 off) s = .next (retires s h (u.csrWrite (hartCsr h + off.toNat) (s.sreg h b.toNat)))) ∧
    (∃ t, exec (.rdtime ag ev 0) s = .next t ∧ (t.sreg h (2 * e4.toNat + 1)).toNat = s.copy c / 2 ^ 32 ∧
      (e4 ≠ 0 → (t.sreg h (2 * e4.toNat)).toNat = s.copy c % 2 ^ 32) ∧ (t.hart h).pc = (s.hart h).pc + 4 ∧
      instrFrame s t h [ 2 * e4.toNat, 2 * e4.toNat + 1] [] [] [] ∧ memSame s t) ∧
    (∃ t, exec (.wdog ag 0 0) s = .next t ∧ (t.hart h).wdogEnd = s.copyU c + s.f (CC_WDOG_PERIOD_US h) * 1000 * 65536 ∧
      (t.hart h).pc = (s.hart h).pc + 4 ∧ instrFrame s t h [] [] [] [] ∧ memSame s t) ∧
    exec (.knote ag 0 ev b 0) s = .next (retires s h
      (u.knote c ((s.sreg h (2 * e4.toNat)).toNat + 2 ^ 32 * (s.sreg h (2 * e4.toNat + 1)).toNat) (s.sreg h b.toNat).toNat))

/-- R149, R152, R155, R156: completion and result of CLKSEL, IFENCE and HALT in a state where the word may issue. -/
def Obligations.SystemState : Prop :=
  ∀ (ag : Agent) (pd : BitVec 3) (code : BitVec 8) (s : State), ready s ag.hart → unresP s ag.hart [ pd.toNat] →
    let h := ag.hart
    let c := hartClu h
    let u := fetched s h
    let arg : BitVec 8 := pd.zeroExtend 8
    (s.f (CLK_STAT_SRC c) = 0 → exec (.clksel ag 0 arg) s = .next (retires s h (u.setP h pd.toNat true))) ∧
    (s.f (CLK_STAT_SRC c) ≠ 0 → s.f (CLK_STAT_LOCK c) = 0 →
      exec (.clksel ag 0 arg) s = .next (retires s h (u.setP h pd.toNat false))) ∧
    (s.f (CLK_STAT_SRC c) ≠ 0 → s.f (CLK_STAT_LOCK c) ≠ 0 → s.f PWR_ALERT_ASSERTED = 0 → c < 32 →
      ∃ t, exec (.clksel ag 0 arg) s = .next t ∧ t.f (CLK_STAT_SRC c) = 0 ∧ t.f (CLK_STAT_F_MHZ c) = 800 ∧
        (pd ≠ 0 → t.pred h pd.toNat = true) ∧ (t.hart h).pc = (s.hart h).pc + 4 ∧ memSame s t) ∧
    ((s.hart h).ihold = [] → exec (.ifence ag 0 0) s = .next (retires s h u)) ∧
    (∀ w, (s.hart h).ihold = [ w] → w.by_ = .none → ∃ t, exec (.ifence ag 0 0) s = .next t ∧ (t.hart h).ihold = [] ∧
      (s.poison = [] → memStores s t w.addr w.bytes) ∧ (t.hart h).pc = (s.hart h).pc + 4) ∧
    ((s.hart h).ihold = [] → (s.hart h).cmds = [] → ∃ t, exec (.halt ag 0 code) s = .next t ∧ t.f (CC_STAT_STATE h) = 0 ∧
      t.f (CC_STAT_HCODE h) = code.toNat ∧ t.f (CC_STAT_CAUSE h) = s.f (CC_STAT_CAUSE h) ∧
      (ag.isSeq = false → s.partOf c ≠ 0xFF →
        (∃ x ∈ t.flits, x.fl = .halt h code.toNat) ∨ .halt h code.toNat ∈ (t.vport (t.place h (0, 0))).queue) ∧
      (∀ r, t.sreg h r = s.sreg h r) ∧ memSame s t)

/-- R177. `stopCmd` is the operation every path that stops a command goes through. -/
def Obligations.StoppedCommandsReleaseZero : Prop :=
  ∀ (s : State) (n : Fin 1024) (k : Cmd) (st : Status), st ∈ [ Status.absent, .state, .range] →
    s.findCmd n.val k.id = some k → (∀ e ∈ (s.hart n.val).cmds, e.id = k.id → e = k) →
    let t := s.stopCmd n.val k.id st
    (∀ r ∈ k.resRegs, t.sreg n.val r = 0) ∧ (∀ p ∈ k.resPred, t.pred n.val p = false) ∧
    (∀ e ∈ (t.hart n.val).cmds, e.id = k.id → e.phase = .ran ∧ st ∈ e.sts) ∧
    (∀ r, (∀ e ∈ (s.hart n.val).cmds, e.id ≠ k.id → e.phase ≠ .ran → r ∉ e.resRegs) → t.reservedS n.val r = false) ∧
    (∀ p, (∀ e ∈ (s.hart n.val).cmds, e.id ≠ k.id → e.phase ≠ .ran → p ∉ e.resPred) → t.reservedP n.val p = false)

/-- R174, the choice among the statuses that apply, and MULTI; then R142, R169, R171, R172: what the operation behind COMMAND_COMPLETION
leaves, for a command of a logical core or a sequencer. -/
def Obligations.CompletionRecord : Prop :=
  (∀ l : List Status, (∀ x ∈ l, x ≠ .ok) →
    let order : List Status := [ .aborted, .absent, .range, .state, .ecc, .timeout, .sat, .late]
    (l = [] → pickStatus l = .ok) ∧
    (∀ i, (h : i < order.length) → order[i] ∈ l → (∀ j, (h' : j < order.length) → j < i → order[j] ∉ l) →
      pickStatus l = order[i]) ∧
    (multiStatus l = true ↔ ∃ x ∈ l, ∃ y ∈ l, x ≠ y)) ∧
  ∀ (s : State) (h : Nat) (k : Cmd), h < 1056 → k.q < 16 → s.findCmd h k.id = some k →
    let t := s.complete h k.id
    let st := pickStatus k.sts
    let b (i : Nat) (w : Word) : Bool := w.getLsbD i
    t.findCmd h k.id = none ∧
    (∀ e ∈ (s.hart h).cmds, e.id ≠ k.id → e ∈ (t.hart h).cmds) ∧
    (k.quiet = true → (t.hart h).recs = (s.hart h).recs) ∧
    (k.quiet = false → ∃ r : Rec, (t.hart h).recs = (s.hart h).recs ++ [ r] ∧ r.q = (if isSeqHart h then 0 else k.q) ∧
      wbits r.w0 0 16 = k.tag ∧ wbits r.w0 16 3 = (if isSeqHart h then (if 1 ≤ k.q ∧ k.q ≤ 8 then 5 else 6) else k.q % 8) ∧
      wbits r.w0 20 4 = st.code ∧ b 24 r.w0 = k.flags.sat ∧ b 25 r.w0 = k.flags.nonfin ∧ b 26 r.w0 = k.flags.guard ∧
      b 27 r.w0 = k.flags.lost ∧ b 28 r.w0 = k.clkint ∧ b 29 r.w0 = k.timed ∧ b 30 r.w0 = multiStatus k.sts ∧
      b 31 r.w0 = false ∧ r.w1.toNat = min k.result 0xFFFFFFFF ∧
      r.w2.toNat + 2 ^ 32 * r.w3.toNat = s.copy (hartClu h)) ∧
    (∀ d, fsumOf h st = some d → t.f d = 1) ∧ (k.flags.nonfin = true → t.f (CC_FSUM_NONFIN h) = 1) ∧
    (∀ r, t.sreg h r = s.sreg h r) ∧ memSame s t

/-- R161, R165, R166, R171, R178: completion of COMMAND_ISSUE, TIMED_LAUNCH, COMMAND_COMPLETION and REMOTE_RESPONSE_TIMEOUT. That the
response timeout waits twice REMOTE_US, and that a cluster mover's is 1,000 µs, are the model's (log entries 15 and 40). -/
def Obligations.CommandLife : Prop :=
  ∀ (h : Fin 1056) (q : Fin 12) (s : State) (k : Cmd),
    let settled (t : State) : State := ((t.streamsIdle h.val).settleAll h.val).retry h.val
    let c := hartClu h.val
    let alone : Prop := s.nextCmd h.val q.val = some k ∧ (∀ e ∈ (s.hart h.val).cmds, e.id = k.id → e = k) ∧ k.isAppend h.val = false
    let free (v : State) : Prop := v.cluRuns c = true ∧ v.mayIssue h.val k = true ∧ v.sbWait h.val k = false ∧
      v.openRead h.val (v.narrow h.val k) = false
    let began (v u : State) : Prop := memSame s u ∧
      (∀ e ∈ (u.hart h.val).cmds, e.id = k.id → e.phase = .issued ∧ e.since = v.copy c ∧
        e.clkint = s.on (CLK_STAT_SRC c) ∧ e.words = k.words ∧
        e.sts = (if k.timed && decide (k.launch + s.slackU h.val k < v.copy c) then k.sts ++ [ .late] else k.sts)) ∧
      (∀ e ∈ (s.hart h.val).cmds, e.id ≠ k.id → e ∈ (u.hart h.val).cmds)
    let later : State := s.advanceCopy c k.launch
    (alone → free s → ∃ u, exec (.commandIssue h q) s = .next (settled u) ∧ began s u) ∧
    (s.nextCmd h.val q.val = some k → (s.mayIssue h.val k = false ∨ s.sbWait h.val k = true ∨ s.cluRuns c = false) →
      exec (.commandIssue h q) s = .next (settled s)) ∧
    (alone → k.timed = true → free later → ∃ u, exec (.timedLaunch h q) s = .next (settled u) ∧ began later u ∧
      k.launch ≤ later.copyU c) ∧
    (s.doneCmd h.val q.val = some k →
      exec (.commandCompletion h q) s = .next ((((s.complete h.val k.id).touch c).settleAll h.val).retry h.val)) ∧
    ((s.hart h.val).cmds.find? (fun e => decide (e.q = q.val) && decide (e.phase = .issued)) = some k → isRemote h.val q.val = true →
      (∀ e ∈ (s.hart h.val).cmds, e.id = k.id → e = k) →
      ∃ u : State, exec (.remoteResponseTimeout h q) s = .next (u.finish h.val k.id) ∧
        (∀ e ∈ (u.hart h.val).cmds, e.id = k.id → e.phase = .ran ∧ Status.timeout ∈ e.sts) ∧
        k.since + 2 * s.remoteUs h.val * 1000 * 65536 ≤ (s.advanceTo u.dtime).copyU c)

/-- R66–R71, R88–R90, R92, R170: completion, result and frame of MQ_MUL, L1, L2, CMPCOUNT and HAMMING. With an uncorrectable error the
pass runs to its end with ECC, and what its regions hold is unspecified (R101). The output of one cell is the sum of its rounding points (drainRow); what a point is the second half says (R45, R47–R51, R69, R92): points add
from north to south and saturate at each addition (the order is the model's choice, log entry 16). -/
def Obligations.MatrixPasses : Prop :=
  (∀ (n : Fin 1024) (bub : Nat) (ue : Bool) (s : State) (k : Cmd) (g : Geom),
    let a := s.opnd n.val k.mq.ta ((fmtOf k.mq.afmt).getD .int8)
    let w := (s.passWeights n.val k g).opnd
    let cell (m c : Nat) : Cell := (drainRow k.op k.mq.scale g.k a w m).getD c ⟨0, Flags.zero, 0, false⟩
    let goes (op : Nat) : Prop := atWork s n.val 0 op k ∧ k.mqGeo = some g ∧ s.passBad n.val k = false ∧
      k.mq.gb + k.mq.outUnits ≤ 16 ∧ k.mq.m ≤ 1024
    let ran (t : State) : Prop := ∃ sts,
      (ue = false → ∀ m c, m < k.mq.m → c < 64 → t.grain n.val (k.mq.gb + m / 64) (64 * (m % 64) + c) =
        (grainSat ((if k.mq.clear then 0 else s.grain n.val (k.mq.gb + m / 64) (64 * (m % 64) + c)) + (cell m c).g)).1) ∧
      (∀ r j, r < 16 → j < 4096 → (r < k.mq.gb ∨ k.mq.gb + k.mq.outUnits ≤ r) → t.grain n.val r j = s.grain n.val r j) ∧
      (∀ u, u < k.mq.outUnits → t.f (GSTAT_OPEN n.val (k.mq.gb + u)) = if k.mq.close then 0 else 1) ∧
      (t.hart n.val).active = some (s.passWeights n.val k g) ∧ t.tiles = s.tiles ∧ t.planes = s.planes ∧
      hasRun s t n.val k k.mq.m sts ∧ (∀ x ∈ sts, x = .sat ∨ x = .ecc) ∧ (.ecc ∈ sts ↔ ue = true) ∧ passFrame s t n.val ∧
      (t.hart n.val).sregs = (s.hart n.val).sregs
    (goes 1 → ∃ t, exec (.mqMul n bub ue) s = .next t ∧ ran t) ∧
    (goes 2 → ∃ t, exec (.l1 n bub ue) s = .next t ∧ ran t) ∧
    (goes 3 → ∃ t, exec (.l2 n bub ue) s = .next t ∧ ran t) ∧
    (goes 4 → ∃ t, exec (.cmpcount n bub ue) s = .next t ∧ ran t) ∧
    (goes 7 → ∃ t, exec (.hamming n bub ue) s = .next t ∧ ran t)) ∧
  ∀ (op kk m c : Nat) (e : Int) (a w : Opnd),
    (op ≠ 7 → a.fmt.bits ≠ 16 → (points op e kk a w m c).length = kk / 32) ∧
    (op ≠ 7 → a.fmt.bits = 16 → (points op e kk a w m c).length = kk) ∧
    (points 7 e kk a w m c).length = 1 ∧
    (∀ d : Dy, ∀ p, p = toPoint d e → p.sat = false → d.e ≤ e →
      2 * (p.g * 2 ^ (e - d.e).toNat - d.m).natAbs ≤ 2 ^ (e - d.e).toNat ∧
      (2 * (p.g * 2 ^ (e - d.e).toNat - d.m).natAbs = 2 ^ (e - d.e).toNat → p.g % 2 = 0)) ∧
    (∀ d : Dy, ∀ p, p = toPoint d e → (-(2 ^ 63 - 1) ≤ p.g ∧ p.g ≤ 2 ^ 63 - 1) ∧
      (p.lost = true ↔ d.m ≠ 0 ∧ p.g = 0) ∧ p.nonfin = false) ∧
    (∀ k0 len, op = 1 → (a.scale (actPlace kk m k0) = none ∨ w.scale (wtPlace c k0) = none) →
      blockPoint op e kk a w m c k0 len = ⟨0, false, true, false⟩) ∧
    (∀ l : List Point, ∀ p, (sumPoints (l ++ [ p])).g = (grainSat ((sumPoints l).g + p.g)).1 ∧
      (sumPoints (l ++ [ p])).fl.nonfin = ((sumPoints l).fl.nonfin || p.nonfin) ∧
      (sumPoints (l ++ [ p])).fl.lost = ((sumPoints l).fl.lost || p.lost))

/-- R94, R95: completion, result and frame of MAXPLUS and MINPLUS whose output tiles meet none of their inputs (R180); with an
uncorrectable error the rows written are unspecified (R101). -/
def Obligations.ExtremePasses : Prop :=
  ∀ (n : Fin 1024) (bub : Nat) (ue : Bool) (s : State) (k : Cmd) (g : Geom),
    let f := (fmtOf k.mq.afmt).getD .int8
    let a := s.opnd n.val k.mq.ta f
    let w := (s.passWeights n.val k g).opnd
    let out (m c : Nat) : Ext :=
      let x := plusCell (k.op = 5) g.k a w m c
      if k.mq.acc then plusAcc f (k.op = 5) (s.elem f n.val (k.mq.tout + m / 64) (64 * (m % 64) + c)) x else x
    let goes (op : Nat) : Prop := atWork s n.val 0 op k ∧ k.mqGeo = some g ∧ k.mqOk = true ∧ s.passBad n.val k = false
    let ran (t : State) : Prop := ∃ sts,
      (ue = false → ∀ m c, m < k.mq.m → c < 64 →
        t.elem f n.val (k.mq.tout + m / 64) (64 * (m % 64) + c) = (out m c).bits % 256) ∧
      (ue = false → f = .e4m3 → ∀ u b, u < k.mq.outUnits → b < 128 → t.plane n.val (k.mq.tout + u) b = 0x7F) ∧
      (∀ x o, o < 4096 → (x < k.mq.tout ∨ k.mq.tout + k.mq.outUnits ≤ x) → t.tile n.val x o = s.tile n.val x o) ∧
      t.grains = s.grains ∧ hasRun s t n.val k k.mq.m sts ∧ (∀ x ∈ sts, x = .sat ∨ x = .ecc) ∧ (.ecc ∈ sts ↔ ue = true) ∧
      engineFrame s t n.val ∧ (t.hart n.val).sregs = (s.hart n.val).sregs
    (goes 5 → ∃ t, exec (.maxplus n bub ue) s = .next t ∧ ran t) ∧
    (goes 6 → ∃ t, exec (.minplus n bub ue) s = .next t ∧ ran t)

/-- R72, R74, R84–R86: completion of WEIGHT_LOAD, ARRAY_COLD, COLUMN_GROUP_ENABLE and FIRST_SLOT_ADMIT. The event happens at its time or
later (log entry 4). -/
def Obligations.ArrayActivity : Prop :=
  ∀ (n : Fin 1024) (s : State),
    (∀ k g, s.nextLoad n.val = some k → k.mqGeo = some g → (s.hart n.val).standby = none → k.formOk n.val = true →
      s.cluRuns (n.val / 32) = true → s.weightsReady n.val k g.wt = true →
      ∃ t, exec (.weightLoad n) s = .next t ∧ (t.hart n.val).active = (s.hart n.val).active ∧ (t.hart n.val).standbyFor = k.id ∧
        (t.hart n.val).standby = some (s.wset k.op ((fmtOf k.mq.wfmt).getD .int8) n.val k.mq.tw g.wt) ∧
        engineFrame s t n.val ∧ tensorSame s t) ∧
    (s.f (ARRAY_STATE_RAMPING n.val) = 0 →
      ∃ t, exec (.arrayCold n) s = .next t ∧ t.coldArray n.val = true ∧
        (s.coldArray n.val = false → t.f (ARRAY_STATE_COLD n.val) = 1 ∧ t.f (ARRAY_STATE_GROUPS n.val) = 0 ∧
          (s.hart n.val).lastSlot + 10000 * 65536 ≤ t.copyU (n.val / 32)) ∧
        engineFrame s t n.val ∧ fieldsSame s t [ ARRAY_STATE_COLD n.val, ARRAY_STATE_GROUPS n.val]) ∧
    (s.f (ARRAY_STATE_RAMPING n.val) = 1 → s.f (ARRAY_STATE_GROUPS n.val) < 8 →
      ∃ t, exec (.columnGroupEnable n) s = .next t ∧ t.f (ARRAY_STATE_GROUPS n.val) = s.f (ARRAY_STATE_GROUPS n.val) + 1 ∧
        (s.hart n.val).rampAt + 250 * s.f (ARRAY_STATE_GROUPS n.val) * 65536 ≤ t.copyU (n.val / 32) ∧ engineFrame s t n.val) ∧
    (s.f (ARRAY_STATE_RAMPING n.val) = 0 → s.coldArray n.val = true → s.passWaits n.val = true →
      ∃ t, exec (.columnGroupEnable n) s = .next t ∧ t.f (ARRAY_STATE_COLD n.val) = 0 ∧
        (s.announced (n.val / 32) = true → t.f (ARRAY_STATE_GROUPS n.val) = 8) ∧
        (s.announced (n.val / 32) = false → t.f (ARRAY_STATE_GROUPS n.val) = 1 ∧ t.f (ARRAY_STATE_RAMPING n.val) = 1 ∧
          (t.hart n.val).rampAt = s.copyU (n.val / 32)) ∧ engineFrame s t n.val) ∧
    (s.f (ARRAY_STATE_RAMPING n.val) = 1 →
      ∃ t, exec (.firstSlotAdmit n) s = .next t ∧ t.f (ARRAY_STATE_RAMPING n.val) = 0 ∧ t.f (ARRAY_STATE_GROUPS n.val) = 8 ∧
        (s.hart n.val).rampAt + 2000 * 65536 ≤ t.copyU (n.val / 32) ∧ engineFrame s t n.val)

/-- R102–R108, R170: completion, result and frame of VQ_ADD, VQ_SUB, VQ_MUL, FMA, VQ_MAX, VQ_MIN, ABS, NEG, VQ_CMP, SEL, EXP, EXP2, LOG,
LOG2, RSQRT and RECIP; with an uncorrectable error what D holds is unspecified (R121). The first part holds for every output format: the command runs and completes its work;
the second gives the FP32 outputs. What one lane computes is LaneValues. -/
def Obligations.LaneCommands : Prop :=
  ∀ (n : Fin 1024) (ue : Bool) (s : State) (k : Cmd),
    let f := k.vq
    let op := k.op
    let x (j : Nat) : Word := (s.in32 f.areg ((fmtOf f.afmt).getD .fp32) n.val f.ta j).1
    let y (j : Nat) : Word := if op ≤ 5 ∨ op = 8 ∨ op = 9 then (s.bVal n.val f k.sb j).1 else 0
    let z (j : Nat) : Word := if op = 3 ∨ op = 9 then (s.in32 false ((fmtOf f.afmt).getD .fp32) n.val f.tc j).1 else 0
    let ran (t : State) : Prop := ∃ sts, hasRun s t n.val k f.r sts ∧ (∀ v ∈ sts, v = .sat ∨ v = .ecc) ∧ (.ecc ∈ sts ↔ ue = true) ∧
      engineFrame s t n.val ∧ (t.hart n.val).sregs = (s.hart n.val).sregs ∧ t.grains = s.grains ∧
      (f.dfmt = 10 → k.vqOk = true → (∀ ins outs, k.vqRuns = some (ins, outs) → ∀ p ∈ ins, ∀ q ∈ outs, p.reg = false →
          runsMeet p.first p.count q.first q.count = false) →
        (ue = false → ∀ j, j < 64 * f.r →
          t.runBits .fp32 n.val f.td j = (convOut .fp32 false (fval (lane op f (x j) (y j) (z j)).w)).1) ∧
        ∀ v o, o < 4096 → (v < f.td ∨ f.td + runTiles .fp32 f.r ≤ v) → t.tile n.val v o = s.tile n.val v o)
    (atWork s n.val 1 0x00 k → ∃ t, exec (.vqAdd n ue) s = .next t ∧ ran t) ∧
    (atWork s n.val 1 0x01 k → ∃ t, exec (.vqSub n ue) s = .next t ∧ ran t) ∧
    (atWork s n.val 1 0x02 k → ∃ t, exec (.vqMul n ue) s = .next t ∧ ran t) ∧
    (atWork s n.val 1 0x03 k → ∃ t, exec (.fma n ue) s = .next t ∧ ran t) ∧
    (atWork s n.val 1 0x04 k → ∃ t, exec (.vqMax n ue) s = .next t ∧ ran t) ∧
    (atWork s n.val 1 0x05 k → ∃ t, exec (.vqMin n ue) s = .next t ∧ ran t) ∧
    (atWork s n.val 1 0x06 k → ∃ t, exec (.abs n ue) s = .next t ∧ ran t) ∧
    (atWork s n.val 1 0x07 k → ∃ t, exec (.neg n ue) s = .next t ∧ ran t) ∧
    (atWork s n.val 1 0x08 k → ∃ t, exec (.vqCmp n ue) s = .next t ∧ ran t) ∧
    (atWork s n.val 1 0x09 k → ∃ t, exec (.sel n ue) s = .next t ∧ ran t) ∧
    (atWork s n.val 1 0x10 k → ∃ t, exec (.exp n ue) s = .next t ∧ ran t) ∧
    (atWork s n.val 1 0x11 k → ∃ t, exec (.exp2 n ue) s = .next t ∧ ran t) ∧
    (atWork s n.val 1 0x12 k → ∃ t, exec (.log n ue) s = .next t ∧ ran t) ∧
    (atWork s n.val 1 0x13 k → ∃ t, exec (.log2 n ue) s = .next t ∧ ran t) ∧
    (atWork s n.val 1 0x14 k → ∃ t, exec (.rsqrt n ue) s = .next t ∧ ran t) ∧
    (atWork s n.val 1 0x15 k → ∃ t, exec (.recip n ue) s = .next t ∧ ran t)

/-- R104, R106–R108, one lane at its corners. FMA of finite operands rounds once: it equals the rounding of the exact product and sum. -/
def Obligations.LaneValues : Prop :=
  ∀ (f : VqF) (a b c : Word),
    (isNan32 a = true → ∀ op ∈ [ 0x00, 0x01, 0x02, 0x03, 0x06, 0x07, 0x10, 0x11, 0x12, 0x13, 0x14, 0x15],
      (lane op f a b c).w = 0x7FC00000 ∧ (lane op f a b c).nonfin = true) ∧
    (isNan32 a = false → (lane 0x06 f a b c).w = a &&& 0x7FFFFFFF ∧ (lane 0x07 f a b c).w = a ^^^ 0x80000000) ∧
    (isNan32 a = true ∨ isNan32 b = true → (lane 0x08 f a b c).w = 0 ∧ (lane 0x08 f a b c).nonfin = true) ∧
    (isNan32 a = false → isNan32 b = false →
      (lane 0x08 f a b c).w = (if pcond f.cond (valLt (fval a) (fval b)) (valEq (fval a) (fval b)) then 0x3F800000 else 0)) ∧
    (isNan32 a = false → isNan32 b = false → (lane 0x09 f a b c).w = if (fval c).isZero then b else a) ∧
    (∀ n₁ m₁ e₁ n₂ m₂ e₂ n₃ m₃ e₃, fval a = .fin n₁ m₁ e₁ → fval b = .fin n₂ m₂ e₂ → fval c = .fin n₃ m₃ e₃ →
      let d := ((Val.fin n₁ m₁ e₁).dy.mul (Val.fin n₂ m₂ e₂).dy).add (Val.fin n₃ m₃ e₃).dy
      d.m ≠ 0 → lane 0x03 f a b c = fRoundDy d) ∧
    (lane 0x04 f 0x80000000 0 c).w = 0 ∧ (lane 0x05 f 0 0x80000000 c).w = 0x80000000 ∧
    (lane 0x10 f 0xFF800000 b c).w = 0 ∧ (lane 0x11 f 0x7F800000 b c).w = 0x7F800000 ∧
    (lane 0x12 f 0 b c).w = 0xFF800000 ∧ (lane 0x13 f 0xBF800000 b c).w = 0x7FC00000

/-- R56–R61, R109, R110: completion, result and frame of CVT, GADD and GRESCALE; results, without an uncorrectable error, for grain
destinations that meet no operand. -/
def Obligations.ConversionsAndGrains : Prop :=
  ∀ (n : Fin 1024) (ue : Bool) (s : State) (k : Cmd),
    let f := k.vq
    let apart : Prop := ∀ ins outs, k.vqRuns = some (ins, outs) → ∀ p ∈ ins, ∀ q ∈ outs, p.reg = false →
      runsMeet p.first p.count q.first q.count = false
    let ran (t : State) : Prop :=
      (∃ sts, hasRun s t n.val k f.r sts ∧ (∀ v ∈ sts, v = .sat ∨ v = .ecc) ∧ (.ecc ∈ sts ↔ ue = true)) ∧ engineFrame s t n.val ∧ (t.hart n.val).sregs = (s.hart n.val).sregs ∧ t.grains = s.grains
    let out (t : State) (j : Nat) : Int := t.grainAt false n.val f.td j
    (atWork s n.val 1 0x18 k → ∃ t, exec (.cvt n ue) s = .next t ∧ ran t ∧
      (ue = false → k.vqOk = true → f.dfmt = 12 → apart → ∀ j, j < 64 * f.r → out t j =
        (toGrain f.scale (s.inVal f.areg ((fmtOf f.afmt).getD .fp32) n.val f.ta j)).1)) ∧
    (atWork s n.val 1 0x19 k → s.gaddBad n.val f = true → ∃ t, exec (.gadd n ue) s = .next t ∧ tensorSame s t ∧
      memSame s t ∧ ∀ e ∈ (t.hart n.val).cmds, e.id = k.id → e.phase = .ran ∧ Status.range ∈ e.sts) ∧
    (atWork s n.val 1 0x19 k → s.gaddBad n.val f = false → ∃ t, exec (.gadd n ue) s = .next t ∧ ran t ∧
      (ue = false → k.vqOk = true → apart → ∀ j, j < 64 * f.r → out t j =
        (grainSat (s.grainAt f.areg n.val f.ta j + s.grainAt f.breg n.val f.tb j)).1)) ∧
    (atWork s n.val 1 0x1A k → ∃ t, exec (.grescale n ue) s = .next t ∧ ran t ∧
      (ue = false → k.vqOk = true → apart → ∀ j, j < 64 * f.r → out t j =
        (toGrain f.scale (intVal (s.grainAt f.areg n.val f.ta j) (s.unitScale f.areg n.val (f.ta + j / unitGrains f.areg)))).1))

/-- R111–R114: completion, frame, and for RMAX and RSUM, without an uncorrectable error, the result. The fixed order is sum111: a pairwise
tree over each row of 64, then the rows in ascending order. -/
def Obligations.RowStatistics : Prop :=
  ∀ (n : Fin 1024) (ue : Bool) (s : State) (k : Cmd),
    let f := k.vq
    let w := 2 ^ f.wlog
    let rows (r : Nat) : List (List Word) := (s.rows32 ((fmtOf f.afmt).getD .fp32) n.val f.ta (r * w) w).1
    let ran (t : State) : Prop := ∃ sts, hasRun s t n.val k f.r sts ∧ (∀ v ∈ sts, v = .sat ∨ v = .ecc) ∧ (.ecc ∈ sts ↔ ue = true) ∧
      engineFrame s t n.val ∧ (t.hart n.val).sregs = (s.hart n.val).sregs ∧ t.grains = s.grains ∧
      (ue = false → k.vqOk = true → (∀ ins outs, k.vqRuns = some (ins, outs) → ∀ p ∈ ins, ∀ q ∈ outs, p.reg = false →
          runsMeet p.first p.count q.first q.count = false) →
        (k.op = 0x21 → ∀ r, r < f.r / w → t.vecAt n.val f.td r = (sum111 (rows r)).w) ∧
        (k.op = 0x20 → ∀ r, r < f.r / w → (∀ x ∈ (rows r).flatten, isNan32 x = true) → t.vecAt n.val f.td r = 0x7FC00000) ∧
        (k.op = 0x20 → ∀ r, r < f.r / w → ∀ x ∈ (rows r).flatten, isNan32 x = false →
          isNan32 (t.vecAt n.val f.td r) = false ∧ valLt (fval (t.vecAt n.val f.td r)) (fval x) = false))
    (atWork s n.val 1 0x20 k → ∃ t, exec (.rmax n ue) s = .next t ∧ ran t) ∧
    (atWork s n.val 1 0x21 k → ∃ t, exec (.rsum n ue) s = .next t ∧ ran t) ∧
    (atWork s n.val 1 0x22 k → ∃ t, exec (.exps n ue) s = .next t ∧ ran t) ∧
    (atWork s n.val 1 0x23 k → ∃ t, exec (.lnstat n ue) s = .next t ∧ ran t) ∧
    (atWork s n.val 1 0x24 k → ∃ t, exec (.norm n ue) s = .next t ∧ ran t)

/-- R110, R115, R116, R119, R124: completion, result and frame of the reductions; with an uncorrectable error Sd and the predicate are 0 (R120). The predicate compares
the value written with the captured scalar, on the order R119 and R182 give each form. -/
def Obligations.Reductions : Prop :=
  ∀ (n : Fin 1024) (ue : Bool) (s : State) (k : Cmd),
    let f := k.vq
    let rows := (s.rows32 ((fmtOf f.afmt).getD .fp32) n.val f.ta 0 f.r).1
    let l := rows.flatten
    let ran (t : State) (ws : List Word) (p : Bool) : Prop :=
      (∃ sts, hasRun s t n.val k f.r sts ∧ (∀ v ∈ sts, v = .sat ∨ v = .ecc) ∧ (.ecc ∈ sts ↔ ue = true)) ∧ engineFrame s t n.val ∧
      tensorSame s t ∧
      (∀ j, j < ws.length → f.sd + j ≠ 0 → f.sd + j < 32 → t.sreg n.val (f.sd + j) = if ue then 0 else ws.getD j 0) ∧
      (∀ r, (r < f.sd ∨ f.sd + ws.length ≤ r ∨ r = 0) → t.sreg n.val r = s.sreg n.val r) ∧
      (∀ q, q < 8 → t.pred n.val q = if f.pen = true ∧ q = f.pp ∧ q ≠ 0 then !ue && p else s.pred n.val q)
    (atWork s n.val 1 0x30 k → ∃ t, exec (.sumToScalar n ue) s = .next t ∧ ran t [ (sum111 rows).w] (pcondF f.pcond (sum111 rows).w k.sx)) ∧
    (atWork s n.val 1 0x31 k → ∃ t w, exec (.maxToScalar n ue) s = .next t ∧ ran t [ w] (pcondF f.pcond w k.sx) ∧
      ((∀ x ∈ l, isNan32 x = true) → w = 0x7FC00000) ∧ (∀ x ∈ l, isNan32 x = false → valLt (fval w) (fval x) = false)) ∧
    (atWork s n.val 1 0x32 k → ∃ t w, exec (.minToScalar n ue) s = .next t ∧ ran t [ w] (pcondF f.pcond w k.sx) ∧
      ((∀ x ∈ l, isNan32 x = true) → w = 0x7FC00000) ∧ (∀ x ∈ l, isNan32 x = false → valLt (fval x) (fval w) = false)) ∧
    (atWork s n.val 1 0x33 k → f.key = false → ∃ t w, exec (.argmax n ue) s = .next t ∧ ran t [ w] (pcondU f.pcond w.toNat k.sx.toNat) ∧
      ((∀ x ∈ l, isNan32 x = true) → w = 0xFFFFFFFF) ∧
      ∀ i, (h : i < l.length) → isNan32 l[i] = false → ∃ j, ∃ h' : j < l.length, w = k.sy + BitVec.ofNat 32 j ∧
        isNan32 l[j] = false ∧ valLt (fval l[j]) (fval l[i]) = false ∧
        (i < j → valLt (fval l[i]) (fval l[j]) = true)) ∧
    (atWork s n.val 1 0x33 k → f.key = true → ∃ t lo hi, exec (.argmax n ue) s = .next t ∧ ran t [ lo, hi]
      (pcondI f.pcond (sxNat 64 (lo.toNat + 2 ^ 32 * hi.toNat)) k.sx.toInt)) ∧
    (atWork s n.val 1 0x34 k → ∃ t w, exec (.count n ue) s = .next t ∧ ran t [ w] (pcondU f.pcond w.toNat k.sx.toNat) ∧
      w.toNat = (l.countP fun a => pcondF f.cond a k.sy) % 2 ^ 32) ∧
    (atWork s n.val 1 0x35 k → s.gsumBad n.val f = false → ∃ t lo hi, exec (.gsum n ue) s = .next t ∧ ran t [ lo, hi]
      (pcondI f.pcond (sxNat 64 (lo.toNat + 2 ^ 32 * hi.toNat)) k.sx.toInt) ∧
      ((∀ m, m ≤ 64 * f.r → (((List.range m).map fun j => s.grainAt f.areg n.val f.ta j).sum).natAbs < 2 ^ 63) →
        sxNat 64 (lo.toNat + 2 ^ 32 * hi.toNat) = ((List.range (64 * f.r)).map fun j => s.grainAt f.areg n.val f.ta j).sum)) ∧
    (atWork s n.val 1 0x35 k → s.gsumBad n.val f = true → ∃ t, exec (.gsum n ue) s = .next t ∧ tensorSame s t ∧
      memSame s t ∧ ∀ e ∈ (t.hart n.val).cmds, e.id = k.id → e.phase = .ran ∧ Status.range ∈ e.sts)

/-- R185, R192–R203: completion, result and frame of WALK, GATHER, SCATTER and STREAM_ENTRY, with the bytes moved between device memories of
classes 0 to 2 outside instruction memory, where no uncorrectable error is held. `walkOffs` gives the elements in walk order (test_walk
checks it on the spec's example). -/
def Obligations.WalksAndStreams : Prop :=
  ∀ (h : Fin 1056) (m : Fin 8) (s : State) (k : Cmd),
    (∀ e ∈ (s.hart h.val).cmds, e.id = k.id → e = k) → s.poison = [] →
    let e1 := k.endpoint 2
    let e2 := k.endpoint 4
    let now (t : State) (f : Cmd → Prop) : Prop := ∀ e ∈ (t.hart h.val).cmds, e.id = k.id → f e
    (s.moverCmd h.val m.val 1 = some k → s.descr h.val k = none → ∃ t, exec (.walk h m [] false) s = .next t ∧ memSame s t ∧
      tensorSame s t ∧ now t fun e => e.phase = .ran ∧ Status.range ∈ e.sts) ∧
    (∀ l, s.moverCmd h.val m.val 1 = some k → s.descr h.val k = some l → s.walkStop h.val k ≠ [] →
      ∃ t, exec (.walk h m [] false) s = .next t ∧ memSame s t ∧ tensorSame s t ∧
        now t fun e => e.phase = .ran ∧ e.sts = k.sts ++ s.walkStop h.val k ∧ e.result = 0) ∧
    (∀ l, s.moverCmd h.val m.val 1 = some k → s.descr h.val k = some l → s.walkStop h.val k = [] →
      (e2.kind = 0 → e2.cls ≤ 2) →
      let z := 2 ^ k.esize
      let ps := walkOffs l.reverse
      ∃ t, exec (.walk h m [] false) s = .next t ∧ (now t fun e => e.phase = .ran ∧ e.result = walkTotal k l) ∧
        (k.shape = 0 → e1.kind = 0 → e2.kind = 0 → e1.cls ≤ 2 → e2.cls ≤ 2 → (∀ p ∈ ps, imemHart ((e2.dev : Int) + p.2).toNat = none) →
          ps.Pairwise (fun p q => p.2 + (z : Int) ≤ q.2 ∨ q.2 + (z : Int) ≤ p.2) →
          tensorSame s t ∧
          (∀ p ∈ ps, ∀ j : Nat, j < z → t.rd (((e2.dev : Int) + p.2).toNat + j) = s.rd (((e1.dev : Int) + p.1).toNat + j)) ∧
          ∀ a : Nat, (∀ p ∈ ps, a < ((e2.dev : Int) + p.2).toNat ∨ ((e2.dev : Int) + p.2).toNat + z ≤ a) → t.rd a = s.rd a)) ∧
    (∀ x, s.streamNext h.val m.val = some (k, x) →
      exec (.streamEntry h m [] false) s = .next ((s.takeEntry h.val m.val k x false).retry h.val)) ∧
    (∀ x, s.streamNext h.val m.val = some (k, x) → x.last = true →
      (k.op = 2 → exec (.gather h m [] false) s = .next ((s.takeEntry h.val m.val k x false).retry h.val)) ∧
      (k.op = 3 → exec (.scatter h m [] false) s = .next ((s.takeEntry h.val m.val k x false).retry h.val))) ∧
    (∀ x, s.streamNext h.val m.val = some (k, x) → e2.cls ≤ 2 →
      let t := s.takeEntry h.val m.val k x false
      (t.hart h.val).aq = (s.hart h.val).aq.erase x ∧
      (now t fun e => e.pos = k.pos + x.len ∧ (e.phase = .ran ↔ x.last = true)) ∧
      (k.fixed = false → s.entryStatuses h.val k x ≠ [] → memSame s t ∧
        (now t fun e => ∀ st ∈ s.entryStatuses h.val k x, st ∈ e.sts) ∧
        (h.val < 1024 → m.val < 2 → s.f (MV_STAT_SKIPS h.val m.val) + 1 < 2 ^ (MV_STAT_SKIPS h.val m.val).wid →
          t.f (MV_STAT_SKIPS h.val m.val) = s.f (MV_STAT_SKIPS h.val m.val) + 1)) ∧
      (k.fixed = false → s.entryStatuses h.val k x = [] → s.entryOpen h.val k x = false → (now t fun e => e.result = k.result + x.len) ∧
        (k.op = 2 → e1.cls ≤ 2 → e2.kind = 0 → e2.cls ≤ 2 → imemHart (e2.dev + k.pos) = none →
          ∀ a, t.rd a = if e2.dev + k.pos ≤ a ∧ a < e2.dev + k.pos + x.len then s.rd (devAddr e1.cls x.off + (a - (e2.dev + k.pos)))
            else s.rd a) ∧
        (k.op = 3 → e2.cls ≤ 2 → e1.kind = 0 → e1.cls ≤ 2 → imemHart (devAddr e2.cls x.off) = none →
          ∀ a, t.rd a = if devAddr e2.cls x.off ≤ a ∧ a < devAddr e2.cls x.off + x.len
            then s.rd (e1.dev + k.pos + (a - devAddr e2.cls x.off)) else s.rd a)))

/-- R204–R208: completion, result and frame of APPEND and COMMIT and of the writes to the five AP registers; the APPEND's bytes between
device memories outside instruction memory. -/
def Obligations.AppendsAndCommits : Prop :=
  ∀ (n : Fin 1024) (m : Fin 2) (m8 : Fin 8) (a : Fin 16) (v : BitVec 32) (s : State) (k : Cmd), m8.val = m.val →
    (∀ e ∈ (s.hart n.val).cmds, e.id = k.id → e = k) →
    let h : Fin 1056 := ⟨n.val, by omega⟩
    let pend := s.f (AP_PEND_PENDING n.val m.val k.aptr)
    let step := s.f (AP_STEP_STEP n.val m.val k.aptr)
    let now (t : State) (f : Cmd → Prop) : Prop := ∀ e ∈ (t.hart n.val).cmds, e.id = k.id → f e
    (k.isAppend n.val = true → k.q = 2 + m.val → s.cluRuns (n.val / 32) = true → s.mayIssue n.val k = true →
      s.sbWait n.val k = false → s.commitAhead n.val k = false → pend + step < 2 ^ 32 → s.issueStatuses n.val k = [] →
      let t := s.issue n.val k
      t.f (AP_PEND_PENDING n.val m.val k.aptr) = pend + step ∧ t.f (AP_STAT_OPEN n.val m.val k.aptr) = 1 ∧
        (now t fun e => e.phase = .issued ∧ e.pos = pend) ∧ memSame s t) ∧
    (s.moverCmd n.val m.val 4 = some k → s.apBase n.val m.val k.aptr + k.pos + step ≤ 3 * clsBase 1 → ∃ t, exec (.append h m8 [] false) s = .next t ∧
      (now t fun e => e.phase = .ran ∧ e.result = step) ∧
      ((k.endpoint 2).kind = 0 → (k.endpoint 2).cls ≤ 2 → s.poison = [] →
        imemHart (s.apBase n.val m.val k.aptr + k.pos) = none →
        ∀ x, t.rd x = if s.apBase n.val m.val k.aptr + k.pos ≤ x ∧ x < s.apBase n.val m.val k.aptr + k.pos + step
          then s.rd ((k.endpoint 2).dev + (x - (s.apBase n.val m.val k.aptr + k.pos))) else s.rd x)) ∧
    (s.moverCmd n.val m.val 5 = some k → pend < 2 ^ 32 → s.f (AP_COMMIT_COMMITTED n.val m.val k.aptr) < 2 ^ 32 → ∃ t, exec (.commit h m8) s = .next t ∧ memSame s t ∧ (now t fun e => e.phase = .ran) ∧
      (s.f (AP_STAT_OPEN n.val m.val k.aptr) = 0 → now t fun e => Status.state ∈ e.sts) ∧
      (s.f (AP_STAT_OPEN n.val m.val k.aptr) = 1 → t.f (AP_STAT_OPEN n.val m.val k.aptr) = 0 ∧
        (s.f (AP_STAT_BROKEN n.val m.val k.aptr) = 0 →
          t.f (AP_COMMIT_COMMITTED n.val m.val k.aptr) = pend ∧ t.f (AP_PEND_PENDING n.val m.val k.aptr) = pend) ∧
        (s.f (AP_STAT_BROKEN n.val m.val k.aptr) = 1 →
          t.f (AP_PEND_PENDING n.val m.val k.aptr) = s.f (AP_COMMIT_COMMITTED n.val m.val k.aptr) ∧
          t.f (AP_STAT_BROKEN n.val m.val k.aptr) = 0 ∧ now t fun e => Status.state ∈ e.sts))) ∧
    (s.absent n.val = false → s.apIdle n.val m.val a.val = true →
      (∃ t, exec (.apBaselWrite n m a v) s = .next t ∧ t.f (AP_BASEL_BASE_LO n.val m.val a.val) = v.toNat) ∧
      (∃ t, exec (.apBasehWrite n m a v) s = .next t ∧ t.f (AP_BASEH_BASE_HI n.val m.val a.val) = v.toNat % 2 ^ 16) ∧
      (∃ t, exec (.apLimitWrite n m a v) s = .next t ∧ t.f (AP_LIMIT_LIMIT n.val m.val a.val) = v.toNat) ∧
      (∃ t, exec (.apStepWrite n m a v) s = .next t ∧ t.f (AP_STEP_STEP n.val m.val a.val) = v.toNat % 2 ^ (AP_STEP_STEP 0 0 0).wid) ∧
      (∃ t, exec (.apCommitWrite n m a v) s = .next t ∧ t.f (AP_COMMIT_COMMITTED n.val m.val a.val) = v.toNat ∧
        t.f (AP_PEND_PENDING n.val m.val a.val) = v.toNat)) ∧
    (s.absent n.val = false → s.apIdle n.val m.val a.val = false →
      ∀ i ∈ [ Instr.apBaselWrite n m a v, .apBasehWrite n m a v, .apLimitWrite n m a v, .apStepWrite n m a v, .apCommitWrite n m a v],
        exec i s = .next (s.setF (AP_STAT_WIGN n.val m.val a.val) 1))

/-- R186, R187, R210, R245, R248, R263, R265: completion of PUT, GET, MCAST and SHEAF. That packets split at multiples of 512, and of 256 in HBM, is DEDUCED (log entry 17). -/
def Obligations.MeshPortCommands : Prop :=
  ∀ (n : Fin 1024) (s : State) (k : Cmd), (∀ e ∈ (s.hart n.val).cmds, e.id = k.id → e = k) →
    let now (t : State) (f : Cmd → Prop) : Prop := ∀ e ∈ (t.hart n.val).cmds, e.id = k.id → f e
    let part := s.partOf (n.val / 32)
    (∀ a l, 0 < l → let g := if a < clsBase 1 then 256 else 512
      (∀ x ∈ pktRuns a l, 0 < x.2 ∧ x.1 / g = (x.1 + x.2 - 1) / g ∧ a ≤ x.1 ∧ x.1 + x.2 ≤ a + l) ∧
      ((pktRuns a l).map Prod.snd).sum = l ∧ (pktRuns a l).Pairwise fun x y => x.1 + x.2 ≤ y.1) ∧
    let dest := (k.endpoint 4).dev
    let src := (k.endpoint 2).dev
    let base := (k.endpoint 2).addr * 4096
    let tile := (k.endpoint 2).kind = 1
    let room (l : List (Nat × Nat)) : Prop := (∀ e ∈ (s.hart n.val).cmds, (e.q = 4 → e = k) ∧ e.wait = 0) ∧
      s.openTxns n.val k.id = false ∧ k.pos = 0 ∧ Status.timeout ∉ k.sts ∧ l.length ≤ s.portRoom n.val
    let goes (t : State) (ps : List Pkt) (x : Nat × Nat) : Prop := t.pkts = s.pkts ++ ps ∧
      ps.head?.map (fun p => (p.addr, p.len)) = some x ∧ memSame s t ∧ tensorSame s t ∧
      now t fun e => e.phase = .issued ∧ k.pos + x.2 ≤ e.pos
    (s.nqCmd n.val 1 = some k → s.portFree n.val = true → ∃ t ps, exec (.put n [] false) s = .next t ∧
      goes t ps (nextRun dest k.pos k.len) ∧
      (room (pktRuns dest k.len) → ps.map (fun p => (p.addr, p.len)) = pktRuns dest k.len ∧ (now t fun e => e.pos = k.len) ∧
        ∀ p ∈ ps, p.typ = (if clsBase 15 ≤ dest then 8 else 2) ∧ p.part = part ∧ p.src = n.val ∧ p.txid = k.id ∧
          (tile → p.data = (List.range p.len).map fun j =>
            s.tile n.val ((base + (p.addr - dest) + j) / 4096) ((base + (p.addr - dest) + j) % 4096)))) ∧
    (s.nqCmd n.val 1 = some k → s.portFree n.val = false → exec (.put n [] false) s = .next s) ∧
    (s.nqCmd n.val 2 = some k → s.portFree n.val = true →
      ∃ t ps, exec (.get n) s = .next t ∧ goes t ps (nextRun src k.pos k.len) ∧
      (room (pktRuns src k.len) → ps.map (fun p => (p.addr, p.len)) = pktRuns src k.len ∧ (now t fun e => e.pos = k.len) ∧
        ∀ p ∈ ps, p.typ = (if clsBase 15 ≤ src then 8 else 1) ∧ p.part = part ∧ p.src = n.val ∧ p.data = [] ∧ p.txid = k.id)) ∧
    (s.nqCmd n.val 2 = some k → s.portFree n.val = false → exec (.get n) s = .next s) ∧
    (s.nqCmd n.val 3 = some k → k.pos = 0 → s.mcastGroup n.val (k.fld 7 0 8) = none → ∃ t, exec (.mcast n [] false) s = .next t ∧
      t.pkts = s.pkts ∧ now t fun e => e.phase = .ran ∧ Status.state ∈ e.sts) ∧
    (∀ g, s.nqCmd n.val 3 = some k → s.mcastGroup n.val (k.fld 7 0 8) = some g → s.portFree n.val = true → k.len ≤ 96 * 512 →
      room (pktRuns (clsBase 1) k.len) →
      ∃ t ps, exec (.mcast n [] false) s = .next t ∧ t.pkts = s.pkts ++ ps ∧ (now t fun e => e.phase = .issued ∧ e.pos = k.len) ∧
      ps.length = g.members.length * (pktRuns (clsBase 1) k.len).length ∧
      (∀ p ∈ ps, p.typ = 5 ∧ p.part = part ∧ p.gid = k.fld 7 0 8 ∧ p.seg < g.members.length ∧ (p.lastp = true ↔ p.addr + p.len = k.len)) ∧
      memSame s t ∧ tensorSame s t) ∧
    (let i := k.fld 7 0 8
     let r := (s.part part).sheafAt.get 0 i
     s.nqCmd n.val 4 = some k →
      (part = 0xFF ∨ r = 0 → ∃ t, exec (.sheaf n false) s = .next t ∧ t.pkts = s.pkts ∧ now t fun e => e.phase = .ran ∧ Status.state ∈ e.sts) ∧
      (∀ x src, part ≠ 0xFF → r ≠ 0 → s.sheaf (r - 1) i = some x → s.sheafSource n.val k = some src →
        s.f (SHF_STAT_STATE (r - 1) i) = 2 → shSegs (s.shDesc (r - 1) i).len ≤ s.portRoom n.val →
        let d := s.shDesc (r - 1) i
        (d.len ≠ k.len ∨ d.scale ≠ src.1 → ∃ t, exec (.sheaf n false) s = .next t ∧ t.pkts = s.pkts ∧
          now t fun e => e.phase = .ran ∧ Status.range ∈ e.sts) ∧
        (d.len = k.len → d.scale = src.1 → ∃ t ps, exec (.sheaf n false) s = .next t ∧ t.pkts = s.pkts ++ ps ∧
          ps.length = (d.len + 511) / 512 ∧ (∀ p ∈ ps, p.typ = 7 ∧ p.gid = i ∧ p.ccount = 1 ∧ p.dst = 5000 + (r - 1) ∧
            p.grains = (List.range (min 64 ((d.len - 512 * p.seg) / 8))).map fun j =>
              s.grainAt (decide ((k.endpoint 2).kind = 2)) n.val (k.endpoint 2).addr (64 * p.seg + j)) ∧
          (now t fun e => e.phase = .ran ∧ e.result = d.len / 8) ∧ memSame s t ∧ tensorSame s t)))

/-- R152, R191, R209, R247, R248, R254, R263, R546: completion of READ, WRITE, MGMT, IMEM_WRITE, RDATA, WACK, MRSP and MACK, at a port whose
field's mesh is in service and whose partition is not being reset (the other ports answer as LandingsLinksAndPorts says). -/
def Obligations.RequestsAndResponses : Prop :=
  ∀ (i : Nat) (p : Pkt) (s u : State),
    s.arrival i p.typ = some (p, u) → u.portStops p 0 = none → s.poison = [] →
    let reply (typ : Nat) (st : Status) (d : List Byte) : Pkt :=
      { pkt0 typ p.part p.dst p.src with
        num := u.net.next, sp := p.dp, dp := p.sp, addr := p.addr, len := p.len, txid := p.txid, gid := p.gid, status := st,
        seg := p.seg, data := d }
    let mem : Prop := ∃ n o, target p.addr = .loft n o ∨ target p.addr = .granary n o ∨ target p.addr = .hbm o
    let st := s.runStatus p.addr p.len
    (u.pkts = s.pkts.eraseIdx i ∧ memSame s u) ∧
    (∀ typ st d, (u.respond p typ st d).pkts = u.pkts ++ [ reply typ st d]) ∧
    (p.typ = 1 → mem → st = .ok → exec (.read i []) s = .next (u.respond p 3 .ok (s.rdN p.addr p.len))) ∧
    (p.typ = 1 → mem → st ≠ .ok → exec (.read i []) s = .next (u.respond p 3 st [])) ∧
    (p.typ = 2 → mem → st = .ok → ∃ t, exec (.write i []) s = .next t ∧ t.pkts = u.pkts ++ [ reply 4 .ok []] ∧
      memStores s t p.addr p.data) ∧
    (p.typ = 2 → mem → st ≠ .ok → exec (.write i []) s = .next (u.respond p 4 st [])) ∧
    (∀ off, p.typ = 8 → target p.addr = .csr off → st = .ok → p.data = [] → 
      exec (.mgmt i []) s = .next ((u.csrRead off).2.respond p 9 .ok (leBytes p.len (u.csrRead off).1.toNat))) ∧
    (∀ off, p.typ = 8 → target p.addr = .csr off → st = .ok → p.data ≠ [] → ∃ t, exec (.mgmt i []) s = .next t ∧
      t = (u.csrWrite off (BitVec.ofNat 32 (leVal p.data))).respond p 9 .ok []) ∧
    (∀ n o, p.typ = 2 → target p.addr = .imem n o → p.data ≠ [] → p.data.length ≤ 64 - p.addr % 64 → st = .ok →
      s.f (PST_STAT_STATE (n / 32)) = 0 → s.f (CC_STAT_STATE n) = 1 → ∃ t, exec (.imemWrite i []) s = .next t ∧ memSame s t ∧
      (t.hart n).ihold = (s.hart n).ihold ++ [ ⟨p.addr, p.data, s.copyU (n / 32), .req p⟩] ∧ t.pkts = u.pkts) ∧
    (∀ n o, p.typ = 2 → target p.addr = .imem n o → p.data ≠ [] → st = .ok → s.f (PST_STAT_STATE (n / 32)) = 0 →
      s.f (CC_STAT_STATE n) ≠ 1 → ∃ t, exec (.imemWrite i []) s = .next t ∧ memStores s t p.addr p.data) ∧
    (∀ k, s.findCmd p.dst p.txid = some k → p.dst < 1056 → s.epResetting p.dst = false → k.op ≠ 2 →
      (∀ e ∈ (s.hart p.dst).cmds, e.id = k.id → e = k) →
      let told (t : State) : Prop := memSame s t ∧ ∀ e ∈ (t.hart p.dst).cmds, e.id = k.id →
        e.sts = (if p.status = .ok then k.sts else k.sts ++ [ p.status]) ∧
        e.result = (if p.status = .ok ∨ p.status = .ecc then k.result + p.len else k.result) ∧
        (k.phase = .issued → k.len ≤ k.pos → (e.phase = .ran ↔ u.openTxns p.dst k.id = false))
      (p.typ = 3 → ∃ t, exec (.rdata i) s = .next t ∧ told t) ∧ (p.typ = 4 → ∃ t, exec (.wack i) s = .next t ∧ told t) ∧
      (p.typ = 9 → ∃ t, exec (.mrsp i) s = .next t ∧ told t)) ∧
    (∀ k, p.typ = 3 → s.findCmd p.dst p.txid = some k → s.epResetting p.dst = false → k.op = 2 → p.status = .ok →
      (k.endpoint 4).kind = 1 → ∃ t, exec (.rdata i) s = .next t ∧ memSame s t ∧
      (∀ j, j < p.data.length →
        let b := (k.endpoint 4).addr * 4096 + (p.addr - (k.endpoint 2).dev) + j
        (k.endpoint 2).dev ≤ p.addr → t.tile p.dst (b / 4096) (b % 4096) = p.data.getD j 0)) ∧
    (∀ k, p.typ = 6 → s.findCmd p.dst p.txid = some k → (∀ e ∈ (s.hart p.dst).cmds, e.id = k.id → e = k) →
      ∃ t, exec (.mack i) s = .next t ∧ memSame s t ∧ ∀ e ∈ (t.hart p.dst).cmds, e.id = k.id →
        e.result = (if p.status = .ok then k.result + k.len else k.result))

/-- R264, R267, R268, R321: completion, result and frame of SHF_ARM, SHF_CANCEL, SHEAF_OPEN, SHEAF_TIMEOUT, SHARM and SHCANCEL: the sheaf's
state and registers, its port entry, flits and memory. -/
def Obligations.SheavesArmOpenAndClose : Prop :=
  ∀ (c : Fin 32) (i : Fin 256) (s : State),
    let p := s.partOf c.val
    let d := s.shDesc c.val i.val
    let st := s.armStatus c.val i.val
    let kept (t : State) : Prop := memSame s t ∧ tensorSame s t ∧ t.pkts = s.pkts ∧ t.pending = s.pending
    let closed (t : State) (x : Status) : Prop := t.sheaf c.val i.val = none ∧ t.f (SHF_STAT_STATE c.val i.val) = 3 ∧
      t.f (SHF_STAT_STATUS c.val i.val) = x.code ∧ (t.part p).sheafAt.get 0 i.val = 0 ∧ kept t
    (st ≠ .ok → exec (.shfArm c i) s = .next (s.setF (SHF_STAT_STATUS c.val i.val) st.code)) ∧
    (st = .ok → ∃ t x, exec (.shfArm c i) s = .next t ∧ t.sheaf c.val i.val = some x ∧ x.armedAt = s.copyU c.val ∧ x.sums = [] ∧
      x.grains = [] ∧ x.void = false ∧ x.cmd = none ∧ t.f (SHF_STAT_STATE c.val i.val) = 1 ∧ t.f (SHF_STAT_ARRIVED c.val i.val) = 0 ∧
      t.f (SHF_STAT_CREFUSED c.val i.val) = 0 ∧ (t.part p).sheafAt.get 0 i.val = c.val + 1 ∧ t.flits = s.flits ∧ t.harts = s.harts ∧
      kept t ∧ fieldsSame s t [ SHF_STAT_STATE c.val i.val, SHF_STAT_ARRIVED c.val i.val, SHF_STAT_CREFUSED c.val i.val]) ∧
    (∀ x, s.sheaf c.val i.val = some x → s.f (SHF_STAT_STATE c.val i.val) = 1 →
      (x.cmd = none → exec (.sheafOpen c i) s = .next (s.setF (SHF_STAT_STATE c.val i.val) 2)) ∧
      (∀ id, x.cmd = some id → exec (.sheafOpen c i) s =
        .next ((s.setF (SHF_STAT_STATE c.val i.val) 2).modCmd (1024 + c.val) id fun k => { k with phase := .ran }))) ∧
    (s.f (SHF_STAT_STATE c.val i.val) ≠ 2 → exec (.shfCancel c i) s = .next s) ∧
    (∀ x, s.sheaf c.val i.val = some x → s.f (SHF_STAT_STATE c.val i.val) = 2 →
      (∃ t, exec (.shfCancel c i) s = .next t ∧ closed t .aborted ∧ t.flits = s.flits ∧ t.clus.get Clu.reset c.val =
        { s.clu c.val with sheaves := (s.clu c.val).sheaves.set none i.val none }) ∧
      (d.tmo ≠ 0 → ∃ t, exec (.sheafTimeout c i) s = .next t ∧ closed t .timeout ∧
        x.armedAt + d.tmo * 1000 * nsU ≤ t.copyU c.val ∧
        (d.toseq = false → if d.cen = true ∧ s.absent d.ccore = false
          then sends s t (cluPlace c.val 1 11) (.credit p d.ccore d.cn d.camt) else t.flits = s.flits) ∧
        (d.toseq = true → ∃ r l, (t.clu c.val).resWait = (s.clu c.val).resWait ++ [ (r, l)] ∧ r.id = i.val ∧ r.status = .timeout ∧
          r.lo = 0 ∧ r.hi = 0))) ∧
    (∀ k, (∀ e ∈ (s.hart (1024 + c.val)).cmds, e.id = k.id → e = k) → k.fld 2 0 8 = i.val →
      let now (t : State) (f : Cmd → Prop) : Prop := ∀ e ∈ (t.hart (1024 + c.val)).cmds, e.id = k.id → f e
      (s.seqCmd c.val 10 3 = some k → s.f (SHF_STAT_STATE c.val i.val) ≠ 1 → s.f (SHF_STAT_STATE c.val i.val) ≠ 2 →
        ∃ t, exec (.sharm c) s = .next t ∧ (∀ w, w < 6 → t.f (SHF_DESC_WORD c.val i.val w) = (k.word (w + 2)).toNat) ∧
          memSame s t ∧ tensorSame s t ∧ t.pkts = s.pkts ∧
          ((∃ x, t.sheaf c.val i.val = some x ∧ x.cmd = some k.id ∧ t.f (SHF_STAT_STATE c.val i.val) = 1 ∧
            now t fun e => e.phase = .issued ∧ e.pos = 1) ∨
           ∃ y : Status, y ≠ .ok ∧ t.f (SHF_STAT_STATUS c.val i.val) = y.code ∧ t.sheaf c.val i.val = s.sheaf c.val i.val ∧
            now t fun e => e.phase = .ran ∧ y ∈ e.sts)) ∧
      (s.seqCmd c.val 10 4 = some k → ∃ t, exec (.shcancel c) s = .next t ∧ kept t ∧ t.flits = s.flits ∧
        (now t fun e => e.phase = .ran ∧ e.result = 0 ∧ (s.f (SHF_STAT_STATE c.val i.val) ≠ 2 → e.sts = k.sts)) ∧
        (s.f (SHF_STAT_STATE c.val i.val) = 2 → (s.sheaf c.val i.val).isSome → closed t .aborted)))

/-- R266, R267, R269, R327: completion, result and frame of SHEAF_SEGMENT_ARRIVAL, SHEAF_COMBINE and SHEAF_RESULT_DELIVERY, at a port in
service whose partition is not being reset. -/
def Obligations.SheafSegmentsAndResults : Prop :=
  (∀ (i : Nat) (p : Pkt) (s u : State), s.arrival i 7 = some (p, u) → u.portStops p 7 = none → p.dst - 5000 < 32 → p.gid < 256 →
    let c := p.dst - 5000
    let d := s.shDesc c p.gid
    let segs := (d.len + 511) / 512
    let closed (t : State) (x : Status) : Prop := t.sheaf c p.gid = none ∧ t.f (SHF_STAT_STATE c p.gid) = 3 ∧
      t.f (SHF_STAT_STATUS c p.gid) = x.code ∧ (t.part (s.partOf c)).sheafAt.get 0 p.gid = 0
    u.pkts = s.pkts.eraseIdx i ∧
    ((∀ x, s.sheaf c p.gid = some x → x.gen ≠ p.txid ∨ x.closing = true) →
      exec (.sheafSegmentArrival i) s = .next ((u.absorbPkt p).raiseClu clsWarning 0x032 c p.gid)) ∧
    ∀ x, s.sheaf c p.gid = some x → x.gen = p.txid → x.closing = false →
      let y := x.take d.op p
      y.sums.get 0 p.seg = x.sums.get 0 p.seg + p.ccount ∧ y.void = (x.void || p.void) ∧
      (∀ j, j < p.grains.length → y.grains.get 0 (64 * p.seg + j) =
        if x.got.get 0 p.seg = 0 then p.grains.getD j 0
        else (shCombine d.op (x.grains.get 0 (64 * p.seg + j)) (p.grains.getD j 0)).1) ∧
      (d.count < y.sums.get 0 p.seg → ∃ t, exec (.sheafSegmentArrival i) s = .next t ∧ closed t .range ∧ memSame s t) ∧
      (y.sums.get 0 p.seg ≤ d.count → (∃ g, g < segs ∧ y.sums.get 0 g ≠ d.count) →
        ∃ t, exec (.sheafSegmentArrival i) s = .next t ∧ t.sheaf c p.gid = some y ∧ memSame s t ∧ t.pkts = u.pkts ∧ t.flits = s.flits ∧
          t.f (SHF_STAT_ARRIVED c p.gid) = min 65535 (shArrived y segs)) ∧
      (y.sums.get 0 p.seg ≤ d.count → (∀ g, g < segs → y.sums.get 0 g = d.count) → y.void = false →
        (d.toseq = false → imemHart d.dest = none → s.poison = [] → s.runStatus d.dest d.len = .ok →
          ∃ t, exec (.sheafSegmentArrival i) s = .next t ∧ closed t (if y.flags.sat then .sat else .ok) ∧
            memStores s t d.dest ((List.range (d.len / 8)).flatMap fun g => leBytes 8 ((y.grains.get 0 g) % (2 ^ 64 : Nat)).toNat)) ∧
        (d.toseq = true → ∃ t r l, exec (.sheafSegmentArrival i) s = .next t ∧ closed t (if y.flags.sat then .sat else .ok) ∧ memSame s t ∧
          (t.clu c).resWait = (s.clu c).resWait ++ [ (r, l)] ∧ r.id = p.gid ∧ r.flags = y.flags ∧
          r.lo.toNat + 2 ^ 32 * r.hi.toNat = ((y.grains.get 0 0) % (2 ^ 64 : Nat)).toNat))) ∧
  (∀ (i j : Nat) (a b : Pkt) (s : State), s.pkts[i]? = some a → s.pkts[j]? = some b → i ≠ j → a.typ = 7 → b.typ = 7 → a.part = b.part →
    a.gid = b.gid → a.seg = b.seg → a.txid = b.txid → (s.net.wholeAt a.num).isSome = true → s.net.wholeAt a.num = s.net.wholeAt b.num →
    ∃ m, exec (.sheafCombine i j) s = .next { s with pkts := (s.pkts.set i m).eraseIdx j, net := s.net.absorb m b.num } ∧ m.ccount = a.ccount + b.ccount ∧ m.void = (a.void || b.void) ∧
      m.typ = 7 ∧ m.gid = a.gid ∧ m.seg = a.seg ∧ m.txid = a.txid ∧
      (a.grains = [] → m.grains = b.grains) ∧ (b.grains = [] → a.grains ≠ [] → m.grains = a.grains) ∧
      (a.grains.length = b.grains.length → ∀ g, g < a.grains.length →
        m.grains.getD g 0 = (shCombine a.sop (a.grains.getD g 0) (b.grains.getD g 0)).1)) ∧
  ∀ (c : Fin 32) (s : State) (r : SheafRes) (l : List Flit) (q : List (SheafRes × List Flit)),
    (s.clu c.val).resWait = (r, l) :: q → (s.clu c.val).resq.length < 16 → ∃ u, exec (.sheafResultDelivery c) s = .next (u.retry (1024 + c.val)) ∧
      (u.clu c.val).resq = (s.clu c.val).resq ++ [ r] ∧ (u.clu c.val).resWait = q ∧
      (l = [] → u.flits = s.flits) ∧ (∀ fl, l = [ fl] → sends s u (cluPlace c.val 1 11) fl) ∧ memSame s u ∧ u.regs = s.regs ∧
      u.harts = s.harts ∧ ∀ d, d ≠ c.val → u.clu d = s.clu d

/-- R251, R255, R257, R262, R263, R271, R272: completion, result and frame of MCAST_LANDING, MCAST_STALL, LINK_REPLAY and ESCALATION, and what
the port does instead of READ, WRITE, MGMT, MCAST_LANDING and SHEAF_SEGMENT_ARRIVAL. -/
def Obligations.LandingsLinksAndPorts : Prop :=
  (∀ (i : Nat) (p : Pkt) (s u : State) (g : Group), s.arrival i 5 = some (p, u) → u.portStops p 6 = none →
    (s.part p.part).groups.get none p.gid = some g → (s.landing p).drop = false →
    (s.landing p).sts = [] → s.poison = [] →
    let m := g.members.getD p.seg []
    let a := memberBase m + p.addr
    s.runStatus a p.len = .ok → imemHart a = none → target a ≠ .csr (a % 0x1000000000000) →
    ∃ t, exec (.mcastLanding i []) s = .next t ∧ memStores s t a p.data ∧ tensorSame s t ∧
      (p.lastp = false → t.pkts = u.pkts ∧ t.flits = s.flits) ∧
      (p.lastp = true → (∃ q, t.pkts = u.pkts ++ [ q] ∧ q.typ = 6 ∧ q.src = p.dst ∧ q.dst = p.src ∧ q.txid = p.txid ∧ q.status = .ok) ∧
        (memberCen m = false → t.flits = s.flits) ∧
        (memberCen m = true → s.absent (memberCcore m) = false →
          sends u t (s.landPlace p.dst) (.credit p.part (memberCcore m) (memberCn m) (memberCamt m))))) ∧
  (∀ (f : Fin 16) (p : Fin 32) (g : Fin 256) (side : Fin 4) (failed : Nat) (s : State),
    exec (.mcastStall f p g) s = .next (s.raise clsWarning 0x031 p.val 7 f.val g.val) ∧
    (failed ≠ 16 → exec (.linkReplay f side failed) s = .next ((s.bump (MESH_RETRY_RETRIES f.val) 1).replay f.val side.val)) ∧
    (∀ x ∈ s.net.flits, nodeField x.node = f.val → x.inp = side.val → s.net.mc < x.ready →
      ∃ y ∈ (s.replay f.val side.val).net.flits, y.num = x.num ∧ y.k = x.k ∧ x.ready + 10 ≤ y.ready) ∧
    (∃ t, exec (.linkReplay f side 16) s = .next t ∧ t.f (MESH_RETRY_RETRIES f.val) = (s.bump (MESH_RETRY_RETRIES f.val) 1).f (MESH_RETRY_RETRIES f.val) ∧
      t.f EV_ALARM_PENDING = 1 ∧ memSame s t ∧ t.harts = s.harts ∧ t.pkts = s.pkts) ∧
    (∃ t, exec (.escalation f) s = .next t ∧ t.f (MESH_RETRY_ESC f.val) = (s.bump (MESH_RETRY_ESC f.val) 1).f (MESH_RETRY_ESC f.val) ∧
      t.pkts = s.pkts ∧ t.flits = s.flits ∧ memSame s t ∧
      ∀ y ∈ t.net.flits, y ∈ s.net.flits ∨ ∃ x ∈ s.net.flits, y = { x with esc := true } ∧ nodeField x.node = f.val ∧ x.vc ≠ 0 ∧
        ∀ z ∈ s.net.flits, nodeField z.node = f.val → z.vc ≠ 0 → z.esc = false → x.since ≤ z.since)) ∧
  ∀ (i : Nat) (p : Pkt) (s u : State) (c : Instr) (resp : Nat), s.arrival i p.typ = some (p, u) →
    (c, p.typ, resp) ∈ [ (Instr.read i [], 1, 3), (.write i [], 2, 4), (.mgmt i [], 8, 9), (.mcastLanding i [], 5, 6), (.sheafSegmentArrival i, 7, 7)] →
    let down := epField p.dst < 16 ∧ s.meshDown (epField p.dst) = true
    let drains := s.drainField = some (epField p.dst)
    (down → p.typ ≠ 7 → p.typ ≠ 5 → exec c s = .next (u.respond p resp .absent [])) ∧
    (down → p.typ = 5 → exec c s = .next (u.landDrop p [ .absent])) ∧
    (down → p.typ = 7 → exec c s = .next (u.absorbPkt p)) ∧
    (¬ down → drains → exec c s = .next (u.absorbPkt p)) ∧
    (¬ down → ¬ drains → s.epResetting p.dst = true → p.part ≠ 0xFF → exec c s = .next (u.absorbPkt p)) ∧
    (¬ down → ¬ drains → s.epResetting p.dst = true → p.part = 0xFF → p.typ ≠ 7 → exec c s = .next ((u.absorbPkt p).respond p resp .state []))

/-- R271, R272, R374, R421, R422: completion and results of PARTITION_RESET, MESH_DRAIN_END and MESH_RETURN_DRAIN_END. What the endpoints of a
partition hold after its reset is PRESUMED (log entry 41). -/
def Obligations.ResetsAndOutages : Prop :=
  (∀ (p : Fin 32) (s : State), (s.part p.val).held = true →
    (∃ t, exec (.partitionReset p false) s = .next t ∧ (t.part p.val).resetting = true ∧ (t.part p.val).groups = []) ∧
    ((s.part p.val).resetting = true → ∃ t, exec (.partitionReset p true) s = .next t ∧ (t.part p.val).resetting = false ∧
      (t.part p.val).ledger = [] ∧ t.f (PART_STAT_ABORT (partCsr p.val)) = 0 ∧ t.f (PART_STAT_LEDGER_BAD (partCsr p.val)) = 0 ∧
      t.f (PART_STAT_AUDIT (partCsr p.val)) = 1 ∧ (∀ q ∈ t.pkts, q ∈ s.pkts ∧ q.part ≠ p.val) ∧ memSame s t ∧ tensorSame s t ∧
      ∀ c < 32, s.partOf c = p.val → ∀ h ∈ cluHarts c, (t.hart h).cmds = [] ∧ (t.hart h).recs = [] ∧ (t.hart h).aq = [] ∧
        (t.hart h).stall = none)) ∧
  ∀ (f : Fin 16) (s : State), s.on MESH_STAT_DRAIN = true →
    (s.on (FIELD_THERM_TRIP f.val) = true → s.meshDown f.val = false → ∃ t, exec (.meshDrainEnd f) s = .next t ∧
      t.f (FIELD_INFO_MESH_DOWN f.val) = 1 ∧ t.f MESH_STAT_DOWN = f.val ∧ t.f MESH_STAT_ALT = 1 ∧ t.f MESH_STAT_DRAIN = 0 ∧
      t.f (PST_STAT_STATE (2 * f.val)) = 3 ∧ t.f (PST_STAT_CAUSE (2 * f.val)) = 3 ∧ t.f (PST_STAT_STATE (2 * f.val + 1)) = 3 ∧
      t.f (PST_STAT_CAUSE (2 * f.val + 1)) = 3 ∧ (t.fld f.val).selfRefresh = true ∧
      (∀ q ∈ t.pkts, q ∈ s.pkts) ∧ (∀ q ∈ s.pkts, epField q.dst ≠ f.val → q ∈ t.pkts) ∧ t.net.table = some f.val ∧ memSame s t) ∧
    (s.meshDown f.val = true → ∃ t, exec (.meshReturnDrainEnd f) s = .next t ∧ t.f (FIELD_INFO_MESH_DOWN f.val) = 0 ∧
      t.f MESH_STAT_DOWN = 31 ∧ t.f MESH_STAT_ALT = 0 ∧ t.f MESH_STAT_DRAIN = 0 ∧ t.f (FIELD_THERM_TRIP f.val) = 0 ∧
      (t.fld f.val).selfRefresh = false ∧ t.net.table = none ∧ memSame s t ∧ t.pkts = s.pkts)

/-- R261, R318, R320–R323: completion, RESULT and frame of CORE_START, CORE_CREDIT, HRES, HRES_END, HREF, GSET, GCLR, MARK and HINT. -/
def Obligations.SequencerCommands : Prop :=
  ∀ (c : Fin 32) (s : State) (k : Cmd), (∀ e ∈ (s.hart (1024 + c.val)).cmds, e.id = k.id → e = k) →
    let h := 1024 + c.val
    let p := s.partOf c.val
    let l := maskCores c.val (k.word 2)
    let ran (t : State) (sts : List Status) (r : Nat) : Prop :=
      (∀ e ∈ (t.hart h).cmds, e.id = k.id → e.phase = .ran ∧ e.result = r ∧ e.sts = k.sts ++ sts) ∧
      memSame s t ∧ tensorSame s t ∧ t.pkts = s.pkts ∧ t.pending = s.pending
    (s.seqCmd c.val 0 1 = some k →
      (s.startStatuses c.val l = [] → ∃ t, exec (.coreStart c) s = .next t ∧ ran t [] l.length ∧ ∀ n ∈ l, t.f (CC_STAT_STATE n) = 1 ∧
        t.f (CC_STAT_CAUSE n) = 0 ∧ (t.hart n).pc = k.fld 3 0 16 ∧ (t.hart n).sregs = (s.hart n).sregs) ∧
      (s.startStatuses c.val l ≠ [] → ∃ t, exec (.coreStart c) s = .next t ∧ ran t (s.startStatuses c.val l) 0 ∧ t.regs = s.regs)) ∧
    (s.seqCmd c.val 0 2 = some k → (∀ n ∈ l, (s.hart n).stall = none) → ∃ t, exec (.coreCredit c) s = .next t ∧
      ran t [] (l.filter fun n => !s.absent n).length ∧
      ∀ n ∈ l, s.absent n = false → s.retiring n = false → s.credit n (k.fld 3 0 4) + k.fld 3 8 8 < 2 ^ 32 →
        t.credit n (k.fld 3 0 4) = s.credit n (k.fld 3 0 4) + k.fld 3 8 8) ∧
    (let used := ([ c.val / 2 * 2, c.val / 2 * 2 + 1].flatMap fun d => (s.clu d).hres.filter fun r => r.1 = k.fld 2 0 1).foldl
        (fun a r => a + r.2.1) 0
     s.seqCmd c.val 9 1 = some k → ∃ t, exec (.hres c) s = .next t ∧
      (k.fld 2 4 4 = 0 ∨ 12 ≤ used → ran t [ .state] 0 ∧ (t.clu c.val).hres = (s.clu c.val).hres) ∧
      (k.fld 2 4 4 ≠ 0 → used < 12 → ran t [] (min (k.fld 2 4 4) (12 - used)) ∧ (t.clu c.val).hres = (s.clu c.val).hres ++
        [ (k.fld 2 0 1, min (k.fld 2 4 4) (12 - used), s.issueU c.val k + (k.word 3).toNat * nsU)])) ∧
    (∀ r q, (s.clu c.val).hres = r :: q → ∃ t e, exec (.hresEnd c) s = .next t ∧ (∃ x ∈ r :: q, x.2.2 = e) ∧ (∀ x ∈ r :: q, e ≤ x.2.2) ∧
      e ≤ t.copyU c.val ∧ (t.clu c.val).hres = (r :: q).filter (fun x => x.2.2 ≠ e) ∧ memSame s t) ∧
    (∀ n, s.seqCmd c.val 9 2 = some k → ∃ t, exec (.href c n) s = .next t ∧ ran t [] n) ∧
    (s.seqCmd c.val 10 1 = some k → s.poison = [] →
      let ms := s.memberList c.val (k.fld 3 0 16) (k.fld 2 8 7)
      let st := s.groupStatuses p (k.fld 2 0 8) (k.fld 2 16 10) ms
      ∃ t, exec (.gset c []) s = .next t ∧ (st ≠ [] → ran t st 0 ∧ t.parts = s.parts) ∧
        (st = [] → ran t [] (k.fld 2 8 7) ∧
          (t.part p).groups.get none (k.fld 2 0 8) = some ⟨k.fld 2 16 10, ms, false, []⟩)) ∧
    (s.seqCmd c.val 10 2 = some k →
      ((∃ q ∈ s.pkts, q.typ = 5 ∧ q.part = p ∧ q.gid = k.fld 2 0 8) → exec (.gclr c) s = .next s) ∧
      ((∀ q ∈ s.pkts, ¬ (q.typ = 5 ∧ q.part = p ∧ q.gid = k.fld 2 0 8)) → ∃ t, exec (.gclr c) s = .next t ∧ ran t [] 0 ∧
        (t.part p).groups.get none (k.fld 2 0 8) = none)) ∧
    (s.seqCmd c.val 11 1 = some k → ∃ t, exec (.mark c) s = .next t ∧ ran t [] 0 ∧ t.regs = s.regs) ∧
    (s.seqCmd c.val 11 2 = some k → ∃ t, exec (.hint c) s = .next t ∧ ran t [] 0 ∧ t.f (VPM_FSTAT_HINT (c.val / 2)) = 1 ∧
      (t.clu c.val).hints = (s.clu c.val).hints ++ [ (k.launch, k.launch + (k.word 2).toNat * nsU, k.fld 3 0 4)] ∧
      k.launch + (k.word 2).toNat * nsU ≤ (t.fld (c.val / 2)).hintEnd)

/-- R271, R272, R357, R372: completion of CREDIT_ARRIVAL, INBOX_CREDIT, INBOX_ARRIVE, INBOX_MAIL, RECORD_COPY_ARRIVAL and CORE_REPORT_ARRIVAL in
a cluster that does not run. That CTRL flits to a cluster in Off are absorbed is DEDUCED (log entry 46). -/
def Obligations.FlitsAtTheirCluster : Prop :=
  ∀ (i : Nat) (fl : Flit) (s u : State), s.flight i = some (fl, u) →
    let c := (arrivalRow i fl).2
    c < 32 → u.flits = s.flits ∧ memSame s u ∧ u.harts = s.harts ∧ u.regs = s.regs ∧
    (s.f (PST_STAT_STATE c) = 3 → ∃ t, exec (arrivalRow i fl).1 s = .next t ∧ t.flits = s.flits.eraseIdx i ∧ t.harts = s.harts ∧
      t.clus = s.clus ∧ t.f (MESH_ABSORB_PACKETS (c / 2)) = (s.bump (MESH_ABSORB_PACKETS (c / 2)) 1).f (MESH_ABSORB_PACKETS (c / 2)) ∧
      memSame s t) ∧
    (s.f (PST_STAT_STATE c) = 2 → s.meshDown (c / 2) = false → s.drainField ≠ some (c / 2) →
      (s.partOf c = 0xFF ∨ (s.part (s.partOf c)).resetting = false) →
      ∃ t, exec (arrivalRow i fl).1 s = .next t ∧ t = u.wakeClu c ∧ t.flits = s.flits ∧ (s.clu c).wake ≤ (t.clu c).wake)

/-- R144, R146, R312, R324, R326, R547: completion and result of CREDIT_ARRIVAL, INBOX_CREDIT, INBOX_MAIL, RECORD_COPY_ARRIVAL and
CORE_REPORT_ARRIVAL at a cluster that runs; `retry` is the stalled instruction's next try (R137). -/
def Obligations.CreditsMailCopiesAndReports : Prop :=
  ∀ (i : Nat) (fl : Flit) (s v : State), s.flight i = some (fl, v) →
    let c := (arrivalRow i fl).2
    s.ctrl c = .deliver →
    let u : State := { v.wakeClu c with flits := s.flits.eraseIdx i }
    let w : Nat := 1024 + c
    (∀ p n cn a, fl = .credit p n cn a → n < 1024 → cn < 16 → 
      (s.absent n = true ∨ s.retiring n = true →
        exec (.creditArrival i) s = .next ((u.ledgerAdd p lRefused a).raiseCore clsWarning 0x011 n (cn + a * 65536))) ∧
      (s.absent n = false → s.retiring n = false → ∃ t, exec (.creditArrival i) s = .next (t.retry n) ∧ t.harts = u.harts ∧
        (s.credit n cn + a < 2 ^ 32 → t = u.setF (CC_CRED_COUNT n cn) (s.credit n cn + a) ∧ t.credit n cn = s.credit n cn + a) ∧
        (2 ^ 32 ≤ s.credit n cn + a → t.credit n cn = s.credit n cn ∧ t.f (CC_FSUM_CREDIT n) = 1))) ∧
    (∀ p y x, fl = .inbox p c y x → c < 32 →
      (∀ n a, s.inboxOf c y = .credit n a → s.credit w n + a < 2 ^ 32 →
        exec (.inboxCredit i) s = .next ((u.setF (CC_CRED_COUNT w n) (s.credit w n + a)).retry w)) ∧
      (∀ m, s.inboxOf c y = .mail m → (s.clu c).mail.length < 64 → ∃ t, exec (.inboxMail i) s = .next (t.retry w) ∧
        (t.clu c).mail = (s.clu c).mail ++ [ (m, x)] ∧ t.harts = u.harts ∧ t.regs = s.regs ∧ memSame s t) ∧
      (∀ m, s.inboxOf c y = .mail m → 64 ≤ (s.clu c).mail.length → ∃ t, exec (.inboxMail i) s = .next t ∧ t.clus = s.clus ∧
        t.harts = u.harts ∧ t.f (SEQ_DROP_MDROP c) = min (s.f (SEQ_DROP_MDROP c) + 1) 255) ∧
      (s.inboxOf c y = .refused → ∃ t, exec (arrivalRow i fl).1 s = .next t ∧ t.clus = s.clus ∧ t.harts = u.harts ∧
        t.f (SEQ_DROP_INBAD c) = min (s.f (SEQ_DROP_INBAD c) + 1) 255)) ∧
    (∀ r, fl = .copy c r → c < 32 →
      (((s.hart w).recs.filter fun x => x.q = 15).length < 64 → ∃ t, exec (.recordCopyArrival i) s = .next (t.retry w) ∧
        (t.hart w).recs = (s.hart w).recs ++ [ r] ∧ t.regs = s.regs ∧ t.clus = s.clus ∧ memSame s t) ∧
      (64 ≤ ((s.hart w).recs.filter fun x => x.q = 15).length → ∃ t, exec (.recordCopyArrival i) s = .next t ∧ t.harts = u.harts ∧
        t.f (SEQ_DROP_CDROP c) = min (s.f (SEQ_DROP_CDROP c) + 1) 255)) ∧
    (∀ n v, fl = .halt n v → exec (.coreReportArrival i) s = .next (u.setF (SEQ_HALTED_HALTED c) (s.f (SEQ_HALTED_HALTED c) ||| 2 ^ (n % 32)))) ∧
    (∀ n v, fl = .exc n v → exec (.coreReportArrival i) s = .next (u.setF (SEQ_EXCM_EXC c) (s.f (SEQ_EXCM_EXC c) ||| 2 ^ (n % 32))))

/-- R325: completion, result and frame of INBOX_ARRIVE and SEQ_BAR_ARRIVE. An EXPECT of 0 disables the barrier. -/
def Obligations.BarriersReleaseAtExpect : Prop :=
  ∀ (c : Fin 32) (b : Fin 8) (i p : Nat) (v x : Word) (s : State),
    let a := s.f (SEQ_BAR_ARRIVED c.val b.val)
    let e := s.f (SEQ_BAR_EXPECT c.val b.val)
    let arrived (t : State) : Prop := memSame s t ∧ tensorSame s t ∧ t.pkts = s.pkts ∧
      (∀ d, d ≠ b.val → d < 8 → t.f (SEQ_BAR_ARRIVED c.val d) = s.f (SEQ_BAR_ARRIVED c.val d) ∧
        t.f (SEQ_BAR_GEN c.val d) = s.f (SEQ_BAR_GEN c.val d)) ∧
      (e = 0 → t.f (SEQ_BAR_ARRIVED c.val b.val) = a ∧ t.f (SEQ_BAR_GEN c.val b.val) = s.f (SEQ_BAR_GEN c.val b.val)) ∧
      (a + 1 < e → t.f (SEQ_BAR_ARRIVED c.val b.val) = a + 1 ∧ t.f (SEQ_BAR_GEN c.val b.val) = s.f (SEQ_BAR_GEN c.val b.val)) ∧
      (0 < e → e ≤ a + 1 → t.f (SEQ_BAR_ARRIVED c.val b.val) = 0 ∧
        t.f (SEQ_BAR_GEN c.val b.val) = (s.f (SEQ_BAR_GEN c.val b.val) + 1) % 256 ∧
        ∀ n ∈ maskCores c.val (BitVec.ofNat 32 (s.f (SEQ_BRMASK_MASK c.val b.val))),
          ⟨0, 2048 + c.val, .credit (s.partOf c.val) n (s.f (SEQ_BRCTL_CN c.val b.val)) (s.f (SEQ_BRCTL_CAMT c.val b.val))⟩ ∈ t.flits)
    e < 128 → 
    (∃ t, exec (.seqBarArrive c b) s = .next t ∧ arrived t) ∧
    (∀ u, s.flight i = some (.inbox p c.val v x, u) → s.ctrl c.val = .deliver → s.inboxOf c.val v = .arrive b.val →
      ∃ t, exec (.inboxArrive i) s = .next t ∧ arrived t)

/-- R137, R151, R152, R157, R251, R307: completion and result of SEQ_CTL_START, WATCHDOG_EXPIRY, IMEM_HOLD_TIMEOUT, WAITT_TIME_REACHED and
VC0_BUCKET_REFILL. -/
def Obligations.StartsTimersAndBuckets : Prop :=
  (∀ (c : Fin 32) (e : BitVec 18) (s : State),
    let h := 1024 + c.val
    (s.f (CC_STAT_STATE h) ≠ 1 → ∃ t, exec (.seqCtlStart c e) s = .next t ∧ t.f (CC_STAT_STATE h) = 1 ∧ t.f (CC_STAT_CAUSE h) = 0 ∧
      t.f (SEQ_CTL_ENTRY c.val) = e.toNat / 4 * 4 ∧ (t.hart h).pc = e.toNat / 4 * 4 ∧ (t.hart h).sregs = (s.hart h).sregs ∧
      (t.hart h).stall = none ∧ memSame s t) ∧
    (s.f (CC_STAT_STATE h) = 1 → exec (.seqCtlStart c e) s =
      .next ((s.setF (SEQ_CTL_ENTRY c.val) (e.toNat / 4 * 4)).raiseClu clsWarning 0x012 c.val 0))) ∧
  (∀ (h : Fin 1056) (s : State),
    let c := hartClu h.val
    (s.f (CC_STAT_STATE h.val) = 1 → s.f (CC_WDOG_PERIOD_US h.val) ≠ 0 → s.f (PST_STAT_STATE c) = 0 →
      exec (.watchdogExpiry h) s = .next ((s.advanceCopy c (s.hart h.val).wdogEnd).exc h.val 8 (s.hart h.val).pc)) ∧
    (∀ w l, (s.hart h.val).ihold = w :: l → ∃ t, exec (.imemHoldTimeout h) s = .next t ∧ (t.hart h.val).ihold = [] ∧
      t.f (CC_FSUM_IDISCARD h.val) = 1 ∧ t.f (CC_IHOLD_DISCARDS h.val) = min (s.f (CC_IHOLD_DISCARDS h.val) + (l.length + 1)) 255 ∧
      w.since + s.f (CC_IHOLD_TIMEOUT_US h.val) * 1000 * nsU ≤ t.copyU c ∧ memSame s t) ∧
    (∀ ag z1 a z0, (s.hart h.val).stall = some (.waitt ag z1 a z0) → ag.hart = h.val → (Instr.waitt ag z1 a z0).wf = true →
      ready (s.modHart h.val fun x => { x with stall := none }) h.val → unres s h.val [ a.toNat, a.toNat + 1] → s.copyU c < 2 ^ 64 →
      ∃ t, exec (.waittTimeReached h) s = .next t ∧ (t.hart h.val).pc = (s.hart h.val).pc + 4 ∧ (t.hart h.val).stall = none ∧
        s.pair h.val a.toNat ≤ t.copyU c ∧ memSame s t ∧ (t.hart h.val).sregs = (s.hart h.val).sregs)) ∧
  ∀ (r : Fin 128) (p : Fin 17) (s : State),
    let pl := 16 * r.val + p.val
    ∃ u, exec (.vc0BucketRefill (r, p)) s = .next ((nodeHarts r.val).foldl State.retry u) ∧ memSame s u ∧ u.regs = s.regs ∧
      u.harts = s.harts ∧
      ((∀ q, q < 16 → (s.vport (16 * r.val + q)).queue = []) → u.flits = s.flits ∧
        (p.val < 16 → (u.vport pl).bucket = min 2 ((s.vport pl).bucket + 1) ∧ u.rbucket = s.rbucket) ∧
        (p.val = 16 → Store.get 2 u.rbucket r.val = min 2 (Store.get 2 s.rbucket r.val + 1) ∧ u.vports = s.vports)) ∧
      (∀ f l, p.val < 16 → (s.vport pl).queue = f :: l → (∀ q, q < 16 → q ≠ p.val → (s.vport (16 * r.val + q)).queue = []) →
        s.portShut pl = false → 0 < Store.get 2 s.rbucket r.val → ∃ m, u.flits.map Flight.fl = s.flits.map Flight.fl ++ f :: m ∧
          m ++ (u.vport pl).queue = l)

/-- R276, R284, R287–R292, R302: completion and result of BEACON_SEND, BEACON_ARRIVAL, BEACON_MISS, COPY_FOLLOW, OSC_COPY_LOAD,
PATH_RECALIBRATION, WRAPSOON, DTIME_WRAP, REF_LOSS, REF_RETURN, REF_RELOCK and TIME_NOWL_READ. That the removal runs on between beacons is
DEDUCED (log entry 47), and that a step placed at a DTIME is no earlier (log entry 4). -/
def Obligations.BeaconsAndKeepers : Prop :=
  ∀ (u : Fin 36) (c : Fin 32) (path extra d : Nat) (s : State),
    let n := s.tim.bSeq
    let pl := 16 * routerKey (beaconFrom (s.f BOOT_STAT_MASTER)) + 14
    let aim : Int := ((s.tim.bT + 256 * s.pathOf u.val + 256 * (extra / 256) : Nat) : Int)
    let at0 := s.advanceTo (s.tim.bT + path + extra)
    let e : Int := aim - ((at0.dtime : Int) + at0.keepOfs u.val)
    let valid := if u.val < 32 then s.on (TIME_ERR_VALID u.val) else (s.tim.cdie.get Keep.reset (u.val - 32)).valid
    let kept (t : State) : Prop := memSame s t ∧ t.harts = s.harts ∧ t.pkts = s.pkts ∧ t.flits = s.flits ∧ t.pending = s.pending
    (∃ t, exec (.beaconSend) s = .next t ∧ kept t ∧ t.tim.bT = t.dtime ∧ (t.dtime % 2 ^ 64) % (1000 * nsU) = 0 ∧ s.dtime ≤ t.dtime ∧
      t.tim.bSeq = n + 1 ∧ (n ≠ 0 → s.tim.bT < t.tim.bT) ∧ t.tim.bRate = s.fInt TIME_RATE_RATE ∧ t.tim.bSrc = s.f TIME_STAT_SRC ∧
      t.tim.bEra = s.f TIME_STAT_ERA ∧ t.regs = s.regs ∧ (t.vport pl).bucket = (s.vport pl).bucket - 1 ∧
      ∃ fl ∈ t.net.flits, fl.num = t.tim.bNum ∧ fl.vc = 0 ∧
        fl.tos.map Route.dp = ((List.range 36).filter fun v => v ≠ 32 + s.f BOOT_STAT_MASTER).map beaconPlace) ∧
    (s.heardOf u.val < n → u.val ∉ s.tim.stale → ∃ t, exec (.beaconArrival u path extra) s = .next t ∧ kept t ∧ t.heardOf u.val = n ∧
      t.dtime = max s.dtime (s.tim.bT + path + extra) ∧
      (valid = true → t.keepOfs u.val = at0.keepOfs u.val ∧ (t.keeper u.val).eps = e ∧ (t.keeper u.val).since = t.dtime) ∧
      (valid = false → (t.dtime : Int) + t.keepOfs u.val = aim ∧ (t.keeper u.val).eps = 0) ∧ (t.keeper u.val).rate = s.tim.bRate ∧
      (u.val < 32 → t.f (TIME_ERR_VALID u.val) ≠ 0 ∧ t.f (TIME_ERR_MISS u.val) = 0 ∧ t.fInt (TIME_ERR_ERR u.val) = errShown e ∧
        (valid = false ∨ e.natAbs ≤ 64 * nsU → t.f (TIME_ERR_BIG u.val) = 0) ∧
        (valid = true → 64 * nsU < e.natAbs → s.partOf u.val ≠ 0xFF → t.f (TIME_ERR_BIG u.val) = 1)) ∧
      (32 ≤ u.val → (t.tim.cdie.get Keep.reset (u.val - 32)).valid = true ∧ (t.tim.cdie.get Keep.reset (u.val - 32)).miss = false)) ∧
    (∃ t, exec (.beaconMiss u) s = .next t ∧ kept t ∧ s.tim.beat.get 0 u.val + 16000 * nsU ≤ t.dtime ∧ t.keeper u.val = s.keeper u.val ∧
      (u.val < 32 → t.f (TIME_ERR_MISS u.val) = 1) ∧ (32 ≤ u.val → (t.tim.cdie.get Keep.reset (u.val - 32)).miss = true)) ∧
    (s.f (CLK_STAT_SRC c.val) = 0 → s.f (PST_STAT_STATE c.val) = 0 → ∃ t, exec (.copyFollow c) s = .next t ∧ kept t ∧
      t.dtime = s.dtime ∧ t.copyU c.val = s.copyU c.val ∧ (t.clu c.val).keeper = (s.clu c.val).keeper ∧
      (let o := (s.clu c.val).copyOfs s.dtime
       ((t.clu c.val).copyOfs (t.dtime + d) - o).natAbs * 1000 ≤ d ∧
        ((s.keepOfs c.val - o).natAbs * 1000 ≤ d → (t.clu c.val).copyOfs (t.dtime + d) = s.keepOfs c.val))) ∧
    (s.f (CLK_STAT_SRC c.val) ≠ 0 → s.f (PST_STAT_STATE c.val) = 0 → ∃ t, exec (.oscCopyLoad c) s = .next t ∧ kept t ∧
      t.dtime = s.dtime ∧ (t.clu c.val).copyOfs (t.dtime + d) = max ((s.clu c.val).copyOfs s.dtime) (s.keepOfs c.val)) ∧
    (∃ t, exec (.pathRecalibration u d) s = .next t ∧ kept t ∧ u.val ∉ t.tim.stale ∧ t.pathOf u.val = d % 65536) ∧
    (s.f TIME_STAT_WRAPSOON = 0 → ∃ t, exec (.wrapsoon) s = .next t ∧ kept t ∧ t.f TIME_STAT_WRAPSOON = 1 ∧ t.wrapAt = s.wrapAt ∧
      t.dtime = max s.dtime (s.wrapAt - 10 * secU)) ∧
    (∃ t, exec (.dtimeWrap) s = .next t ∧ kept t ∧ t.dtime = max s.dtime s.wrapAt ∧ t.wrapAt = s.wrapAt + 2 ^ 64 ∧
      (s.dtime ≤ s.wrapAt → t.now = 0) ∧ t.f TIME_STAT_WRAPSOON = 0 ∧ t.f TIME_STAT_ERA = min (s.f TIME_STAT_ERA + 1) 255) ∧
    (∃ t, exec (.refLoss) s = .next t ∧ kept t ∧ t.f MOD_PINS_REFOK = 0 ∧ t.f TIME_STAT_REFHOLD ≠ 0 ∧
      (s.f TIME_STAT_REFHOLD = 0 → t.f EV_ALARM_PENDING = 1)) ∧
    (∃ t, exec (.refReturn) s = .next t ∧ kept t ∧ t.f MOD_PINS_REFOK = 1 ∧ t.tim.refBack = s.on TIME_STAT_REFHOLD ∧
      t.f TIME_STAT_REFHOLD = s.f TIME_STAT_REFHOLD) ∧
    (s.tim.refBack = true → ∃ t, exec (.refRelock) s = .next t ∧ kept t ∧ t.f TIME_STAT_REFHOLD = 0) ∧
    exec (.timeNowlRead) s = .next (s.setF TIME_NOWH_NOW_HI (s.now / 2 ^ 32))

/-- R295–R298, R449: completion and result of PTP_SYNC, PTP_FOLLOW_UP, PTP_DELAY_RESP, PDELAY_REQ, PDELAY_RESP, PTP_ANNOUNCE, PTP_LOSS,
PPS_IN_EDGE, PPS_IN_LOSS and PPS_OUT. `bestSrc` is R295's order. The trim is a free value within its bound (log entry 3), and the order of the
data sets is PRESUMED of IEEE 1588-2019 (log entry 47). -/
def Obligations.SourcesOfTime : Prop :=
  (∀ (m : PtpSrc) (seq t1 : Nat) (corr : Int) (two : Bool) (s : State),
    (s.ptpHears m = true → s.fromGm m.id = true →
      exec (.ptpSync m seq true t1 corr) s = .next { s with tim := { s.tim with twoStep := some (seq, s.stamp) } } ∧
      exec (.ptpSync m seq false t1 corr) s = .next (s.ptpApply (t1 + corr) s.stamp) ∧
      (∀ t2, s.tim.twoStep = some (seq, t2) →
        exec (.ptpFollowUp m seq t1 corr) s = .next (s.ptpApply (t1 + corr) t2))) ∧
    (s.f PTP_CFG_EN = 0 ∨ m.dom ≠ s.f PTP_CFG_DOMAIN ∨ m.tr ≠ s.f PTP_CFG_TRANSPORT → exec (.ptpSync m seq two t1 corr) s = .next s ∧
      exec (.ptpFollowUp m seq t1 corr) s = .next s)) ∧
  (∀ (o : Int) (t2 : Nat) (s : State),
    let t := s.ptpApply o t2
    let e : Int := ((s.epoch * nsU + t2 : Nat) : Int) - o - s.tim.delay
    let fresh := ((o + s.tim.delay - (t2 : Int)) / nsU).toNat
    t.tim.ptpUp = true ∧ t.tim.syncAt = s.dtime ∧ t.f TIME_STAT_SRC = t.bestSrc ∧ memSame s t ∧ t.dtime = s.dtime ∧
    (t.f TIME_STAT_SRC = 3 → t.fInt TIME_OFS_OFS = max (-(2 ^ 31 : Int)) (min (2 ^ 31 - 1 : Int) (e.tdiv 256)) ∧
      (fresh < 2 ^ 48 * 1000000000 → (s.tim.locked = false ∨ 1000000 * nsU < e.natAbs) → t.epoch = fresh) ∧
      (s.tim.locked = false → t.tim.locked = true) ∧
      (s.tim.locked = true → e.natAbs ≤ 1000000 * nsU → t.epoch = s.epoch ∧ (t.fInt TIME_RATE_RATE).natAbs ≤ ppm100 ∧
        (0 < e → t.fInt TIME_RATE_RATE ≤ max (-(ppm100 : Int)) (s.fInt TIME_RATE_RATE)) ∧
        (e < 0 → min (ppm100 : Int) (s.fInt TIME_RATE_RATE) ≤ t.fInt TIME_RATE_RATE))) ∧
    (t.f TIME_STAT_SRC ≠ 3 → t.epoch = s.epoch)) ∧
  ∀ (s : State) (m : PtpSrc) (p1 cls acc var p2 steps seq t1 t2 t3 t4 : Nat) (corr : Int),
    (s.ptpHears m = true → s.f PTP_CFG_P2P = 0 → s.tim.ptpUp = true →
      exec (.ptpDelayResp m (t3, t4) corr) s = .next { s with tim := { s.tim with
        delay := ((s.tim.syncT2 - s.tim.syncT1) + ((t4 : Int) - corr - ((s.epoch * nsU + t3 : Nat) : Int))) / 2 } }) ∧
    (s.ptpHears m = true → s.f PTP_CFG_P2P ≠ 0 → exec (.pdelayResp m t1 (t2, t3) t4) s = .next { s with tim := { s.tim with
      delay := (((t4 : Int) - t1) - ((t3 : Int) - t2)) / 2 } }) ∧
    (s.ptpHears m = true → s.f PTP_CFG_P2P ≠ 0 → s.f ETH_STAT_UP ≠ 0 → exec (.pdelayReq m seq) s =
      .next { s with eth := { s.eth with
        txq := s.eth.txq ++ [ (txPtp, [ 20, m.id, seq, s.stamp])] ++ [ (txPtp, [ 21, m.id, seq, s.stamp])] } }) ∧
    (s.ptpHears m = true → ∃ t g, exec (.ptpAnnounce p1 cls acc var p2 m steps) s = .next t ∧ t.tim.gm = some g ∧
      g ∈ t.tim.foreign ∧ (∀ y ∈ t.tim.foreign, lexLt y.key g.key = false ∧ s.dtime ≤ y.heardAt + announceU) ∧
      (⟨p1, cls, acc, var, p2, m.id, steps, s.dtime⟩ ∈ t.tim.foreign) ∧ t.f TIME_STAT_SRC = t.bestSrc ∧ memSame s t) ∧
    (s.tim.ptpUp = true → ∃ t, exec (.ptpLoss) s = .next t ∧ t.tim.ptpUp = false ∧ t.tim.gm = none ∧
      t.dtime = max s.dtime (s.tim.syncAt + 8 * s.syncU) ∧
      t.f TIME_STAT_SRC = t.bestSrc ∧ t.f TIME_STAT_SRC ≠ 3 ∧ t.epoch = s.epoch) ∧
    (∃ t, exec (.ppsInEdge) s = .next t ∧ t.f MOD_PINS_PPSIN = 1 ∧ t.tim.ppsAt = s.dtime ∧ t.f TIME_STAT_SRC = t.bestSrc ∧ memSame s t ∧
      (∀ sec ns, s.tim.todNext = some (sec, ns) → s.now / nsU ≤ sec * 1000000000 + ns → sec * 1000000000 + ns < 2 ^ 48 * 1000000000 →
        t.epoch + s.now / nsU = sec * 1000000000 + ns ∧ t.tim.todSet = true ∧ t.tim.todNext = none) ∧
      (s.tim.todNext = none → t.epoch = s.epoch) ∧ (t.f TIME_STAT_SRC = 2 → (t.fInt TIME_RATE_RATE).natAbs ≤ ppm100)) ∧
    (s.f MOD_PINS_PPSIN ≠ 0 → ∃ t, exec (.ppsInLoss) s = .next t ∧ t.f MOD_PINS_PPSIN = 0 ∧ s.tim.ppsAt + 2 * secU ≤ t.dtime ∧
      t.f TIME_STAT_SRC = t.bestSrc ∧ t.f TIME_STAT_SRC ≠ 2 ∧ t.epoch = s.epoch) ∧
    (∃ t, exec (.ppsOut) s = .next t ∧ s.dtime ≤ t.dtime ∧ t.tim.ppsOutAt = some t.dtime ∧ t.regs = s.regs ∧
      ((if s.f TIME_STAT_SRC = 0 then 0 else s.epoch) * nsU + t.dtime) % secU = 0 ∧ ∀ a, s.tim.ppsOutAt = some a → a < t.dtime)

/-- R299–R301, R470, R471: completion and result of TSYNC_SEND, TSYNC_RECEIVE, ELECTION_KEY_SEND, ELECTION_KEY_RECEIVE and PARENT_LOSS. Keys
forgotten at a parent's loss are DEDUCED (log entry 47). -/
def Obligations.TimeAcrossModules : Prop :=
  ∀ (l : Fin 16) (t2 t3 cls hold sys hops : Nat) (s : State),
    let kept (t : State) : Prop := memSame s t ∧ t.harts = s.harts ∧ t.pkts = s.pkts ∧ t.pending = s.pending
    (s.f (OCT_LSTAT_UP l.val) ≠ 0 →
      (∃ t, exec (.tsyncSend l) s = .next t ∧ (t.olink l.val).t1 = (s.dieTime (l.val / 4)).toNat ∧ t.regs = s.regs ∧ kept t) ∧
      (let t4 := s.dieTime (l.val / 4)
       let a : Int := (t2 : Int) - (s.olink l.val).t1
       let b : Int := t4 - t3
       let d := (a - b) / 2
       ∃ t, exec (.tsyncReceive l t2 t3) s = .next t ∧ kept t ∧ (t.olink l.val).offset = d ∧ (t.olink l.val).t2 = t2 ∧
        (t.olink l.val).t3 = t3 ∧ (t.olink l.val).t4 = t4.toNat ∧ t.f (OCT_LDELAY_DELAY l.val) = min 65535 (((a + b) / 2).toNat / 16384) ∧
        (s.f OCT_SYS_PARENT = l.val → s.f TIME_STAT_SRC = 4 →
          t.fInt TIME_OFS_OFS = max (-(2 ^ 31 : Int)) (min (2 ^ 31 - 1 : Int) ((-d).tdiv 256)) ∧
          (d.natAbs ≤ 8 * nsU → t.f TIME_STAT_UNSYNC = 0 ∧ t.dtime = s.dtime ∧ (t.fInt TIME_RATE_RATE).natAbs ≤ ppm100) ∧
          (8 * nsU < d.natAbs → s.partsRun = false → t.f TIME_STAT_UNSYNC = 0 ∧ t.dtime = ((s.dtime : Int) + d).toNat ∧
            (0 ≤ (s.dtime : Int) + d → ∀ u < 36, (t.dtime : Int) + t.keepOfs u = (s.dtime : Int) + s.keepOfs u)) ∧
          (8 * nsU < d.natAbs → s.partsRun = true → t.f TIME_STAT_UNSYNC = 1 ∧ t.dtime = s.dtime ∧
            (t.fInt TIME_RATE_RATE).natAbs ≤ ppm1000 ∧
            (0 < d → min (ppm1000 : Int) (s.fInt TIME_RATE_RATE) ≤ t.fInt TIME_RATE_RATE) ∧
            (d < 0 → t.fInt TIME_RATE_RATE ≤ max (-(ppm1000 : Int)) (s.fInt TIME_RATE_RATE)))) ∧
        ((s.f OCT_SYS_PARENT ≠ l.val ∨ s.f TIME_STAT_SRC ≠ 4) → t.dtime = s.dtime ∧ t.f TIME_RATE_RATE = s.f TIME_RATE_RATE)) ∧
      (∃ u, (u.olink l.val).key = [ cls, hold, sys] ∧ (u.olink l.val).keyHops = hops ∧ (u.olink l.val).keyValid = true ∧ u.regs = s.regs ∧
        u.dtime = s.dtime ∧ kept u ∧ exec (.electionKeyReceive l cls hold sys hops) s = .next u.elect)) ∧
    (∃ t, exec (.electionKeySend) s = .next t ∧ kept t ∧ t.regs = s.regs ∧ t.tim.keySent =
      if s.f OCT_SYS_PARENT = 15 then s.ownKey ++ [ 0] else (s.olink (s.f OCT_SYS_PARENT)).key ++ [ s.f OCT_SYS_HOPS]) ∧
    (s.inSystem = true → (∀ x ∈ s.keyLinks, lexLt (s.olink x).key s.bestKey = false) ∧ s.elect.tim.master = s.bestKey.getD 2 0 ∧
      memSame s s.elect ∧
      (s.bestKey = s.ownKey → s.elect.f TIME_STAT_SYSMASTER = 1 ∧ s.elect.f OCT_SYS_PARENT = 15 ∧ s.elect.f OCT_SYS_HOPS = 0) ∧
      (∀ x, s.bestKey ≠ s.ownKey → s.parentLink s.bestKey = some x → s.elect.f TIME_STAT_SYSMASTER = 0 ∧ s.elect.f OCT_SYS_PARENT = x ∧
        s.elect.f OCT_SYS_HOPS = ((s.olink x).keyHops + 1) % 256 ∧ x < 16 ∧
        ∀ y ∈ s.keyLinks, (s.olink y).keySys = s.bestKey.getD 2 0 → (s.olink x).keyHops ≤ (s.olink y).keyHops)) ∧
    (s.f OCT_SYS_PARENT ≠ 15 → ∃ t, exec (.parentLoss) s = .next t ∧ kept t ∧
      (s.olink (s.f OCT_SYS_PARENT)).heardAt + 1000000 * nsU ≤ t.dtime ∧ (∀ x, x < 16 → (t.olink x).keyValid = false) ∧
      (s.inSystem = true → t.f TIME_STAT_SYSMASTER = 1 ∧ t.f OCT_SYS_PARENT = 15 ∧ t.f OCT_SYS_HOPS = 0))

/-- R279–R283, R335, R336: completion and result of FREQ_EVALUATION, GLIDE_STEP_END, RAISE_CONFIRM, RAISE_TIMEOUT, STRETCH_EVENT,
CROSSING_SLIP, CROSSING_RECENTRE and FORCED_GAP. `topPoint` is the lowest limit of R280, `mayGlide` R281's step
of 2 µs and `vtOf` R335's target. A forced step that meets a glide waits for the next evaluation (log entry 78). -/
def Obligations.ClocksAndCrossings : Prop :=
  ∀ (c : Fin 32) (m : Fin 3) (f : Fin 16) (x : Nat) (s : State),
    let i := c.val
    let p := s.f (CLK_STAT_F_MHZ i)
    let kept (t : State) : Prop := memSame s t ∧ t.harts = s.harts ∧ t.pkts = s.pkts ∧ t.flits = s.flits ∧ t.pending = s.pending
    let forced := 16 < (s.clu i).stretchN ∨ (s.clu i).forceDue = true
    (s.cluRuns i = true → s.f (CLK_STAT_SRC i) = 0 → s.f (CLK_STAT_ALERT i) = 0 →
      ∃ t, exec (.freqEvaluation c m) s = .next t ∧ kept t ∧ s.dtime ≤ t.dtime ∧ (s.clu i).evalAt ≤ t.dtime ∧ t.dtime < (t.clu i).evalAt ∧
        (t.dtime % 2 ^ 64) % (1000 * nsU) = 0 ∧ (t.clu i).stretchN = 0 ∧ t.f (CLK_STAT_F_MHZ i) = p ∧
        (s.f (CLK_STAT_GLIDE i) ≠ 0 → t.regs = s.regs ∧ ((t.clu i).forceDue = true ↔ forced ∧ 800 < p)) ∧
        (s.mayGlide i = true → 800 < p → (forced ∨ m.val = 0 ∨ s.topPoint i < p) → t.f (CLK_STAT_GLIDE i) = 1 ∧
          (t.clu i).glideTo = p - 25 ∧ (t.clu i).glideAt = t.dtime ∧ t.f (REG_VT_RAISING i) = 0 ∧
          t.f (CLK_STRETCH_FORCED i) = min (s.f (CLK_STRETCH_FORCED i) + if forced then 1 else 0) 255) ∧
        (s.mayGlide i = true → ¬ forced → m.val = 2 → p ≤ s.topPoint i → 63 ≤ (s.clu i).highN → p + 25 ≤ s.topPoint i →
          s.f (REG_VT_RAISING i) = 0 → t.f (REG_VT_RAISING i) = 1 ∧ (t.clu i).raiseTo = p + 25 ∧ t.f (CLK_STAT_GLIDE i) = 0 ∧
            t.f (REG_VT_VT_MV i) = s.vtOf i (p + 25) / 10 % 1024)) ∧
    (s.f (CLK_STAT_GLIDE i) ≠ 0 → s.f (CLK_STAT_ALERT i) = 0 → ∃ t, exec (.glideStepEnd c) s = .next t ∧ kept t ∧
      (s.clu i).glideAt ≤ t.dtime ∧
      t.f (CLK_STAT_GLIDE i) = 0 ∧ t.f (CLK_STAT_F_MHZ i) = (s.clu i).glideTo % 4096 ∧
      ((s.clu i).glideTo < p → t.f (REG_VT_VT_MV i) = s.vtOf i (s.clu i).glideTo / 10 % 1024) ∧
      (p ≤ (s.clu i).glideTo → t.f (REG_VT_VT_MV i) = s.f (REG_VT_VT_MV i))) ∧
    (s.f (CLK_STAT_GLIDE i) ≠ 0 → s.f (CLK_STAT_ALERT i) ≠ 0 → ∃ t, exec (.glideStepEnd c) s = .next t ∧ kept t ∧
      (let g := max 800 ((s.clu i).mainMHz - 25)
       (s.f PWR_ALERT_ASSERTED ≠ 0 ∨ max 800 (s.topPoint i) < g → (t.clu i).mainMHz = g ∧ t.f (CLK_STAT_F_MHZ i) = p ∧
          t.f (CLK_STAT_ALERT i) = s.f (CLK_STAT_ALERT i) ∧ (t.f (CLK_STAT_GLIDE i) = 0 ↔ g = 800)) ∧
        (s.f PWR_ALERT_ASSERTED = 0 → g ≤ max 800 (s.topPoint i) → t.f (CLK_STAT_ALERT i) = 0 ∧ t.f (CLK_STAT_GLIDE i) = 0 ∧
          t.f (CLK_STAT_F_MHZ i) = g % 4096))) ∧
    (s.f (REG_VT_RAISING i) ≠ 0 →
      (∃ t, exec (.raiseConfirm c) s = .next t ∧ kept t ∧ t.f (REG_VT_RAISING i) = 0 ∧
        ((s.clu i).raiseTo ≤ s.topPoint i → s.mayGlide i = true → t.f (CLK_STAT_GLIDE i) = 1 ∧
          (t.clu i).glideTo = (s.clu i).raiseTo ∧ t.f (REG_VT_VT_MV i) = s.f (REG_VT_VT_MV i)) ∧
        (s.topPoint i < (s.clu i).raiseTo ∨ s.mayGlide i = false → t.f (CLK_STAT_GLIDE i) = s.f (CLK_STAT_GLIDE i) ∧
          t.f (REG_VT_VT_MV i) = s.vtOf i p / 10 % 1024)) ∧
      (∃ t, exec (.raiseTimeout c) s = .next t ∧ kept t ∧ t.f (REG_VT_RAISING i) = 0 ∧ (s.clu i).raiseAt + 20000 * nsU ≤ t.dtime ∧
        t.f (CLK_STAT_GLIDE i) = s.f (CLK_STAT_GLIDE i) ∧ t.f (REG_VT_VT_MV i) = s.vtOf i p / 10 % 1024)) ∧
    (s.cluRuns i = true → ∃ t, exec (.stretchEvent c) s = .next t ∧ kept t ∧ (t.clu i).stretchN = (s.clu i).stretchN + 1 ∧
      t.f (CLK_STRETCH_EVENTS i) = min (s.f (CLK_STRETCH_EVENTS i) + 1) 65535) ∧
    (∃ t, exec (.crossingSlip f x) s = .next t ∧ kept t ∧ (f.val, x, s.dtime) ∈ t.tim.slips ∧
      t.f (XING_SLIP_SLIPS f.val) = min (s.f (XING_SLIP_SLIPS f.val) + 1) 65535) ∧
    (∃ t, exec (.crossingRecentre f x) s = .next t ∧ kept t ∧ t.regs = s.regs ∧
      t.tim.slips = s.tim.slips.filter fun y => (y.1, y.2.1) ≠ (f.val, x)) ∧
    ∀ y, s.tim.slips.find? (fun y => y.1 = f.val ∧ y.2.1 = x) = some y → ∃ t, exec (.forcedGap f x) s = .next t ∧ kept t ∧
      y.2.2 + 100000 * nsU ≤ t.dtime ∧ (∀ z ∈ t.tim.slips, (z.1, z.2.1) ≠ (f.val, x)) ∧
      t.f (XING_SLIP_FORCED f.val) = min (s.f (XING_SLIP_FORCED f.val) + 1) 255

/-- R328, R343, R344: the operation of KNOTE, and completion and result of KETTLE_NOTICE_ARRIVAL, KETTLE_ACTION, KETTLE_WINDOW_START,
KETTLE_WINDOW_END, PHASES_OFFLINE and HINT_END. How many phases stay online is a free value up to 20 (log entry 3). -/
def Obligations.WindowsAndHints : Prop :=
  (∀ (s : State) (c t d : Nat), c < 32 → d < 2 ^ 32 → s.f (KN_STAT_NOTICES c) + 1 < 256 → s.f (KN_STAT_SHORT c) + 1 < 256 →
    let u := s.knote c t d
    let now := s.copyU c
    let k : Kettle := ⟨now + (t - s.copy c), now + (t - s.copy c) + min 100000000 (max 1000 d) * nsU, now⟩
    (d = 0 → (u.clu c).kettle = [] ∧ u.f (KN_STAT_NOTICES c) = s.f (KN_STAT_NOTICES c) + 1) ∧
    (d ≠ 0 → s.liveKettle c = [] → (u.clu c).kettle = [ k] ∧ (u.clu c).notices = (s.clu c).notices ++ [ k] ∧
      u.f (KN_STAT_NOTICES c) = s.f (KN_STAT_NOTICES c) + 1 ∧
      u.f (KN_STAT_SHORT c) = s.f (KN_STAT_SHORT c) + (if t < s.copy c + 2000 * nsU then 1 else 0)) ∧ memSame s u) ∧
  ∀ (c : Fin 32) (f : Fin 16) (s : State),
    let i := c.val
    let g := i / 2
    let j := f.val
    let kept (t : State) : Prop := memSame s t ∧ t.harts = s.harts ∧ t.pkts = s.pkts ∧ t.flits = s.flits ∧ t.pending = s.pending
    (∀ k r, (s.clu i).notices = k :: r → ∃ t, exec (.kettleNoticeArrival c) s = .next t ∧ kept t ∧ (t.clu i).notices = r ∧
      (k.stop ≠ 0 → (t.fld g).notices = (s.fld g).notices ++ [ (i, k)] ∧ (t.fld g).raised = (s.fld g).raised ∧ t.regs = s.regs) ∧
      (k.stop = 0 → (∀ q ∈ (t.fld g).notices ++ (t.fld g).raised, q.1 ≠ i) ∧
        t.f (VPM_FSTAT_FEED_MV g) = t.feedLevel g / 2 % 1024)) ∧
    ((s.fld j).notices ≠ [] → ∃ t q, exec (.kettleAction f) s = .next t ∧ kept t ∧ q ∈ (s.fld j).notices ∧
      (∀ z ∈ (s.fld j).notices, q.2.start ≤ z.2.start) ∧ q.2.start ≤ t.dtime + 1500 * nsU ∧
      t.f (VPM_FSTAT_PHASES j) = 20 ∧ t.f (VPM_FSTAT_KETTLE j) = 1 ∧ (t.fld j).notices = (s.fld j).notices.erase q ∧
      (t.fld j).raised = (s.fld j).raised ++ [ q] ∧ q.2.start ≤ (t.fld j).lastWin ∧
      t.f (VPM_FSTAT_FEED_MV j) = max (s.fld j).heldMv (min 1700 ((s.fld j).steerMv + 5 * s.f PWR_MARGIN_KN_STEP)) / 2 % 1024) ∧
    ((s.fld j).raised ≠ [] → ∃ t q, exec (.kettleWindowEnd f) s = .next t ∧ kept t ∧ q ∈ (s.fld j).raised ∧
      (∀ z ∈ (s.fld j).raised, q.2.stop ≤ z.2.stop) ∧ q.2.stop ≤ t.dtime ∧ (t.fld j).raised = (s.fld j).raised.filter (fun z => z ≠ q) ∧
      (t.f (VPM_FSTAT_KETTLE j) = 0 ↔ (t.fld j).raised = []) ∧
      ((t.fld j).raised = [] → t.f (VPM_FSTAT_FEED_MV j) = max (s.fld j).heldMv (s.fld j).steerMv / 2 % 1024)) ∧
    ((∃ k ∈ s.liveKettle i, s.copyU i < k.start) → ∃ t k, exec (.kettleWindowStart c) s = .next t ∧ kept t ∧ t.clus = s.clus ∧
      t.regs = s.regs ∧ k ∈ s.liveKettle i ∧ s.copyU i < k.start ∧ t.copyU i = k.start ∧
      ∀ q ∈ s.liveKettle i, s.copyU i < q.start → k.start ≤ q.start) ∧
    ((s.fld j).raised = [] → s.f (VPM_FSTAT_HINT j) = 0 → ∃ t, exec (.phasesOffline f) s = .next t ∧ kept t ∧
      (s.fld j).lastWin + 10000 * nsU ≤ t.dtime ∧ t.f (VPM_FSTAT_PHASES j) ≤ 20) ∧
    (s.f (VPM_FSTAT_HINT j) ≠ 0 → ∃ t, exec (.hintEnd f) s = .next t ∧ kept t ∧ t.f (VPM_FSTAT_HINT j) = 0 ∧
      (s.fld j).hintEnd ≤ t.dtime)

/-- R282, R332, R338–R342, R346–R351, R528: completion and result of INPUT_UNDERVOLTAGE, INPUT_UV_CLEAR, INPUT_BELOW_42V, VAON_LOSS,
INPUT_OVERVOLTAGE, INPUT_ABOVE_64V, INPUT_CURRENT_OVER, INPUT_CURRENT_TRIP, SENSE_MINIMA, REGULATOR_UPDATE, SENSE_LOSS, SENSE_RESTORE,
SLICE_FAILURE, BROWNOUT, ALERT_ASSERT, ALERT_RELEASE, OC_SAMPLE, OC_RESUME, REG_OC_RELEASE and TELEMETRY_FRAME. That lost memory reads as 0 is
the model's choice (log entry 1), and so are the places of 2,048 bytes in the telemetry ring (log entry 79). -/
def Obligations.SupplySensingAndOvercurrent : Prop :=
  ∀ (c : Fin 32) (f : Fin 16) (sl : Fin 16) (a : Fin 6) (v amps pin vin temp : Nat) (w e r head : Int) (rs : List TelRec) (s : State),
    let i := c.val
    let j := f.val
    let alerted (t : State) : Prop := t.f PWR_ALERT_ASSERTED ≠ 0 ∧
      (s.f PWR_ALERT_ASSERTED = 0 → s.f (CLK_STAT_ALERT i) = 0 → s.f (CLK_STAT_SRC i) = 0 → s.f (PST_STAT_STATE i) < 2 →
        t.f (CLK_STAT_ALERT i) = 1 ∧ t.f (CLK_STAT_F_MHZ i) = 800 ∧ (t.clu i).mainMHz = s.f (CLK_STAT_F_MHZ i))
    let dark (t : State) : Prop := t.mem = [] ∧ t.harts = [] ∧ t.tiles = [] ∧ t.grains = [] ∧ t.clus = [] ∧ t.pkts = [] ∧ t.flits = [] ∧
      t.pending = s.pending ∧ t.eth.flash = s.eth.flash ∧ t.vpm.good = false
    (∃ t, exec (.inputUndervoltage v) s = .next t ∧ t.f PWR_IN_VIN = v % 65536 ∧ t.vpm.uv = true ∧ t.f PWR_ALERT_UV = 1 ∧ alerted t ∧ memSame s t) ∧
    (∃ t, exec (.inputUvClear v) s = .next t ∧ t.f PWR_IN_VIN = v % 65536 ∧ t.vpm.uv = false ∧ memSame s t) ∧
    (∃ t, exec (.inputBelow42v v) s = .next t ∧ dark t ∧ t.vpm.vaon = true ∧ t.dtime = s.dtime ∧ t.f EV_ALARM_PENDING = 1) ∧
    (∃ t, exec (.inputCurrentTrip v) s = .next t ∧ dark t ∧ t.vpm.vaon = true ∧ t.dtime = s.dtime ∧ t.f EV_ALARM_PENDING = 1 ∧
      t.f PWR_IIN_IIN = min v 4095) ∧
    (∃ t, exec (.vaonLoss) s = .next t ∧ dark t ∧ t.vpm.vaon = false ∧ t.dtime = 0 ∧ t.regs = [] ∧ exec (.inputAbove64v) s = .next t) ∧
    exec (.inputOvervoltage v) s = .next ((s.setF PWR_IN_VIN v).raise clsWarning 0x050 0xFF 5 0 v) ∧
    (∃ t, exec (.inputCurrentOver v) s = .next t ∧ t.f PWR_IIN_IIN = min v 4095 ∧ t.f PWR_IIN_IPEAK = max (s.f PWR_IIN_IPEAK) (min v 4095) % 4096 ∧
      t.f PWR_IIN_OVER = min (s.f PWR_IIN_OVER + 1) 15 ∧ memSame s t) ∧
    (∃ t, exec (.senseMinima f w e r) s = .next t ∧ (t.dtime % 2 ^ 64) % (100 * nsU) = 0 ∧ s.dtime ≤ t.dtime ∧ (s.fld j).senseAt ≤ t.dtime ∧ memSame s t ∧ t.harts = s.harts ∧
      t.f (VPM_FSENSE_HEAD_W j) = head8 w ∧ t.f (VPM_FSENSE_HEAD_E j) = head8 e ∧ t.f (VPM_FSENSE_HEAD_S j) = head8 r ∧
      ((s.fld j).senseLost = false → 1040 ≤ (t.fld j).steerMv ∧ (t.fld j).steerMv ≤ 1700 ∧ 1400 ≤ (t.fld j).vsramMv ∧ (t.fld j).vsramMv ≤ 1600 ∧
        t.f (VPM_FSTAT_FEED_MV j) = t.feedLevel j / 2 % 1024 ∧
        (1040 ≤ (s.fld j).steerMv → (s.fld j).steerMv ≤ 1700 → (t.fld j).steerMv ≤ (s.fld j).steerMv + 20 ∧ (s.fld j).steerMv ≤ (t.fld j).steerMv + 20))) ∧
    (∃ t, exec (.regulatorUpdate c head) s = .next t ∧ memSame s t ∧ t.regs = s.regs ∧ (t.clu i).vlog =
      if s.f (PST_STAT_STATE i) = 3 then 0
      else min ((s.feedLevel (i / 2) : Int) - 20) ((s.clu i).vlog + ((5 * s.f PWR_MARGIN_MARGIN : Nat) - head))) ∧
    (∃ t, exec (.senseLoss f) s = .next t ∧ (t.fld j).senseLost = true ∧ t.f PWR_ALERT_SENSE = 1 ∧ alerted t ∧ memSame s t ∧
      (t.fld j).vsramMv = s.vpm.vsramSet + 60 ∧ (t.fld j).heldMv = min 1700 (s.highTarget j + 100) ∧
      t.f (VPM_FSTAT_FEED_MV j) = t.feedLevel j / 2 % 1024 ∧ (t.fld j).heldMv ≤ t.feedLevel j ∧ ((s.fld j).raised = [] → (t.fld j).steerMv = min 1700 (s.highTarget j + 100))) ∧
    (∃ t, exec (.senseRestore f) s = .next t ∧ (t.fld j).senseLost = false ∧ (t.fld j).heldMv = 0 ∧ memSame s t ∧
      t.f (VPM_FSTAT_FEED_MV j) = t.feedLevel j / 2 % 1024 ∧ fieldsSame s t [ VPM_FSTAT_FEED_MV j]) ∧
    (s.f (REG_STAT_SLICE_OK i) / 2 ^ sl.val % 2 = 1 → s.f (REG_STAT_FAILED i) < 4 → ∃ t, exec (.sliceFailure c sl false) s = .next t ∧
      t.f (REG_STAT_SLICE_OK i) = (s.f (REG_STAT_SLICE_OK i) - 2 ^ sl.val) % 65536 ∧ t.f (REG_STAT_FAILED i) = s.f (REG_STAT_FAILED i) + 1 ∧
      t.f (REG_OC_LIMIT_A i) = (s.f (REG_OC_LIMIT_A i) - 24) % 512 ∧ t.f (PST_STAT_STATE i) = s.f (PST_STAT_STATE i) ∧ memSame s t) ∧
    (s.f (REG_STAT_DARK i) = 0 → ∀ b, (b = true ∨ s.f (REG_STAT_SLICE_OK i) / 2 ^ sl.val % 2 = 1 ∧ s.f (REG_STAT_FAILED i) = 4) →
      ∃ t, exec (.sliceFailure c sl b) s = .next t ∧ t.f (REG_STAT_DARK i) = 1 ∧ t.f (PST_STAT_STATE i) = 3 ∧ t.f (PST_STAT_CAUSE i) = 4 ∧
        memSame s t ∧ ∀ n, n / 32 = i → t.absent n = true) ∧
    (s.f (REG_STAT_LPM i) ≠ 0 → ∃ t, exec (.brownout c) s = .next t ∧ t.f (PST_STAT_STATE i) = 2 ∧ t.f (PST_STAT_CAUSE i) = 5 ∧
      t.f (PST_STAT_TWAIT i) = 0 ∧ (t.clu i).wake = 0 ∧ ∀ h ∈ cluHarts i, (t.hart h).sregs = [] ∧ (t.hart h).aregs = [] ∧ (t.hart h).cmds = []) ∧
    (∃ t, exec (.alertAssert a) s = .next t ∧ t.f (alertBit a.val) = 1 ∧ alerted t ∧ memSame s t ∧ t.harts = s.harts) ∧
    (s.f PWR_ALERT_ASSERTED ≠ 0 → s.vpm.uv = false → (∀ g < 16, (s.fld g).senseLost = false) → ∃ t, exec (.alertRelease) s = .next t ∧
      t.f PWR_ALERT_ASSERTED = 0 ∧ memSame s t ∧ t.harts = s.harts ∧
      (let g := max 800 (s.clu i).mainMHz
       (s.f (CLK_STAT_ALERT i) = 0 ∨ max 800 (s.topPoint i) < g → t.f (CLK_STAT_ALERT i) = s.f (CLK_STAT_ALERT i) ∧
          t.f (CLK_STAT_F_MHZ i) = s.f (CLK_STAT_F_MHZ i) ∧ t.f (CLK_STAT_GLIDE i) = s.f (CLK_STAT_GLIDE i)) ∧
        (s.f (CLK_STAT_ALERT i) ≠ 0 → g ≤ max 800 (s.topPoint i) → t.f (CLK_STAT_ALERT i) = 0 ∧ t.f (CLK_STAT_F_MHZ i) = g % 4096 ∧
          t.f (CLK_STAT_GLIDE i) = 0))) ∧
    (s.f (REG_STAT_OCGATE i) = 0 → s.f (REG_STAT_OCHELD i) = 0 → s.f (PST_STAT_STATE i) < 2 → ∃ t, exec (.ocSample c amps) s = .next t ∧
      memSame s t ∧ t.harts = s.harts ∧
      (amps ≤ s.f (REG_OC_LIMIT_A i) → (t.clu i).overN = 0 ∧ t.regs = s.regs) ∧
      (s.f (REG_OC_LIMIT_A i) < amps → (s.clu i).overN = 0 → (t.clu i).overN = 1 ∧ t.regs = s.regs) ∧
      (s.f (REG_OC_LIMIT_A i) < amps → 1 ≤ (s.clu i).overN → t.f (REG_STAT_OCGATE i) = 1 ∧ (t.clu i).gateAt = s.dtime ∧
        t.f (REG_OC_TRIPS i) = min (s.f (REG_OC_TRIPS i) + 1) 255 ∧
        (t.f (REG_STAT_OCHELD i) = 1 ↔ 2 ≤ ((s.clu i).trips.filter fun x => s.dtime ≤ x + 100000000 * nsU).length))) ∧
    (s.f (REG_STAT_OCGATE i) ≠ 0 → s.f (REG_STAT_OCHELD i) = 0 → 2 * amps < s.f (REG_OC_LIMIT_A i) → s.f (CLK_STAT_SRC i) = 0 →
      s.f (CLK_STAT_ALERT i) = 0 → ∃ t, exec (.ocResume c amps) s = .next t ∧ t.f (REG_STAT_OCGATE i) = 0 ∧ (s.clu i).gateAt + 10000 * nsU ≤ t.dtime ∧
        t.f (CLK_STAT_F_MHZ i) = max 800 (s.f (CLK_STAT_F_MHZ i) - 50) % 4096 ∧ memSame s t ∧ t.harts = s.harts) ∧
    (s.f (REG_STAT_OCHELD i) ≠ 0 → ∃ t, exec (.regOcRelease c) s = .next t ∧ t.f (REG_STAT_OCHELD i) = 0 ∧ t.f (REG_STAT_OCGATE i) = 0 ∧
      memSame s t ∧ t.harts = s.harts ∧ (s.f (CLK_STAT_SRC i) = 0 → s.f (CLK_STAT_ALERT i) = 0 →
        t.f (CLK_STAT_F_MHZ i) = max 800 (s.f (CLK_STAT_F_MHZ i) - 50) % 4096)) ∧
    (∃ t, exec (.telemetryFrame pin vin temp rs) s = .next t ∧ (t.dtime % 2 ^ 64) % (1000000 * nsU) = 0 ∧ s.dtime ≤ t.dtime ∧
      s.vpm.telAt ≤ t.dtime ∧ t.dtime < t.vpm.telAt ∧ t.eth.telemetry.length = 464 ∧ t.f TEL_STAT_SEQ = (s.f TEL_STAT_SEQ + 1) % 65536 ∧ t.f PWR_IN_PIN_W = pin % 65536 ∧ t.f PWR_IN_VIN = vin % 65536 ∧
      (t.fld j).iAvg = (rs.getD (32 + j) (false, 0, 0, 0, 0)).2.2.1 ∧
      (s.f TEL_RING1_FRAMES = 0 ∨ s.f KW_STAT_STATE = 2 → memSame s t) ∧
      (let n := s.f TEL_RING1_FRAMES
       let at0 := devAddr 0 (s.f TEL_RING0_BASE_LO + 2 ^ 32 * s.f TEL_RING1_BASE_HI + 2048 * (s.vpm.telPos % n))
       n ≠ 0 → s.f KW_STAT_STATE ≠ 2 → s.runStatus at0 1856 = .ok → s.poison = [] →
        memStores s t at0 (t.eth.telemetry.flatMap (leBytes 4)) ∧ t.vpm.telPos = s.vpm.telPos + 1 ∧
          t.f TEL_STAT_SKIPPED = s.f TEL_STAT_SKIPPED))

/-- R316, R355–R363: completion and result of STEEP_ENTRY, REST_ENTRY, PST_CTL_REST, PST_CTL_WAKE, PST_CTL_OFF, PST_CTL_ON, TICKET_RECHECK,
NEIGHBOUR_THROTTLE_END, REST_WAKE_READY, PLL_LOCK and WAKE_ALARM. `admits` is R362's sum. -/
def Obligations.ClusterStatesAndWakes : Prop :=
  ∀ (c : Fin 32) (s : State),
    let i := c.val
    let st := s.f (PST_STAT_STATE i)
    let x := s.clu i
    let kept (t : State) : Prop := memSame s t ∧ tensorSame s t ∧ t.pkts = s.pkts ∧ t.flits = s.flits ∧ t.pending = s.pending
    let refused (t : State) : Prop := (t.clu i).wake = 1 ∧ t.f (PST_STAT_TWAIT i) = 1 ∧ t.f (PST_STAT_STATE i) = st
    let granted (t : State) : Prop := (t.clu i).wake = 2 ∧ t.f (PST_STAT_TWAIT i) = 0 ∧ t.f (PST_STAT_STATE i) = st ∧ t.f (REG_STAT_LPM i) = 0
    let asked (u t : State) : Prop := kept t ∧ ((s.f PWR_ALERT_ASSERTED ≠ 0 ∨ s.vpm.govOff = true) → refused t) ∧
      (s.f PWR_ALERT_ASSERTED = 0 → s.vpm.govOff = false → (u.admits (i / 2) = true → granted t) ∧
        (u.admits (i / 2) = false → x.refusals < 8 → refused t ∧ (t.clu i).refusals = x.refusals + 1) ∧
        (8 ≤ x.refusals → granted t ∧ (s.f (PST_STAT_STATE (neighbour i)) = 0 →
          t.f (PST_STAT_THROTTLED (neighbour i)) = 1 ∧ (t.clu (neighbour i)).throttleEnd = t.dtime + 20000 * nsU)))
    (st = 0 → s.f (PST_TMR_STEEP_US i) ≠ 0 → s.cluIdle i = true → ∃ t, exec (.steepEntry c) s = .next t ∧ kept t ∧
      t.f (PST_STAT_STATE i) = 1 ∧ x.idleAt + s.f (PST_TMR_STEEP_US i) * 1000 * nsU ≤ t.copyU i ∧ (t.clu i).steepAt = t.dtime ∧
      t.f (PST_CNT_STEEPS i) = min (s.f (PST_CNT_STEEPS i) + 1) 65535) ∧
    (st = 1 → s.f (PST_TMR_REST_MS i) ≠ 0 → x.offWant = false → x.restWant = false → ∃ t, exec (.restEntry c) s = .next t ∧ kept t ∧
      t.f (PST_STAT_STATE i) = 2 ∧ x.steepAt + s.f (PST_TMR_REST_MS i) * 1000000 * nsU ≤ t.dtime ∧ t.f (REG_STAT_LPM i) = 1 ∧
      t.f (REG_VT_VT_MV i) = 500 ∧ t.f (CLK_STAT_LOCK i) = 0) ∧
    (st ≤ 1 → s.cluIdle i = true → ∃ t, exec (.pstCtlRest c) s = .next t ∧ kept t ∧ t.f (PST_STAT_STATE i) = 2 ∧ t.f (REG_STAT_LPM i) = 1) ∧
    (st ≤ 1 → s.cluIdle i = false → ∃ t, exec (.pstCtlRest c) s = .next t ∧ kept t ∧ (t.clu i).restWant = true ∧ t.regs = s.regs) ∧
    (s.partOf i ≠ 0xFF → exec (.pstCtlOff c) s = .next (s.setF (PST_STAT_WIGN i) 1)) ∧
    (s.partOf i = 0xFF → (st = 2 ∨ st ≤ 1 ∧ s.cluIdle i = true) → ∃ t, exec (.pstCtlOff c) s = .next t ∧ kept t ∧
      t.f (PST_STAT_STATE i) = 3 ∧ t.f (PST_STAT_CAUSE i) = 0) ∧
    (s.partOf i = 0xFF → st ≤ 1 → s.cluIdle i = false → ∃ t, exec (.pstCtlOff c) s = .next t ∧ kept t ∧ (t.clu i).offWant = true) ∧
    (st = 3 → s.f (PST_STAT_CAUSE i) = 0 → x.wake = 0 → s.f (REG_STAT_DARK i) = 0 → x.capParked = false → x.heatParked = false →
      s.f (FIELD_THERM_TRIP (i / 2)) = 0 → ∃ t, exec (.pstCtlOn c) s = .next t ∧ asked s t) ∧
    (st = 1 → ∃ t, exec (.pstCtlWake c) s = .next t ∧ kept t ∧ t.f (PST_STAT_STATE i) = 0 ∧ (t.clu i).copyOfs t.dtime = s.keepOfs i) ∧
    (st = 2 → x.wake = 0 → ∃ t, exec (.pstCtlWake c) s = .next t ∧ asked s t) ∧
    (x.wake = 1 → ∃ t, exec (.ticketRecheck c) s = .next t ∧ asked (s.advanceTo (x.checkAt + 20000 * nsU)) t ∧
      x.checkAt + 20000 * nsU ≤ t.dtime) ∧
    (s.f (PST_STAT_THROTTLED i) ≠ 0 → ∃ t, exec (.neighbourThrottleEnd c) s = .next t ∧ kept t ∧ t.f (PST_STAT_THROTTLED i) = 0 ∧
      x.throttleEnd ≤ t.dtime ∧ t.f (PST_STAT_ISSUE i) = 16 - x.issueCut) ∧
    (x.wake = 2 → st = 2 → ∃ t, exec (.restWakeReady c) s = .next t ∧ kept t ∧ t.f (PST_STAT_STATE i) = 0 ∧ t.f (CLK_STAT_SRC i) = 1 ∧
      t.f (CLK_STAT_LOCK i) = 0 ∧ (t.clu i).wake = 0 ∧ ∀ h, (t.hart h).sregs = (s.hart h).sregs ∧ (t.hart h).cmds = (s.hart h).cmds) ∧
    (x.wake = 2 → st = 3 → ∃ t, exec (.restWakeReady c) s = .next t ∧ memSame s t ∧ t.f (PST_STAT_STATE i) = 0 ∧ t.f (CLK_STAT_SRC i) = 0 ∧
      t.f (CLK_STAT_F_MHZ i) = 800 ∧ t.f (CLK_STAT_LOCK i) = 1 ∧ ∀ h ∈ cluHarts i, (t.hart h).sregs = [] ∧ (t.hart h).cmds = []) ∧
    (st = 0 → s.f (CLK_STAT_SRC i) ≠ 0 → exec (.pllLock c) s = .next (s.setF (CLK_STAT_LOCK i) 1)) ∧
    ∀ t0, s.alarmTime i = some t0 →
      (st ≠ 1 → st ≠ 2 → exec (.wakeAlarm c) s = .next s) ∧
      (st = 1 → ∃ t, exec (.wakeAlarm c) s = .next t ∧ kept t ∧ t.f (PST_STAT_STATE i) = 0 ∧ s.dtime ≤ t.dtime ∧
        (t0 : Int) - (200 * nsU : Nat) - s.keepOfs i ≤ t.dtime) ∧
      (st = 2 → x.wake = 0 → ∃ t, exec (.wakeAlarm c) s = .next t ∧ kept t ∧ (t.clu i).wake ≠ 0 ∧ t.f (PST_STAT_STATE i) = 2 ∧
        s.dtime ≤ t.dtime ∧ (t0 : Int) - (6000 * nsU : Nat) - s.keepOfs i ≤ t.dtime)

/-- R225, R230, R234, R235, R369, R373, R374: completion and result of CAP_EVALUATION, THERMAL_SAMPLE, HBM_TEMPERATURE_READ, HBM_ECC_REPORT,
REFRESH_MANAGEMENT and GRANARY_SCRUB. Conditions "for T" are counted in samples (log entry 48). -/
def Obligations.CapHeatAndMemories : Prop :=
  (∀ (s : State) (link mem cmp : Nat) (cl : List Nat),
    (s.vpm.govOff = true → exec (.capEvaluation link mem cmp cl) s =
      .next (if s.f DEV_PLIMIT_PSET_W < link + mem + cmp then s.setF CAP_STAT_UNMET 1 else s)) ∧
    (s.vpm.govOff = false → s.capOrder.Perm [ 0, 1, 2] → ∃ t, exec (.capEvaluation link mem cmp cl) s = .next t ∧
      t.f PWR_IN_PIN_W = (link + mem + cmp) % 65536 ∧
      t.f CAP_ALLOC1_SPARE_W = (s.f DEV_PLIMIT_PSET_W - (link + mem + cmp)) % 65536 ∧
      ∃ l m k, l + m + k = s.f DEV_PLIMIT_PSET_W ∧ t.f CAP_ALLOC0_LINK_W = l % 65536 ∧ t.f CAP_ALLOC0_MEM_W = m % 65536 ∧
        t.f CAP_ALLOC1_CMP_W = k % 65536 ∧
        (s.f CAP_FLOOR0_LINK_W + s.f CAP_FLOOR0_MEM_W + s.f CAP_FLOOR1_CMP_W ≤ s.f DEV_PLIMIT_PSET_W →
          s.f CAP_FLOOR0_LINK_W ≤ l ∧ s.f CAP_FLOOR0_MEM_W ≤ m ∧ s.f CAP_FLOOR1_CMP_W ≤ k ∧ t.f CAP_STAT_FLOORCUT = 0) ∧
        (s.capOrder.head? ≠ some 0 → l ≤ max link (s.f CAP_FLOOR0_LINK_W)) ∧ (s.capOrder.head? ≠ some 1 → m ≤ max mem (s.f CAP_FLOOR0_MEM_W)) ∧
        (s.capOrder.head? ≠ some 2 → k ≤ max cmp (s.f CAP_FLOOR1_CMP_W)))) ∧
  (∀ (s : State) (c : Fin 32) (f : Fin 16) (temp : Nat),
    let i := c.val
    let t := s.heatClu i temp
    (t.f (CLU_THERM_TEMP_C i) = min temp 255 ∧ t.f (CLU_THERM_HOT i) = if 100 ≤ temp then 1 else 0) ∧
    (110 ≤ temp → 10 ≤ (s.clu i).hotN → (s.clu i).heatParked = false → s.f (PST_STAT_STATE i) ≠ 3 →
      t.f (PST_STAT_STATE i) = 3 ∧ t.f (PST_STAT_CAUSE i) = 1 ∧ (t.clu i).heatParked = true) ∧
    (temp < 110 → (t.clu i).hotN = 0) ∧
    (let u := s.heatField f.val temp
     (120 ≤ temp → 1 ≤ (s.fld f.val).tripN → s.f (FIELD_THERM_TRIP f.val) = 0 → s.f BOOT_STAT_STEP = 0 →
       (∀ g < 16, s.f (FIELD_THERM_TRIP g) = 0) → u.f (FIELD_THERM_TRIP f.val) = 1 ∧ u.f MESH_STAT_DRAIN = 1 ∧ u.f EV_ALARM_PENDING = 1) ∧
     (temp < 120 → u.f (FIELD_THERM_TRIP f.val) = s.f (FIELD_THERM_TRIP f.val) ∧ u.f (FIELD_THERM_TEMP_C f.val) = min temp 255))) ∧
  (∀ (s : State) (cl fs : List Nat), ∃ u t, exec (.thermalSample cl fs) s = .next t ∧ (u.dtime % 2 ^ 64) % (100000 * nsU) = 0 ∧ s.dtime ≤ u.dtime ∧
    s.vpm.heatAt ≤ u.dtime ∧ u = { s with dtime := u.dtime, vpm := { s.vpm with heatAt := u.dtime + 1 } } ∧
    t = (List.range 16).foldl (fun a f => a.heatField f (fs.getD f 0)) ((List.range 32).foldl (fun a c => a.heatClu c (cl.getD c 0)) u)) ∧
  ∀ (s : State) (st : Fin 24) (temp ce od : Nat) (c : Fin 32) (off : Nat) (last : Bool), s.stackOk st.val = true →
    let f := (stackField st.val).1
    let i := (stackField st.val).2
    (∃ t, exec (.hbmTemperatureRead st temp) s = .next t ∧ memSame s t ∧ t.f (HBM_STAT_TEMP_C f i) = min temp 255 ∧
      t.f (HBM_STAT_HOTREF f i) = (if 85 ≤ temp then 1 else 0) ∧ (100 ≤ temp → t.f (HBM_STAT_THROT f i) ≠ 0) ∧
      (temp < 95 → t.f (HBM_STAT_THROT f i) = 0) ∧ (95 ≤ temp → temp < 100 → t.f (HBM_STAT_THROT f i) = s.f (HBM_STAT_THROT f i))) ∧
    (∃ t, exec (.hbmEccReport st ce od []) s = .next t ∧ memSame s t ∧ t.poison = s.poison ∧
      t.f (HBM_ECC_CE f i) = min (s.f (HBM_ECC_CE f i) + ce) 65535 ∧ t.f (HBM_ECC_ODECC f i) = min (s.f (HBM_ECC_ODECC f i) + od) 255) ∧
    (∃ t, exec (.refreshManagement st) s = .next t ∧ memSame s t ∧ t.f (HBM_STAT_RFM f i) = min (s.f (HBM_STAT_RFM f i) + 1) 65535) ∧
    (s.f (GRN_SCRUB_PASS_MS c.val) ≠ 0 → s.f (GRN_STAT_ABSENT c.val) = 0 → ∃ t, exec (.granaryScrub c off ce [] last) s = .next t ∧ memSame s t ∧
      t.poison = s.poison ∧ t.f (GRN_ECC_CE c.val) = min (s.f (GRN_ECC_CE c.val) + ce) 65535 ∧
      t.f (GRN_SCRUB_PASSES c.val) = if last then min (s.f (GRN_SCRUB_PASSES c.val) + 1) 65535 else s.f (GRN_SCRUB_PASSES c.val))

/-- R24, R365–R368, R381, R389–R401, R513, R516, R529, R534, R535: completion and result of the commands of the start, of keep-warm and of the I3C
port. What tests and links find are operands; the image's checks are `verify`. -/
def Obligations.StartsAndKeepWarm : Prop :=
  (∀ (s : State) (p : Fin 4) (rom : List (Fin 4)) (k6 : Fin 6) (cl : Fin 32) (tt tp : Fin 36) (off : BitVec 8) (n : Nat) (da : BitVec 7),
    let cold (t : State) (ref : Bool) : Prop := t.dtime = 0 ∧ t.f BOOT_STAT_STEP = 1 ∧ t.f KW_STAT_STATE = 0 ∧ t.vpm.good = true ∧ t.vpm.resetLow = false ∧
      t.boot.claim = none ∧ t.boot.halted = false ∧ (ref = true → ∀ q ∈ rom, t.f (CDIE_ID_ROMOK q.val) = 1 ∧ q.val ∈ t.boot.romOk)
    let entered (t : State) (cause : Nat) : Prop := t.f KW_STAT_STATE = 1 ∧ t.f KW_STAT_CAUSE = cause ∧ t.f BOOT_STAT_READY = 0 ∧
      t.vpm.devAbort = true ∧ t.vpm.govOff = true ∧ t.f EV_ALARM_PENDING = 1
    let step := s.f BOOT_STAT_STEP
    let kw := s.f KW_STAT_STATE
    (∃ t, exec (.vaonRise) s = .next t ∧ t.vpm.vaon = true ∧ t.regs = s.regs ∧ memSame s t) ∧
    (s.vpm.good = false → s.vpm.resetLow = false → ∀ r, ∃ t, exec (.powerGood rom r) s = .next t ∧ cold t r ∧ memSame s t) ∧
    (∃ t, exec (.resetAssert) s = .next t ∧ t.vpm.resetLow = true ∧ t.vpm.good = false ∧ t.vpm.vaon = true ∧ t.harts = [] ∧ t.mem = [] ∧
      t.dtime = s.dtime) ∧
    (s.vpm.resetLow = true → ∀ r, ∃ t, exec (.resetRelease rom r) s = .next t ∧ cold t r ∧ memSame s t) ∧
    (step = 1 → s.boot.claim = none → s.boot.halted = false → p.val ∈ s.boot.romOk → s.vpm.warnLow = false → ∃ t,
      exec (.bootClaim p) s = .next t ∧ t.f BOOT_STAT_STEP = 4 ∧ t.f BOOT_STAT_MASTER = p.val ∧ t.boot.claim = some p.val ∧
      s.boot.powerAt + 2000000 * p.val * nsU ≤ t.dtime ∧ memSame s t) ∧
    (step = 1 → s.boot.claim = none → s.boot.halted = false → p.val ∈ s.boot.romOk → s.vpm.warnLow = true → ∃ t,
      exec (.bootClaim p) s = .next t ∧ t.f BOOT_STAT_STEP = 0 ∧ t.f BOOT_STAT_FAIL = 4 ∧ t.f KW_STAT_STATE = 2 ∧ t.f KW_STAT_CAUSE = 0) ∧
    (step = 1 → s.boot.claim = none → s.boot.halted = false → ∃ t, exec (.claimTimeout) s = .next t ∧ t.boot.halted = true ∧
      s.boot.powerAt + 20000000 * nsU ≤ t.dtime ∧ t.f EV_ALARM_PENDING = 1 ∧ memSame s t) ∧
    (step = 9 → tt.val ∈ testers tp.val → ∃ t, exec (.testKernelTimeout cl tt tp) s = .next t ∧ t.dtime = s.dtime + 10000000 * nsU ∧
      t.boot.testFails = s.boot.testFails ++ [ (cl.val, tt.val, tp.val)] ∧ t.regs = s.regs) ∧
    (step = 9 → kw ≠ 2 → ∀ fs cs lo sl rg sq tr, ∃ t, exec (.startTestsEnd fs cs lo sl rg sq tr) s = .next t ∧ t.f BOOT_STAT_STEP = 13 ∧
      t.boot.testFails = [] ∧ memSame s t) ∧
    (step = 13 → kw = 0 → ∀ up oc et ch pa ok rg, ∃ t, exec (.servingReady up oc et ch pa ok rg) s = .next t ∧ t.f BOOT_STAT_STEP = 0 ∧
      (t.f BOOT_STAT_READY = 1 ∧ t.f KW_STAT_STATE = 0 ∧ t.f BOOT_STAT_FAIL = 0 ∧ t.f BOOT_STAT_WARM = 0 ∨
        t.f BOOT_STAT_READY = 0 ∧ t.f KW_STAT_STATE = 2 ∧ (t.f BOOT_STAT_FAIL = 2 ∨ ok.2 = false ∧ t.f BOOT_STAT_FAIL = 1))) ∧
    (kw = 3 → s.f BOOT_STAT_WARM ≠ 0 → s.f BOOT_IMGH_VALID = 0 → ∀ up oc et ch pa ok rg, ∃ t, exec (.servingReady up oc et ch pa ok rg) s = .next t ∧
      t.f BOOT_STAT_FALLBACK = 1 ∧ t.f BOOT_STAT_WARM = 0 ∧ t.f BOOT_STAT_STEP = 4 ∧ t.f KW_STAT_STATE = 0 ∧ t.f EV_ALARM_PENDING = 1) ∧
    (s.f BOOT_STAT_READY ≠ 0 → s.f BARN_STAT_STATE = 2 → s.boot.manDone = false → ∃ t, exec (.manifestCheck) s = .next t ∧ t.boot.manDone = true) ∧
    (kw ≠ 1 → kw ≠ 2 → (∃ t, exec (.keepwarmEntry k6) s = .next t ∧ entered t k6.val) ∧
      (∃ t, exec (.kwEnter) s = .next t ∧ entered t 2 ∧ (s.vpm.good = true → s.f I3C_CFG_CMD ≠ 0 → exec (.i3cEnter) s = .next t)) ∧
      (step = 0 → s.vpm.good = true → ∃ t, exec (.pwrWarnLow) s = .next t ∧ entered t 0 ∧ t.f MOD_PINS_PWRWARN = 0 ∧ t.vpm.warnLow = true)) ∧
    (∃ t, exec (.pwrWarnHigh) s = .next t ∧ t.f MOD_PINS_PWRWARN = 1 ∧ t.vpm.warnLow = false ∧ t.vpm.warnHighAt = s.dtime ∧
      t.f KW_STAT_STATE = kw ∧ memSame s t) ∧
    (s.vpm.devAbort = true → kw = 1 → s.boot.restart = 0 → ∃ u : State, exec (.deviceAbortEnd) s = .next u.kwFinish ∧ u.f KW_STAT_STATE = 1) ∧
    (kw = 1 → s.kwFinish.f KW_STAT_STATE = 2 ∧ s.kwFinish.harts = [] ∧
      (∀ e ∈ s.kwFinish.clus, ∃ x, (e.1, x) ∈ s.clus ∧ e.2 = x.cuts) ∧ s.kwFinish.pkts = [] ∧ s.kwFinish.flits = [] ∧
      s.kwFinish.tiles = [] ∧ ∀ a, s.kwFinish.rd a = if a < clsBase 1 then s.rd a else 0) ∧
    (kw = 2 → s.vpm.warnLow = false → s.f MOD_PINS_PWRWARN ≠ 0 → ∃ t, exec (.kwResume) s = .next t ∧ t.f KW_STAT_STATE = 3 ∧
      t.f BOOT_STAT_WARM = bool1 s.boot.maps14 ∧ t.f BOOT_STAT_READY = 0 ∧ t.boot.powerAt = s.dtime ∧ memSame s t ∧
      (s.vpm.good = true → s.f I3C_CFG_CMD ≠ 0 → exec (.i3cResume) s = .next t) ∧
      (s.f KW_CTL_AUTO ≠ 0 → s.vpm.uv = false → ∃ w, exec (.keepwarmAutoResume) s = .next w ∧ w.f KW_STAT_STATE = 3 ∧
        s.vpm.warnHighAt + s.f KW_CTL_HOLDOFF_MS * 1000000 * nsU ≤ w.dtime)) ∧
    (kw = 2 → s.vpm.warnLow = true → exec (.kwResume) s = .next (s.raise clsWarning 0x058 0xFF 5 0 (s.f KW_STAT_CAUSE))) ∧
    (s.vpm.good = true → (∃ t, exec (.i3cRead off n) s = .next t ∧ t.boot.i3cData = (List.range n).map (fun i => s.i3cByte (off.toNat + i)) ∧
        t.boot.i3cOff = (off.toNat + n) % 256 ∧ t.regs = s.regs) ∧
      exec (.i3cDynamicAddress da) s = .next (s.setF MOD_PINS_I3C_DA da.toNat) ∧
      (s.f I3C_CFG_CMD ≠ 0 → s.f EV_ALARM_PENDING = 1 → ∃ t, exec (.i3cAlarmClear) s = .next t ∧ t.f EV_ALARM_PENDING = 0 ∧ t.ev.faultPin = false))) ∧
  (∀ (s : State) (arrived : Bool) (rb : List Bool), 4 ≤ s.f BOOT_STAT_STEP → s.f BOOT_STAT_STEP ≤ 8 → s.f KW_STAT_STATE ≠ 2 →
    s.boot.claim.isSome = true → s.f BOOT_STAT_WARM = 0 → s.boot.halted = false →
    (∃ t, exec (.imageVerify false [] [] arrived rb) s = .next t ∧ t.f BOOT_STAT_FAIL = 2 ∧ t.f KW_STAT_CAUSE = 5 ∧ t.f BOOT_STAT_STEP = 0 ∧
      t.f KW_STAT_STATE = 2) ∧
    (s.f (CDIE_ID_HELD (s.f BOOT_STAT_MASTER)) = 0 →
      let m := if s.boot.streamed then s.eth.stream else s.eth.flash
      let r := verify m s.boot (arrived && (!s.boot.streamed || s.eth.xferAt = s.eth.xferLen)) true
      (r.1 ≠ 0 → ∃ t, exec (.imageVerify true [] [] arrived rb) s = .next t ∧ t.f BOOT_STAT_FAIL = 1 ∧ t.f BOOT_STAT_STEP = 0 ∧ t.f KW_STAT_STATE = 2 ∧
        t.f IMG_STAT_REASON = r.1 % 16 ∧ t.boot.inForce = false) ∧
      (let u := (((s.linkQual [] []).setF BOOT_STAT_STEP 8).showImage m r).holdOld m
       r.1 = 0 → recKind m = 1 → u.f (CDIE_ID_HELD (u.f BOOT_STAT_MASTER)) = 0 → (u.combo m).isSome = true → ∃ t,
        exec (.imageVerify true [] [] arrived rb) s = .next t ∧ t.f BOOT_STAT_STEP = 9 ∧ t.boot.inForce = true ∧ t.boot.staged = m ∧
        t.boot.imgLen = imgLen m ∧ t.boot.digest = imgD m))) ∧
  ∀ (bad : Nat → Bool) (j k p : Nat), j < k → k < 32 → coreFor bad j = some p → bad p = false ∧ p < 36 ∧ coreFor bad k ≠ some p ∧
    (bad j = false → p = j)

/-- R24, R405–R416: completion and result of the rows of winnow, retirement and glean. What a failing array or a kernel gives is an operand
(DESIGN CHOICE, log entry 49). -/
def Obligations.WinnowAndGlean : Prop :=
  (∀ (s : State) (n w : Fin 1024) (x : Sample) (g : Flags), (s.hart w.val).slotW = some x → x.wit = w.val → x.src < 1024 → x.src ≠ w.val →
    (s.hart x.src).slotO = some x →
    let b := s.wnBase x.src
    let freed (t : State) : Prop := (t.hart w.val).slotW = none ∧ (t.hart x.src).slotO = none ∧ memSame s t
    (x.landed = 0 → n.val = x.src → ∃ t y, exec (.winnowCopyLanding n) s = .next t ∧ (t.hart w.val).slotW = some y ∧ y.landed ≠ 0 ∧
      y = { x with landed := y.landed } ∧ (t.hart x.src).slotO = some y ∧ memSame s t ∧ t.regs = s.regs) ∧
    (x.landed ≠ 0 → (s.hart w.val).witFlags = none → s.classifying w.val = false → s.wnIdle w.val = true → ∃ t,
      exec (.witnessRun w []) s = .next t ∧ (t.hart w.val).witRows = x.run.1 ∧ (t.hart w.val).witFlags = some x.run.2 ∧ memSame s t ∧ tensorSame s t) ∧
    (x.landed ≠ 0 → (s.hart w.val).witFlags = none → ∃ t, exec (.sampleExpiry w) s = .next t ∧ freed t ∧
      x.landed + 10000000 * nsU ≤ t.copyU (w.val / 32) ∧ t.f (WN_STAT_SKIPPED b) = (s.bump (WN_STAT_SKIPPED b) 1).f (WN_STAT_SKIPPED b)) ∧
    ((s.hart w.val).witFlags = some g → s.classifying w.val = false →
      (∃ t, exec (.winnowCompare w true) s = .next t ∧ freed t ∧ t.f (WN_STAT_SKIPPED b) = (s.bump (WN_STAT_SKIPPED b) 1).f (WN_STAT_SKIPPED b)) ∧
      ((s.hart w.val).witRows = x.rows → g = x.flags → ∃ t, exec (.winnowCompare w false) s = .next t ∧ freed t ∧
        t.f (WN_STAT_SAMPLES b) = (s.bump (WN_STAT_SAMPLES b) 1).f (WN_STAT_SAMPLES b) ∧
        t.f (WN_STAT_MISMATCH b) = s.f (WN_STAT_MISMATCH b)) ∧
      ((s.hart w.val).witRows ≠ x.rows → x.third < 1024 → (s.hart x.third).slotC = none → s.f (WN_CFG_AUTOABORT b) = 0 → ∃ t,
        exec (.winnowCompare w false) s = .next t ∧ (t.hart x.third).slotC = some x ∧ memSame s t ∧
        t.f (WN_STAT_MISMATCH b) = (s.bump (WN_STAT_MISMATCH b) 1).f (WN_STAT_MISMATCH b) ∧ t.f (WN_STAT_SAMPLES b) = s.f (WN_STAT_SAMPLES b))) ∧
    (s.classifying w.val = true → 
      exec (.classificationTimeout w) s = .next (s.verdict w.val 8) ∧
      ((s.hart w.val).witFlags = some g → exec (.classificationVerdict w [] [] [] true) s = .next (s.verdict w.val 8) ∧
        exec (.classificationVerdict w [] [] [] false) s = .next (s.verdict w.val
          (verdictRow true true (decide ((x.rows, x.flags) = x.run)) (decide (((s.hart w.val).witRows, g) = x.run)) true))) ∧
      (let t := s.verdict w.val 8
       freed t ∧ t.f (WN_CLASS_INDET b) = (s.bump (WN_CLASS_INDET b) 1).f (WN_CLASS_INDET b)))) ∧
  (∀ (s : State) (n : Fin 1024) (p : Fin 32) (v : BitVec 32),
    let c := n.val / 32
    ((s.part p.val).held = true → ∃ t, exec (.wnSeedWrite p v) s = .next t ∧ t.f (WN_SEED_SEED (partCsr p.val)) = v.toNat ∧ memSame s t ∧
      ∀ m, m < 1024 → s.partOf (m / 32) = p.val → (t.hart m).gen = if v = BitVec.ofNat 32 m then 1 else v ^^^ BitVec.ofNat 32 m) ∧
    (s.absent n.val = false → s.retiring n.val = false → ∃ t, exec (.wnCoreRetire n) s = .next t ∧ t.retiring n.val = true ∧
      t.f (WN_CORE_RETIRE n.val) = 1 ∧ memSame s t ∧ t.harts = s.harts) ∧
    (s.retiring n.val = true → (s.hart n.val).remap = none → s.cluIdle c = true → (s.hart n.val).cmds = [] → ∃ t,
      exec (.retirementRemap n) s = .next t ∧ t.remapping n.val = true ∧ (t.hart n.val).recs = [] ∧ memSame s t) ∧
    (∀ a b, s.remapping n.val = true → (∀ m, s.spareCols n.val = some m → m = (a, b)) → ∃ t, exec (.remapEnd n a b) s = .next t ∧ t.remapping n.val = false ∧ t.retiring n.val = false ∧
      (t.hart n.val).sregs = [] ∧
      (∀ a, t.rd a = if loftAddr n.val 0 ≤ a ∧ a < loftAddr (n.val + 1) 0 then 0 else s.rd a) ∧
      (∀ q, s.spare c = some q → t.f (CORE_MAP_PCORE n.val) = q ∧ t.absent n.val = s.absent n.val ∧
        t.f (ARRAY_COLS_BAD_A n.val) = s.boot.colMaps.get noCols (36 * c + q) % 128 ∧
        t.f (ARRAY_COLS_BAD_B n.val) = s.boot.colMaps.get noCols (36 * c + q) / 128 % 128) ∧
      (s.spare c = none → t.absent n.val = true ∧ t.f (CORE_MAP_PCORE n.val) = 0x3F)) ∧
    (∀ m x y, s.spareCols n.val = some m → m ≠ (x, y) → exec (.remapEnd n x y) s = .next s) ∧
    (∀ t0 l, (s.hart n.val).charges = t0 :: l → ∃ t, exec (.chargeExpiry n) s = .next t ∧ t0 + 3600000000000 * nsU ≤ t.copyU c ∧
      t0 ∉ (t.hart n.val).charges ∧ memSame s t) ∧
    (∀ ks, s.gleanReady n.val = true → ∃ t, exec (.gleanWindow n ks []) s = .next t ∧ t.f (WN_CORE_WIPED n.val) = 1 ∧
      t.f (PST_STAT_STATE c) = 0 ∧ (t.hart n.val).gleanEnd.isSome = true ∧ memSame s t ∧
      (s.f (PST_STAT_STATE c) = 0 → (s.hart n.val).gleanAt + s.f (WN_CFG_GL_PERIOD_S (s.wnBase n.val)) * 1000000000 * nsU ≤ t.copyU c)) ∧
    (∀ e, (s.hart n.val).gleanEnd = some e → ∃ t, exec (.gleanWindowEnd n) s = .next t ∧ (t.hart n.val).gleanEnd = none ∧
      e ≤ (t.hart n.val).gleanAt ∧ e ≤ t.copyU c ∧ memSame s t))

/-- R100, R188, R419–R425: completion and result of PART_CTL_ABORT, ABORT_WRITEOFF, ABORT_RECONCILE, PART_CTL_LEDGER_AUDIT, LEDGER_STAT_AUDIT
and AUDIT_VERDICT. -/
def Obligations.AbortsAndAudits : Prop :=
  ∀ (s : State) (p : Fin 32),
    let b := partCsr p.val
    (s.f (PART_STAT_ABORT b) ≠ 0 → exec (.partCtlAbort p) s = .next s) ∧
    ((s.part p.val).held = true → s.f (PART_STAT_ABORT b) = 0 → ∃ t, exec (.partCtlAbort p) s = .next t ∧ t.f (PART_STAT_ABORT b) = 1 ∧
      (t.part p.val).abortAt = s.dtime ∧
      ∀ n, n < 1024 → s.partOf (n / 32) = p.val → s.absent n = false → t.f (CC_STAT_STATE n) = 0 ∧ t.f (CC_STAT_HCODE n) = 0xFF ∧
        (t.hart n).cmds = [] ∧ (t.hart n).aq = [] ∧ (t.hart n).stall = none ∧ (t.hart n).ihold = []) ∧
    (s.f (PART_STAT_ABORT b) = 1 → ∃ t, exec (.abortWriteoff p) s = .next t ∧ (s.part p.val).abortAt + 1500000 * nsU ≤ t.dtime ∧
      t.pkts = s.pkts.filter (fun q => q.part ≠ p.val) ∧ memSame s t ∧ t.harts = s.harts ∧ t.f (PART_STAT_ABORT b) = 1) ∧
    (s.f (PART_STAT_ABORT b) = 1 → ∃ t, exec (.abortReconcile p) s = .next t ∧ t.f (PART_STAT_ABORT b) = 0 ∧
      (∀ pl, ∀ q ∈ (t.vport pl).queue, s.flitPart q ≠ p.val) ∧ (∀ x ∈ t.flits, s.flitPart x.fl ≠ p.val) ∧
      ∀ c < 32, s.partOf c = p.val → ∀ h ∈ cluHarts c, ∀ i < 16, t.credit h i = 0) ∧
    ((s.part p.val).held = true → ∃ t, exec (.partCtlLedgerAudit p) s = .next t ∧ t.f (PART_STAT_AUDIT b) = 1 ∧ (t.part p.val).auditAt = s.dtime ∧
      memSame s t ∧ t.harts = s.harts) ∧
    (∃ t, exec (.ledgerStatAudit) s = .next t ∧ t.f LEDGER_STAT_RESULT = 1 ∧ (t.part devPart).auditAt = s.dtime ∧ memSame s t ∧ t.harts = s.harts) ∧
    (let q : Fin 33 := ⟨p.val, by omega⟩
     s.f (PART_STAT_AUDIT b) = 1 →
      (s.quiet p.val = false → ∃ t, exec (.auditVerdict q) s = .next t ∧ t.f (PART_STAT_NOTQUIET b) = 1 ∧ t.f (PART_STAT_AUDIT b) = 0 ∧
        (s.part p.val).auditAt + 1000000 * nsU ≤ t.dtime ∧ memSame s t ∧ t.harts = s.harts) ∧
      (s.quiet p.val = true → ∀ u, u = s.auditRead p.val →
        (u.auditItem p.val = none → ∃ t, exec (.auditVerdict q) s = .next t ∧ t.f (PART_STAT_AUDIT b) = 2 ∧ t.f (PART_STAT_NOTQUIET b) = 0 ∧
          memSame s t ∧ t.harts = s.harts) ∧
        (∀ i, u.auditItem p.val = some i → ∃ t, exec (.auditVerdict q) s = .next t ∧ t.f (PART_STAT_AUDIT b) = 3 ∧
          t.f (PART_STAT_LEDGER_BAD b) = 1 ∧ t.f EV_ALARM_PENDING = 1 ∧
          ((s.part p.val).held = true → t.f (PART_STAT_ABORT b) ≠ 0)))) ∧
    (s.f LEDGER_STAT_RESULT = 1 → ∃ t, exec (.auditVerdict ⟨32, by omega⟩) s = .next t ∧
      (t.f LEDGER_STAT_RESULT = 2 ∨ t.f LEDGER_STAT_RESULT = 3))

/-- R477, R482–R485, R489–R496: completion and result of the rows of the barn. What the medium gives (units lost, failures, blocks found) is an
operand (DESIGN CHOICE, log entry 49). -/
def Obligations.BarnCommandsAndBackground : Prop :=
  (∀ (s : State) (host : Bool) (c : Fin 32) (k : Fin 8) (o : BarnOp) (b : Bale) (n : Nat), host = false ∨ s.barn.autoload = [] →
    let found (op : Nat) : Prop := s.posted host c.val k.val op = some o
    let busy : Fd := if host then BARN_HSLOT_BUSY k.val else BN_SLOT_BUSY c.val k.val
    let status : Fd := if host then BARN_HSLOT_STATUS k.val else BN_SLOT_STATUS c.val k.val
    let ends (t : State) (st : Nat) : Prop := t.f busy = 0 ∧ t.f status = st ∧ o ∉ t.barn.ops
    let at_ := devAddr 0 o.haddr
    let free : Prop := s.poisoned at_ o.hlen = false
    (∀ st, s.barnStatus o = some st → let stops (i : Instr) : Prop := ∃ t, exec i s = .next t ∧ ends t st.code ∧ memSame s t ∧
        t.barn.bales = s.barn.bales ∧ t.barn.blocks = s.barn.blocks
      (found 1 → stops (.load host c k [] n)) ∧ (found 2 → stops (.store host c k [])) ∧ (found 3 → stops (.create host c k)) ∧
      (found 4 → stops (.seal host c k)) ∧ (found 5 → stops (.delete host c k)) ∧ (found 6 → stops (.infoOp host c k))) ∧
    (s.barnStatus o = none →
      (found 3 → ∃ t b', exec (.create host c k) s = .next t ∧ ends t 0 ∧ memSame s t ∧ t.findBale o.bale = some b' ∧ b'.size = o.len ∧
        b'.owner = (if host then wbits (o.word 0) 16 8 else s.partOf c.val) ∧ b'.state = 0 ∧ b'.wpos = 0 ∧ b'.parity = o.parity) ∧
      (found 5 → ∃ t, exec (.delete host c k) s = .next t ∧ ends t 0 ∧ memSame s t ∧ t.findBale o.bale = none ∧
        ∀ x ∈ t.barn.blocks, x.term = 2 → x.bale ≠ o.bale) ∧
      (s.findBale o.bale = some b →
        (found 1 → free → let lost (u : Nat) : Bool := s.unitLost b [] (o.bofs + u)
          let us := (List.range o.len).flatMap fun u => if lost u then List.replicate 4096 0 else b.unit (o.bofs + u)
          ∃ t, exec (.load host c k [] n) s = .next t ∧ memStores s t at_ us ∧
            ends t (if (∃ u < o.len, lost u = true) ∨ o.verify = true ∧ shake8 us ≠ b.digest then 3 else 0)) ∧
        (found 2 → free → ∃ t b', exec (.store host c k []) s = .next t ∧ ends t 0 ∧ memSame s t ∧ t.findBale o.bale = some b' ∧
          b'.wpos = b.wpos + o.len ∧ b'.state = b.state ∧ (∀ i, i < o.hlen → b'.data.get 0 (o.bofs * 4096 + i) = s.rd (at_ + i)) ∧
          ∀ i, i < o.bofs * 4096 → b'.data.get 0 i = b.data.get 0 i) ∧
        (found 4 → s.opsOn 2 b.id o = true → exec (.seal host c k) s = .next s) ∧
        (found 4 → s.opsOn 2 b.id o = false → b.state = 0 → ∃ t b', exec (.seal host c k) s = .next t ∧ ends t 0 ∧ memSame s t ∧
          t.findBale o.bale = some b' ∧ b' = { b with state := 1, digest := shake8 b.bytes }) ∧
        (found 4 → s.opsOn 2 b.id o = false → b.state = 3 → ∃ t, exec (.seal host c k) s = .next t ∧ ends t 2 ∧ memSame s t ∧
          t.findBale o.bale = none) ∧
        (found 6 → free → ∃ t, exec (.infoOp host c k) s = .next t ∧ ends t 0 ∧ memStores s t at_ b.entry))) ∧
    (∀ ch, s.barn.ops.find? (fun x => x.host = host && (host || x.clu = c.val) && x.slot = k.val) = some o →
      o.op = 1 ∨ o.op = 2 ∨ o.op = 4 ∨ o.op = 5 → ∃ t, exec (.nandReadyTimeout host c k ch) s = .next t ∧ ends t 6 ∧ memSame s t ∧
        ch.val ∈ t.barn.outNext)) ∧
  (∀ (s : State) (ch tgt blk temp n : Nat) (b : Block), s.findBlock ch tgt blk = some b →
    let now (t : State) (x : Block) : Prop := t.findBlock ch tgt blk = some x
    (∃ t x, exec (.nandOperationComplete 1 ch tgt blk false n) s = .next t ∧ now t x ∧ x.term = 3 ∧ memSame s t) ∧
    exec (.nandOperationComplete 1 ch tgt blk true n) s = .next s ∧
    exec (.nandOperationComplete 0 ch tgt blk true n) s = .next (s.bump BARN_ECC_RETRIES n) ∧
    (∃ t, exec (.nandOperationComplete 0 ch tgt blk false n) s = .next t ∧ t.f BARN_ECC_UE = min (s.f BARN_ECC_UE + 1) 65535 ∧ memSame s t ∧
      t.barn = s.barn) ∧
    (s.barnWorks = true → b.term = 4 →
      (∃ t x, exec (.blockErase ch tgt blk true) s = .next t ∧ now t x ∧ x.erases = b.erases + 1 ∧ (x.term = 1 ∨ x.term = 2) ∧ memSame s t) ∧
      (∃ t x, exec (.blockErase ch tgt blk false) s = .next t ∧ now t x ∧ x.erases = b.erases + 1 ∧ x.term = 3 ∧ memSame s t) ∧
      exec (.nandOperationComplete 2 ch tgt blk true n) s = exec (.blockErase ch tgt blk true) s) ∧
    (s.barnWorks = true → b.term = 2 → (∀ x ∈ s.barn.blocks, x.named ch tgt blk = true → x = b) → ∀ so re, ∃ t x, exec (.blockScrub ch tgt blk temp so re) s = .next t ∧ now t x ∧ memSame s t ∧
      b.scrubAt + scrubPeriod (max b.hot temp) ≤ t.dtime ∧ x.scrubAt = t.dtime ∧ x.hot = temp ∧
      x.term = (if so then 3 else if re then 4 else 2))) ∧
  ∀ (s : State) (l : List (Nat × Nat × Nat × Bool)),
    (2 ≤ s.f BARN_STAT_STATE →
      (∃ t, exec (.journalCheckpoint) s = .next t ∧ t.barn.records = 0 ∧ t.barn.checkAt = t.dtime ∧ t.regs = s.regs ∧ memSame s t ∧
        (s.barn.records < 65536 → s.barn.checkAt + 10000000000 * nsU ≤ t.dtime)) ∧
      exec (.barnRebuild) s = .next (s.setF BARN_STAT_REBUILD 1)) ∧
    (s.f BARN_STAT_STATE < 2 → exec (.journalCheckpoint) s = .next s ∧ exec (.barnRebuild) s = .next s) ∧
    (s.f BARN_STAT_REBUILD ≠ 0 → ∃ t, exec (.barnRebuildEnd) s = .next t ∧ t.f BARN_STAT_REBUILD = 0 ∧ memSame s t ∧
      (∀ i, i < 5 → t.f (BARN_BLK_BLOCKS i) = s.blocksIn i % 2 ^ 32) ∧
      ((∀ b ∈ s.barn.blocks, 1 ≤ b.term ∧ b.term ≤ 4) → t.f BARN_STAT_STATE = 2)) ∧
    (s.f BARN_STAT_STATE = 1 → s.barn.formatted = false → ∃ t, exec (.blankMediumFormatEnd l) s = .next t ∧ t.barn.formatted = true ∧
      t.f BARN_STAT_STATE = 2 ∧ memSame s t ∧ (∀ b ∈ t.barn.blocks, ∃ x ∈ l, b.named x.1 x.2.1 x.2.2.1 = true) ∧
      (∀ ch tgt, let have_ := (l.filter fun x => x.1 = ch ∧ x.2.1 = tgt).length
        (t.barn.blocks.filter fun b => b.ch = ch ∧ b.tgt = tgt).length =
          if s.barn.pages.get 0 ch * s.barn.pbytes.get 0 ch = 0 then have_
          else min have_ (s.targetBlocks ch (l.map fun x => (x.1, x.2.1)).eraseDups.length)) ∧
      ((∀ x ∈ l, ∀ y ∈ l, x.1 = y.1 → x.2.1 = y.2.1 → x.2.2.1 = y.2.2.1 → x = y) → ∀ x ∈ l, x.2.2.2 = true →
        ∀ b ∈ t.barn.blocks, b.named x.1 x.2.1 x.2.2.1 = true → b.term = 3))

/-- R451–R456, R518, R519, R521: completion and result of the rows of Caddy. Whether a tag matches and a signature holds are operands or opaque
(log entries 11 and 49); QP and REGION refusals as STATE or RANGE are the model's choice (DESIGN CHOICE), and so are the words of a
RSP and the status of a REFUSE (log entry 83). -/
def Obligations.CaddySessionsAndOperations : Prop :=
  (∀ (s : State) (id seq : Nat) (x : Session), s.session id = some x → s.f ETH_STAT_UP ≠ 0 →
    let u := s.modSession id fun y => { y with heardAt := s.dtime }
    let sent (t : State) (l : List Nat) : Prop :=
      let g := cutSegs (numBytes l)
      ∀ z ∈ g.zipIdx, let b := caddyHead 4 z.2 g.length id x.out z.1.length ++ z.1
        (txCaddy, 4 :: (b ++ x.tag b).map BitVec.toNat) ∈ t.eth.txq
    let answered (t : State) (st : Nat) (l : List Nat) : Prop :=
      (∃ y, t.session id = some y ∧ y.seq = seq ∧ y.rsp = st :: l ∧ y.out = x.out + 1) ∧ sent t (st :: l)
    let runs (i : Instr) (st : Nat) (l : List Nat) (p : State → Prop) : Prop := ∃ t, exec i s = .next t ∧ answered t st l ∧ p t
    let same (t : State) : Prop := t.regs = s.regs ∧ memSame s t
    let shut : Prop := s.f KW_STAT_STATE = 2 ∧ s.f BOOT_STAT_FAIL = 1
    (∀ op a, exec (.caddyCmd id seq false op a) s = .next (s.bump CADDY_STAT_BADTAG 1)) ∧
    (∀ op a, seq < x.seq ∨ seq = 0 → exec (.caddyCmd id seq true op a) s = .next s) ∧
    (∀ op a, seq = x.seq → seq ≠ 0 → ∃ t, exec (.caddyCmd id seq true op a) s = .next t ∧
      sent t x.rsp ∧ (∃ y, t.session id = some y ∧ y.seq = x.seq ∧ y.rsp = x.rsp) ∧ same t) ∧
    (x.seq < seq → shut → ∀ op a, op ≠ 0x01 → op ≠ 0x0B → op ≠ 0x0C → runs (.caddyCmd id seq true op a) 2 [] same) ∧
    (x.seq < seq → ∀ op a, op = 0 ∨ 0x0C < op → ¬ shut → runs (.caddyCmd id seq true op a) 7 [] same) ∧
    (x.seq < seq →
      (∀ o, (csrOk o = true → target (devAddr 15 o) = .csr o → s.devStatus (devAddr 15 o) 4 = .ok →
          runs (.csrRead id seq true [ o]) 0 [ (u.csrRead o).1.toNat] fun t => (∀ d : Fd, t.f d = (u.csrRead o).2.f d) ∧ memSame s t) ∧
        (csrOk o = true → target (devAddr 15 o) = .csr o → s.devStatus (devAddr 15 o) 4 = .state → runs (.csrRead id seq true [ o]) 2 [] same) ∧
        (∀ c w, csrOk o = true → target (devAddr 15 o) = .sdmem c w ∨ target (devAddr 15 o) = .simem c w → s.devStatus (devAddr 15 o) 4 = .ok →
          s.poisoned (devAddr 15 o) 4 = false → runs (.csrRead id seq true [ o]) 0 [ leVal (s.rdN (devAddr 15 o) 4)] (memSame s)) ∧
        (csrOk o = false → runs (.csrRead id seq true [ o]) 7 [] same)) ∧
      (s.f IMG_XFER_STATE = 0 → s.step18 = false → ∀ len, (len ≤ 2 ^ 28 → runs (.flashBegin id seq true len) 0 [] fun t =>
          t.f IMG_XFER_STATE = 1 ∧ t.eth.xferLen = len ∧ t.eth.xferAt = 0 ∧ t.eth.xferBy = id ∧ memSame s t) ∧
        (2 ^ 28 < len → runs (.flashBegin id seq true len) 7 [] same)) ∧
      (s.f IMG_XFER_STATE ≠ 0 → ∀ len, runs (.flashBegin id seq true len) 2 [] same) ∧
      (∀ off d, s.f IMG_XFER_STATE = 1 → s.eth.xferBy = id → off = s.eth.xferAt → d ≠ [] → d.length ≤ 22000 →
        off + d.length ≤ s.eth.xferLen → runs (.dataOp id seq true off d) 0 [] fun t => t.eth.xferAt = off + d.length ∧
          (∀ i, i < d.length → t.eth.flash.get 0xFF (off + i) = d.getD i 0) ∧
          (∀ a, a < off → t.eth.flash.get 0xFF a = s.eth.flash.get 0xFF a) ∧ memSame s t) ∧
      (s.f IMG_XFER_STATE = 1 → s.eth.xferBy = id → runs (.flashEnd id seq true) 0 [ (verify s.eth.flash s.boot true false).1] fun t =>
        t.f IMG_XFER_STATE = 0 ∧ t.eth.flash = s.eth.flash ∧ memSame s t) ∧
      (s.f IMG_XFER_STATE = 0 → runs (.cancel id seq true) 2 [] same) ∧
      (s.f IMG_XFER_STATE ≠ 0 → s.eth.xferBy = id → runs (.cancel id seq true) 0 [] fun t => t.f IMG_XFER_STATE = 0 ∧ memSame s t) ∧
      (s.vpm.warnLow = true → ∀ b len, runs (.restart id seq true b len) 2 [] same) ∧
      (s.vpm.warnLow = false → s.f MOD_PINS_PWRWARN ≠ 0 →
        (s.f BOOT_STAT_READY ≠ 0 → runs (.restart id seq true false 0) 0 [] fun t => t.boot.restart = 1 ∧ t.vpm.devAbort = true) ∧
        (s.f BOOT_STAT_READY = 0 → runs (.restart id seq true false 0) 0 [] fun t => t.boot.restart = 0 ∧ t.f BOOT_STAT_STEP = 2 ∧
          t.f KW_STAT_STATE = 0 ∧ t.boot.streamed = false) ∧
        (s.f BOOT_STAT_READY ≠ 0 → s.f IMG_XFER_STATE = 0 → ∀ len, len ≤ 2 ^ 28 → runs (.restart id seq true true len) 0 [] fun t =>
          t.boot.restart = 2 ∧ t.f IMG_XFER_STATE = 2 ∧ t.eth.xferLen = len ∧ t.vpm.devAbort = true)) ∧
      (∀ nonce, (s.eth.quotes.filter fun t => s.dtime < t + 1000000000 * nsU).length < 16 →
        runs (.quote id seq true nonce) 0 (u.quoteRsp (nonce.map BitVec.toNat)) same)) ∧
    (x.seq < seq → ¬ shut →
      (∀ o w, (csrOk o = true → target (devAddr 15 o) = .csr o → s.devStatus (devAddr 15 o) 4 = .ok → runs (.csrWrite id seq true [ (o, w)]) 0 [ 1] fun t =>
          ∀ d : Fd, t.f d = (u.hostWrite false o w).f d) ∧
        (csrOk o = false → runs (.csrWrite id seq true [ (o, w)]) 7 [ 0] same)) ∧
      runs (.caddyAbort id seq true 0xFF) 0 [] (fun t => t.vpm.devAbort = true) ∧
      (∀ p : BitVec 8, p.toNat < 32 → (s.part p.toNat).held = true → runs (.caddyAbort id seq true p) 0 [] fun t =>
        t.f (PART_STAT_ABORT (partCsr p.toNat)) ≠ 0) ∧
      (∀ p : BitVec 8, p ≠ 0xFF → (s.part p.toNat).held = false → runs (.caddyAbort id seq true p) 7 [] same) ∧
      (s.f KW_STAT_STATE ≠ 1 → s.f KW_STAT_STATE ≠ 2 → runs (.caddyKeepwarm id seq true true) 0 [] fun t =>
        t.f KW_STAT_STATE = 1 ∧ t.f KW_STAT_CAUSE = 1 ∧ t.f BOOT_STAT_READY = 0) ∧
      (s.f KW_STAT_STATE = 2 → s.vpm.warnLow = false → s.f MOD_PINS_PWRWARN ≠ 0 → runs (.caddyKeepwarm id seq true false) 0 [] fun t =>
        t.f KW_STAT_STATE = 3 ∧ memSame s t) ∧
      (s.f KW_STAT_STATE = 2 → s.vpm.warnLow = true → runs (.caddyKeepwarm id seq true false) 2 [] fun t => t.f KW_STAT_STATE = 2 ∧ memSame s t) ∧
      (∀ w, runs (.plimit id seq true w) 0 [] fun t => t.f DEV_PLIMIT_PSET_W = min w (s.f DEV_PLIMIT_PMAX_W) % 65536 ∧ memSame s t) ∧
      (∀ cls tel, cls ≤ 4 → runs (.subscribe id seq true cls tel) 0 [] fun t => same t ∧ ∃ y, t.session id = some y ∧ y.cls = cls ∧ y.tel = tel) ∧
      (∀ cls tel, 4 < cls → runs (.subscribe id seq true cls tel) 7 [] same) ∧
      (∀ sec ns, (ns < 1000000000 → sec < 2 ^ 48 → runs (.timeofday id seq true sec ns) 0 [] fun t => t.tim.todNext = some (sec, ns) ∧ same t) ∧
        (1000000000 ≤ ns → runs (.timeofday id seq true sec ns) 7 [] fun t => t.tim = s.tim ∧ same t)) ∧
      (∀ q m, m = 1024 ∨ m = 2048 ∨ m = 4096 →
        ((∀ e ∈ s.eth.qps, e.qpn ≠ q) → s.eth.qps.length < 256 → runs (.qp id seq true 0 q m) 0 [] fun t =>
          t.eth.qps = s.eth.qps ++ [⟨q, m, 65536, false⟩] ∧ same t) ∧
        ((∃ e ∈ s.eth.qps, e.qpn = q) →
          runs (.qp id seq true 0 q m) 2 [] (fun t => t.eth.qps = s.eth.qps ∧ same t) ∧
          runs (.qp id seq true 1 q m) 0 [] (fun t => (∀ e ∈ t.eth.qps, e.qpn = q → e.mtu = m) ∧ same t) ∧
          runs (.qp id seq true 2 q m) 0 [] (fun t => (∀ e, e ∈ t.eth.qps ↔ e ∈ s.eth.qps ∧ e.qpn ≠ q) ∧ same t))) ∧
      (∀ base len rd wr, 0 < len → base + len ≤ 0x30000000000 → rd = true ∨ wr = true → s.eth.mrs.length < 1024 →
        ∃ k, runs (.region id seq true true base len rd wr) 0 [ k] fun t => k ≠ 0 ∧ (∀ r ∈ s.eth.mrs, r.key ≠ k) ∧
          t.eth.mrs = s.eth.mrs ++ [⟨k, base, len, rd, wr⟩] ∧ same t) ∧
      (∀ base len rd wr, (∃ r ∈ s.eth.mrs, r.key = base) → runs (.region id seq true false base len rd wr) 0 [] fun t =>
        (∀ r, r ∈ t.eth.mrs ↔ r ∈ s.eth.mrs ∧ r.key ≠ base) ∧ same t) ∧
      (∀ d, d.length < 16 → runs (.glean id seq true 0 d) 0 [] fun t => t.eth.pack = d ∧ same t) ∧
      (∀ off d, off ≠ 0 → off ≠ s.eth.pack.length → runs (.glean id seq true off d) 7 [] same))) ∧
  ∀ (s : State) (a : List (BitVec 8)) (l : List (List (BitVec 8))) (id : Nat) (x : Session), s.f ETH_STAT_UP ≠ 0 →
    (openOf (a :: l) = none → exec (.caddyOpen a l) s = .next s) ∧
    (∀ m, openOf (a :: l) = some m →
      let few : Prop := (s.eth.opens.filter fun t => s.dtime < t + 1000000000 * nsU).length < 4
      (¬ few → exec (.caddyOpen a l) s = .next s) ∧
      (few → s.openOk m = true → ∃ t n nonce ct keys, exec (.caddyOpen a l) s = .next t ∧ n ≠ 0 ∧ s.session n = none ∧
        keys.length = 64 ∧ nonce.length = 32 ∧ ct.length = 1568 ∧
        t.eth.sessions = s.eth.sessions ++ [⟨n, 0, [], s.dtime, 0, false, 1, keys⟩] ∧
        t.f CADDY_STAT_SESSIONS = (s.eth.sessions.length + 1) % 16 ∧ memSame s t ∧
        (let b := leBytes 4 n ++ nonce ++ ct
         let d := b ++ s.identitySign (caddySigned 2 n 0 (b ++ List.replicate 1536 0) b.length)
         let g := cutSegs d
         ∀ z ∈ g.zipIdx, ∃ tag, tag.length = 32 ∧
          (txCaddy, 2 :: (caddyHead 2 z.2 g.length n 0 z.1.length ++ z.1 ++ tag).map BitVec.toNat) ∈ t.eth.txq)) ∧
      (few → s.openOk m = false → ∃ t st, exec (.caddyOpen a l) s = .next t ∧ t.eth.sessions = s.eth.sessions ∧
        t.f CADDY_STAT_BADOPEN = min (s.f CADDY_STAT_BADOPEN + 1) 15 ∧ memSame s t ∧
        (st = Status.state ∨ st = Status.range) ∧
        t.eth.txq = s.eth.txq ++ [ (txCaddy, 8 :: (caddyHead 8 0 1 0 0 1 ++ leBytes 1 st.code).map BitVec.toNat)])) ∧
    (s.session id = some x →
      (∃ t, exec (.caddyClose id true) s = .next t ∧ t.session id = none ∧ memSame s t) ∧
      exec (.caddyClose id false) s = .next (s.bump CADDY_STAT_BADTAG 1) ∧
      (∃ t, exec (.caddySessionTimeout id) s = .next t ∧ t.session id = none ∧ x.heardAt + 300 * (1000000000 * nsU) ≤ t.dtime ∧ memSame s t)) ∧
    (s.f IMG_XFER_STATE = 2 → ∃ t, exec (.streamDataTimeout) s = .next t ∧ t.f IMG_XFER_STATE = 0 ∧ t.f BOOT_STAT_FAIL = 1 ∧
      t.f IMG_STAT_REASON = 2 ∧ t.f KW_STAT_STATE = 2 ∧ t.f BOOT_STAT_STEP = 0 ∧ s.eth.xferTime + 10 * (1000000000 * nsU) ≤ t.dtime)

/-- R438–R448, R520: completion and result of the rows of the Ethernet port. The order of the 4-lane forms tried before an image is the model's
choice (DESIGN CHOICE); `txq` and `sent` hold frames that
wait and frames sent, as numbers of what they carry. Errors of a READ or WRITE and the 17th READ are log entry 82's. -/
def Obligations.FramesRingsAndHostMemory : Prop :=
  (∀ (s : State) (len dport arg q key addr n : Nat) (vid : Option Nat) (ecn : Bool) (d : List (BitVec 8)),
    let up : Prop := s.f ETH_STAT_UP ≠ 0
    let queues (t : State) (l : List (Nat × List Nat)) : Prop := t.eth.txq = s.eth.txq ++ l
    let answers (t : State) (l : List (Nat × List Nat)) : Prop := queues t l ∧ t.regs = s.regs ∧ memSame s t ∧ t.harts = s.harts
    let qp (q : Nat) : Prop := s.f KW_STAT_STATE = 0 ∧ ∃ x ∈ s.eth.qps, x.qpn = q ∧ x.err = false
    let may (m : Nat) (wr : Bool) : Prop := ∃ r ∈ s.eth.mrs, r.key = key ∧ (if wr then r.wr else r.rd) = true ∧ r.base ≤ addr ∧ addr + m ≤ r.base + r.len
    let tag : Prop := (vid = none ∧ s.eth.tagged = false) ∨ (s.eth.tagged = true ∧ vid = some s.eth.vid) ∨ (vid ≠ none ∧ s.eth.tagged = false)
    let roce (x : List Nat) : List (Nat × List Nat) := (if ecn then [ (txRoce, [ 44, q])] else []) ++ [ (txRoce, x)]
    (up → 64 ≤ len → len ≤ 9600 →
      (tag →
        (∀ k, k ≠ 7 → exec (.ethFrameReceive len vid k (dport, arg) true) s = .next (s.bump ETH_DROP_NOPORT 1)) ∧
        (∃ t, exec (.ethFrameReceive len vid 0 (dport, arg) false) s = .next t ∧ answers t [ (txCaddy, [ 10])]) ∧
        (∃ t, exec (.ethFrameReceive len vid 1 (dport, arg) false) s = .next t ∧ answers t [ (txCaddy, [ 11])]) ∧
        (let recent := s.eth.echoes.filter fun e => s.dtime < e + 1000000000 * nsU
         ∃ t, exec (.ethFrameReceive len vid 2 (dport, arg) false) s = .next t ∧
          answers t (if recent.length < 100 then [ (txCaddy, [ 12])] else [])) ∧
        (s.portTaken false dport = false → exec (.ethFrameReceive len vid 3 (dport, arg) false) s = .next (s.bump ETH_DROP_NOPORT 1)) ∧
        (s.portTaken true dport = false → exec (.ethFrameReceive len vid 4 (dport, arg) false) s = .next (s.bump ETH_DROP_NOPORT 1)) ∧
        (s.portTaken false dport = true → exec (.ethFrameReceive len vid 3 (dport, arg) false) s = .next s) ∧
        (qp arg → ∃ t, exec (.ethFrameReceive len vid 6 (dport, arg) false) s = .next t ∧ answers t [ (txRoce, [ 41, arg])])) ∧
      (dport = s.eth.prio → ∀ b, exec (.ethFrameReceive len vid 7 (dport, arg) b) s =
        .next { s with eth := { s.eth with pauseEnd := s.dtime + s.pauseU arg } })) ∧
    (s.eth.tagged = true → vid ≠ some s.eth.vid → ∀ k b, k ≠ 7 → exec (.ethFrameReceive len vid k (dport, arg) b) s = .next s) ∧
    (up → qp q →
      (may d.length true → s.devStatus (devAddr 0 addr) d.length = .ok → s.poisoned (devAddr 0 addr) d.length = false →
        ∃ t, exec (.rdmaWrite (q, ecn) key addr d) s = .next t ∧ memStores s t (devAddr 0 addr) d ∧ queues t (roce [ 40, q]) ∧ t.regs = s.regs) ∧
      (¬ may d.length true → ∃ t, exec (.rdmaWrite (q, ecn) key addr d) s = .next t ∧ answers t (roce [ 41, q])) ∧
      (may d.length true → s.devStatus (devAddr 0 addr) d.length ≠ .ok →
        ∃ t, exec (.rdmaWrite (q, ecn) key addr d) s = .next t ∧ answers t (roce [ 43, q])) ∧
      (may n false → s.eth.openReads q < 16 → s.devStatus (devAddr 0 addr) n = .ok → s.poisoned (devAddr 0 addr) n = false →
        ∃ t, exec (.rdmaRead (q, ecn) key addr n) s = .next t ∧ answers t (roce ([ 42, q] ++ (s.rdN (devAddr 0 addr) n).map BitVec.toNat))) ∧
      (¬ may n false ∨ 16 ≤ s.eth.openReads q → ∃ t, exec (.rdmaRead (q, ecn) key addr n) s = .next t ∧ answers t (roce [ 41, q]))) ∧
    (up → ¬ qp q → exec (.rdmaWrite (q, ecn) key addr d) s = .next s ∧ exec (.rdmaRead (q, ecn) key addr n) s = .next s) ∧
    (¬ up → ∃ t, exec (.rdmaWrite (q, ecn) key addr d) s = .next t ∧ exec (.rdmaRead (q, ecn) key addr n) s = .next t ∧
      t.eth.sent = s.eth.sent ++ [ [ 0, Status.absent.code]] ∧ answers t []) ∧
    (∃ t, exec (.cnpReceive q) s = .next t ∧ t.regs = s.regs ∧ memSame s t ∧ t.eth.qps.length = s.eth.qps.length ∧
      ∀ (i : Nat) (x : QPair), s.eth.qps[i]? = some x → t.eth.qps[i]? = some { x with rate := if x.qpn = q then x.rate / 2 else x.rate }) ∧
    (∃ t, exec (.cnpRecovery q) s = .next t ∧ t.regs = s.regs ∧ memSame s t ∧ t.eth.qps.length = s.eth.qps.length ∧
      ∀ (i : Nat) (x : QPair), s.eth.qps[i]? = some x → t.eth.qps[i]? = some { x with
        rate := if x.qpn = q then min 65536 (x.rate + 65536 / 16) else x.rate })) ∧
  (∀ (s : State) (b c : Fin 32) (v6 : Bool) (sport : Nat) (src : List (BitVec 32)) (d : List (BitVec 8)) (r : Ring) (head : BitVec 16),
    let i := c.val
    let n := 2 ^ r.log2n
    let h := s.f (RX_IDX_HEAD i)
    let a := r.base + h % n * 2 ^ r.log2s
    let slot := (slotHead d.length v6 s.now sport r.port src).flatMap (fun x => leBytes 4 x.toNat) ++ d
    let room : Prop := s.aborting i = false ∧ (s.part (s.partOf i)).resetting = false ∧ d.length + 32 ≤ 2 ^ r.log2s ∧
      (h + 1) % n ≠ s.f (RX_IDX_TAIL i) % n
    (s.eth.bindings[b.val]? = some r → r.clu = i → s.f ETH_STAT_UP ≠ 0 →
      (room → s.devStatus a slot.length = .ok → s.poisoned a slot.length = false → ∃ t, exec (.requestDatagram b v6 sport src d) s = .next t ∧ memStores s t a slot ∧
        t.f (RX_IDX_HEAD i) = (h + 1) % n % 65536 ∧
        sends s t (cornerPlace 0 (0, 0)) (.inbox (s.partOf i) i (BitVec.ofNat 32 (2 ^ 31 + h % n + 65536 * b.val)) 0x3FE)) ∧
      (¬ room → exec (.requestDatagram b v6 sport src d) s = .next (s.bump ETH_DROP_RXFULL 1))) ∧
    (∃ t, exec (.txIdxHeadWrite c head) s = .next t ∧ t.f (TX_IDX_HEAD i) = head.toNat ∧ (t.clu i).txReady = head.toNat ∧
      t.f (TX_IDX_DONE i) = s.f (TX_IDX_DONE i) ∧ memSame s t) ∧
    (s.eth.egress.find? (fun x => x.clu = i) = some r → s.f ETH_STAT_UP ≠ 0 →
      let o := s.f (TX_IDX_DONE i)
      let e := r.base + o % n * 2 ^ r.log2s
      let len := (s.rd32 e).toNat % 65536
      o % n ≠ (s.clu i).txReady % n → ∃ t, exec (.egressFrameSent c) s = .next t ∧ t.f (TX_IDX_DONE i) = (o + 1) % n % 65536 ∧ memSame s t ∧
        (len ≤ 9000 → ∃ l, t.eth.sent = s.eth.sent ++ l ++ [ [ 30, i] ++ (s.rdN e (32 + len)).map BitVec.toNat] ∧
          (∀ y ∈ l, y ∈ s.eth.txq.map Prod.snd) ∧ ∀ y ∈ t.eth.txq, y.1 ≠ txPtp ∧ y.1 ≠ txCaddy) ∧
        (9000 < len → t.eth.sent = s.eth.sent ∧ t.f ETH_DROP_NOPORT = (s.bump ETH_DROP_NOPORT 1).f ETH_DROP_NOPORT))) ∧
  ∀ (s : State) (lanes : List Bool) (far : Bool),
    let pass (lo k : Nat) : Prop := ∀ j, lo ≤ j → j < lo + k → lanes.getD j false = true
    (∃ t, exec (.ethTrainingComplete lanes far) s = .next t ∧ memSame s t ∧ t.harts = s.harts ∧
      (s.f BOOT_STAT_MASTER ≠ 0 ∨ s.f (CDIE_ID_HELD 0) ≠ 0 → t.f ETH_STAT_WIDTH = 0 ∧ t.f ETH_STAT_UP = 0) ∧
      (s.f BOOT_STAT_MASTER = 0 → s.f (CDIE_ID_HELD 0) = 0 →
        (pass 0 8 → t.f ETH_STAT_WIDTH = 2 ∧ t.f ETH_STAT_UP = bool1 far) ∧
        (¬ pass 0 8 → pass 0 4 ∨ pass 4 4 → t.f ETH_STAT_WIDTH = 1 ∧ t.f ETH_STAT_UP = bool1 far) ∧
        (¬ pass 0 4 → ¬ pass 4 4 → t.f ETH_STAT_WIDTH = 0 ∧ t.f ETH_STAT_UP = 0))) ∧
    (s.boot.inForce = false → s.f ETH_STAT_UP = 0 → ∃ t, exec (.ethInterfaceTryTimeout) s = .next t ∧ s.dtime + 1000000000 * nsU ≤ t.dtime ∧
      t.regs = s.regs ∧ memSame s t ∧ (s.eth.iface = 2 → t.eth.iface = 1) ∧ (s.eth.iface = 1 → t.eth.iface = 0) ∧
      (s.eth.iface = 0 → t.eth.iface ∈ [ 3, 4, 5]))

/-- R458, R459, R463, R464, R466–R469: completion and result of the rows of Octoon. SHEAF and CREDIT are answered as a WRITE is, and STATE answers in an
abort (DESIGN CHOICE, see NOTES.md). 16 marks what a slot sends, 17 an answer that leaves by the corner
die, 18 a packet whose access through the mesh is answered. -/
def Obligations.OctoonLinksAndRemoteOperations : Prop :=
  (∀ (s : State) (l : Fin 16) (seq ak : Nat) (cr : List Nat) (nk : Bool) (ps : List (List Word × List Byte)) (w : Fin 4),
    let i := l.val
    let x := s.olink i
    let got := ps.map fun p => (⟨p.1, p.2⟩ : OPkt)
    let n := (ak + 65536 - x.ackSeq) % 65536
    let m := (x.txSeq + 65536 - x.ackSeq) % 65536
    (s.f (OCT_LSTAT_UP i) ≠ 0 →
      (x.fails + 1 < 64 → ∃ t, exec (.octoonBlockReceive l false seq ak nk cr ps) s = .next t ∧
        t.olink i = { x with fails := x.fails + 1, nack := true } ∧ t.octIn = s.octIn ∧ t.regs = s.regs ∧ memSame s t) ∧
      (64 ≤ x.fails + 1 → ∃ t, exec (.octoonBlockReceive l false seq ak nk cr ps) s = .next t ∧ (t.olink i).fails = 0 ∧ t.octIn = s.octIn ∧
        t.f (OCT_LSTAT_RETRAIN i) = 1 ∧ t.f (OCT_LSTAT_UP i) = 0 ∧ memSame s t) ∧
      ∃ t, exec (.octoonBlockReceive l true seq ak nk cr ps) s = .next t ∧ (t.olink i).fails = 0 ∧ (t.olink i).queue = x.queue ∧
        (n ≤ m → (t.olink i).ackSeq = ak % 65536 ∧ ∀ b, b ∈ (t.olink i).blocks ↔ b ∈ x.blocks ∧ n < (b.seq + 65536 - x.ackSeq) % 65536) ∧
        (m < n → (t.olink i).ackSeq = x.ackSeq ∧ (t.olink i).blocks = x.blocks) ∧
        memSame s t ∧ (nk = false → t.regs = s.regs) ∧
        (seq % 65536 = (x.rxSeq + 1) % 65536 → (t.olink i).rxSeq = seq % 65536 ∧ t.octIn = s.octIn ++ got.map (fun p => (i, p)) ∧
          ∀ c < 12, (t.olink i).spent.get 0 c = x.spent.get 0 c - cr.getD c 0 ∧
            (t.olink i).held.get 0 c = x.held.get 0 c + ((got.filter fun p => p.cls = c).map OPkt.flits).sum) ∧
        (seq % 65536 ≠ (x.rxSeq + 1) % 65536 → (t.olink i).rxSeq = x.rxSeq ∧ t.octIn = s.octIn ∧ (t.olink i).spent = x.spent ∧
          (t.olink i).held = x.held)) ∧
    (s.f (OCT_LSTAT_RETRAIN i) ≠ 0 → ∃ t, exec (.linkRetrainEnd l w) s = .next t ∧ t.f (OCT_LSTAT_RETRAIN i) = 0 ∧
      t.f (OCT_LSTAT_WIDTH i) = w.val ∧ memSame s t ∧ t.octIn = s.octIn ∧ (t.olink i).unavail = (w.val = 0) ∧
      (w.val = 0 → (t.olink i).downAt = s.dtime) ∧ (w.val ≠ 0 → t.f (OCT_LSTAT_UP i) = 1)) ∧
    (x.unavail = true → ∃ t, exec (.linkUnavailableAbsorb l) s = .next t ∧ (t.olink i).out = [] ∧ x.downAt + 1000000 * nsU ≤ t.dtime ∧
      (∀ p : OPkt, x.out = [ p] → p.isRsp = true → memSame s t ∧ t.octIn = s.octIn) ∧
      (∀ p : OPkt, x.out = [ p] → p.isRsp = false → p.smod ≠ s.f OCT_SYS_MODULE → memSame s t ∧
        ∃ a : OPkt, t.octIn = s.octIn ++ [ (17, a)] ∧ a.status = 1 ∧ a.dmod = p.smod ∧ a.txid = p.txid))) ∧
  (∀ (s : State) (c : Fin 32) (k : Fin 16),
    let d := s.oxDesc c.val k.val
    let posted (op : Nat) : Prop := s.f (OX_SLOT_BUSY c.val k.val) ≠ 0 ∧ s.remote c.val k.val = none ∧ d.op = op ∧ s.partOf c.val ≠ 0xFF
    let ends (t : State) (st : Nat) : Prop := t.f (OX_SLOT_BUSY c.val k.val) = 0 ∧ t.f (OX_SLOT_STATUS c.val k.val) = st ∧
      t.remote c.val k.val = none ∧ memSame s t
    let read : List Byte × State := match target d.loc with
      | .csr o => (leBytes 4 (s.csrRead o).1.toNat, (s.csrRead o).2)
      | _ => (s.rdN d.loc d.len, s)
    let sent (u t : State) (l : List OPkt) : Prop := t.octIn = s.octIn ++ l.map (fun q => (16, q)) ∧
      t.remote c.val k.val = some ⟨l.length, s.copyU c.val, []⟩ ∧ fieldsSame u t [ LEDGER_STAT_FIXES] ∧ memSame s t ∧
      ∀ q ∈ l, q.dmod = d.dmod ∧ q.dpart = d.dpart ∧ q.smod = s.f OCT_SYS_MODULE % 4096 ∧ q.spart = s.partOf c.val % 256 ∧
        q.txid = 16 * c.val + k.val
    (∀ st, s.oxStatus c.val d = some st →
      (posted 1 → ∃ t, exec (.remotePut c k) s = .next t ∧ ends t st.code) ∧ (posted 2 → ∃ t, exec (.remoteGet c k) s = .next t ∧ ends t st.code) ∧
      (posted 3 → ∃ t, exec (.remoteSheaf c k) s = .next t ∧ ends t st.code) ∧
      (posted 4 → ∃ t, exec (.remoteCredit c k) s = .next t ∧ ends t st.code)) ∧
    (s.oxStatus c.val d = none →
      (posted 1 → s.poisoned d.loc d.len = false → ∃ t l, exec (.remotePut c k) s = .next t ∧ sent read.2 t l ∧ l.length = (d.len + 4095) / 4096 ∧
        l.flatMap OPkt.data = read.1 ∧ ∀ q ∈ l, q.typ = 2) ∧
      (posted 2 → ∃ t l, exec (.remoteGet c k) s = .next t ∧ sent s t l ∧ l.length = (d.len + 4095) / 4096 ∧ ∀ q ∈ l, q.typ = 1 ∧ q.data = []) ∧
      (posted 3 → s.poisoned d.loc d.len = false → ∃ t q, exec (.remoteSheaf c k) s = .next t ∧ sent read.2 t [ q] ∧ q.typ = 7 ∧ q.gid = d.gid ∧
        q.ccount = wbits d.w7 16 16 ∧ q.data = read.1) ∧
      (posted 4 → ∃ t q, exec (.remoteCredit c k) s = .next t ∧ sent s t [ q] ∧ q.typ = 0 ∧ (wbits d.w7 14 1 = 1 → q.cen = true ∧
        q.cn = wbits d.w7 0 4 ∧ q.ccore = wbits d.w7 4 10 ∧ q.camt = wbits d.w7 16 8))) ∧
    (∀ r, s.remote c.val k.val = some r → ∃ t, exec (.remoteSlotTimeout c k) s = .next t ∧ ends t 6 ∧
      r.since + s.f (EQ_TMO_REMOTE_US (32 * c.val)) * 1000 * nsU ≤ t.copyU c.val)) ∧
  ∀ (s : State) (j l : Nat) (p : OPkt), s.octIn[j]? = some (l, p) → octMay s.octIn j = true →
    let m := s.f OCT_SYS_MODULE
    let gone (t : State) : Prop := t.octIn = s.octIn.eraseIdx j ∧ memSame s t ∧ t.flits = s.flits ∧
      ∀ y, (t.olink y).queue = (s.olink y).queue
    let answers (t : State) (st : Nat) (b : List Byte) : Prop := ∃ a : OPkt, t.octIn = s.octIn.eraseIdx j ++ [ (17, a)] ∧ a.typ = p.rsp ∧
      a.status = st ∧ a.txid = p.txid ∧ a.dmod = p.smod ∧ a.dpart = p.spart ∧ a.data = b
    let stopped : Prop := (s.part p.dpart).resetting = true ∨ s.f (PART_STAT_ABORT (partCsr p.dpart)) ≠ 0
    let csr : Prop := ∃ o, target p.dev = .csr o
    (l < 16 → ∃ t, exec (.octoonPacketRoute j) s = .next t ∧ (t.olink l).owe.get 0 p.cls = (s.olink l).owe.get 0 p.cls + p.flits ∧
      (t.olink l).held.get 0 p.cls = (s.olink l).held.get 0 p.cls - p.flits) ∧
    (l = 18 → p.isRsp = false → p.smod ≠ m → ∃ t, exec (.octoonPacketRoute j) s = .next t ∧ memSame s t ∧
      answers t p.status (if p.typ = 1 then p.data else [])) ∧
    (l ≠ 16 → l ≠ 18 → p.dmod ≠ m →
      (∀ x dl, s.octBeyond p = false → s.octRoute l p = some (x, dl) → ∃ t q, exec (.octoonPacketRoute j) s = .next t ∧
        t.octIn = s.octIn.eraseIdx j ∧ (t.olink x).queue = (s.olink x).queue ++ [ ⟨q, q.flits, s.dtime, false⟩] ∧ q.dcls = dl ∧
        q.hops = (p.hops + 1) % 256 ∧ q.dmod = p.dmod ∧ q.data = p.data ∧ t.regs = s.regs ∧ memSame s t) ∧
      (s.octBeyond p = true ∨ s.octRoute l p = none ∧ p.isRsp = true → ∃ t, exec (.octoonPacketRoute j) s = .next t ∧ gone t) ∧
      (s.octBeyond p = false → s.octRoute l p = none → p.isRsp = false → p.smod ≠ m → ∃ t, exec (.octoonPacketRoute j) s = .next t ∧
        answers t 1 [] ∧ memSame s t)) ∧
    (l ≠ 16 → l ≠ 18 → p.dmod = m → p.smod ≠ m → p.isRsp = false →
      ((p.dpart, p.smod, p.spart) ∉ s.boot.peers → ∃ t, exec (.octoonPacketRoute j) s = .next t ∧ answers t 7 [] ∧ memSame s t ∧ t.flits = s.flits) ∧
      ((p.dpart, p.smod, p.spart) ∈ s.boot.peers →
        (stopped → ∃ t, exec (.octoonPacketRoute j) s = .next t ∧ answers t 2 [] ∧ memSame s t ∧ t.flits = s.flits) ∧
        (¬ stopped →
          (p.typ = 0 ∨ p.typ = 7 → ∃ t, exec (.octoonPacketRoute j) s = .next t ∧ answers t 0 [] ∧ memSame s t) ∧
          (p.typ = 0 → p.cen = true → s.partOf (p.ccore / 32) = p.dpart → p.dpart ≠ 0xFF → s.absent p.ccore = false →
            ∃ t, exec (.octoonPacketRoute j) s = .next t ∧
              sends s t (cornerPlace (s.f BOOT_STAT_MASTER) (0, 0)) (.credit p.dpart p.ccore p.cn p.camt)) ∧
          (p.typ = 1 ∨ p.typ = 2 → s.inPart p.dpart p.dev p.len = false ∨ csrRunOk p.dev p.len = false →
            ∃ t, exec (.octoonPacketRoute j) s = .next t ∧ answers t 7 [] ∧ memSame s t) ∧
          (s.inPart p.dpart p.dev p.len = true → csrRunOk p.dev p.len = true → s.runStatus p.dev p.len = .ok →
            (p.typ = 1 → ¬ csr → s.poisoned p.dev p.len = false → ∃ t, exec (.octoonPacketRoute j) s = .next t ∧
              answers t 0 (s.rdN p.dev p.len) ∧ memSame s t) ∧
            (p.typ = 2 → ¬ csr → s.poisoned p.dev p.data.length = false → imemHart p.dev = none → ∃ t,
              exec (.octoonPacketRoute j) s = .next t ∧ answers t 0 [] ∧ memStores s t p.dev p.data) ∧
            (p.typ = 1 ∨ p.typ = 2 → csr → ∃ t q, exec (.octoonPacketRoute j) s = .next t ∧ t.octIn = s.octIn.eraseIdx j ∧
              memSame s t ∧ t.pkts = s.pkts ++ [ q] ∧ q.typ = tMgmt ∧ q.part = p.dpart ∧ q.addr = p.dev ∧ q.len = 4 ∧
              q.data = (if p.typ = 1 then [] else p.data) ∧ (q.txid, p) ∈ t.octWait)))))

/-- R3, R10, R11, R232, R303, R406, R428–R434: completion and result of REGISTER_WRITE, CLK_CTL_WRITE, HBM_MAP_WRITE, EV_RINGH_WRITE,
EV_ALARM_CLEAR, COLLECTOR_FORWARD and COALESCED_RECORD_OUT. That a write of HBM_MAP and a ring refused warn with code 0x005 is the model's choice
(DESIGN CHOICE). -/
def Obligations.RegisterWritesAndEventPath : Prop :=
  (∀ (s : State) (c p : Fin 32) (n : Fin 1024) (v : BitVec 32) (mhz : BitVec 12) (o : Nat),
    let b := partCsr p.val
    let kept (t : State) : Prop := memSame s t ∧ t.harts = s.harts ∧ t.pending = s.pending
    (∃ t, exec (.clkCtlWrite c mhz) s = .next t ∧ kept t ∧ let m := min mhz.toNat (s.f DEV_GRADE_FMAX_MHZ)
      t.f (CLK_CTL_FLIM_MHZ c.val) = (if m < 800 then 800 else m / 25 * 25)) ∧
    exec (.hbmMapWrite v) s = .next (s.raise clsWarning 0x005 0xFF 11 0 v.toNat) ∧
    (s.f EV_ALARM_PENDING = 1 → ∃ t, exec (.evAlarmClear) s = .next t ∧ kept t ∧ t.f EV_ALARM_PENDING = 0 ∧ t.ev.faultPin = false) ∧
    exec (.registerWrite 0x40 v) s = .next s ∧
    (0x2000000 ≤ o → o < 0x10000000 → exec (.registerWrite o v) s = .next s) ∧
    (o < 0x1000 → s.absent n.val = true → exec (.registerWrite (hartCsr n.val + o) v) s = .next s) ∧
    (s.absent n.val = false → s.f (CC_FSUM_SAT n.val) ≤ 1 → s.f (CC_FSUM_ECC n.val) ≤ 1 → ∃ t,
      exec (.registerWrite (hartCsr n.val + 0x508) v) s = .next t ∧ kept t ∧
      t.f (CC_FSUM_SAT n.val) = (if v.getLsbD 0 then 0 else s.f (CC_FSUM_SAT n.val)) ∧
      t.f (CC_FSUM_ECC n.val) = (if v.getLsbD 2 then 0 else s.f (CC_FSUM_ECC n.val))) ∧
    (o < 0x2C → s.partOf c.val = p.val → (s.part p.val).held = true →
      exec (.registerWrite (cluCsr c.val + 0x1800 + o) v) s = exec (.registerWrite (b + o) v) s) ∧
    (o < 0x100 → (s.part p.val).held = false → exec (.registerWrite (b + o) v) s = .next s) ∧
    ((s.part p.val).held = true → ∃ t, exec (.registerWrite (b + 0x08) v) s = .next t ∧ kept t ∧
      (let x := wbits v 0 5
       t.f (WN_CFG_LOG2F b) = if x = 0 then 0 else max 4 (min 16 x)) ∧
      t.f (WN_CFG_AUTOABORT b) = wbits v 5 1 ∧ t.f (WN_CFG_GLEAN b) = wbits v 6 1 ∧
      t.f (WN_CFG_GL_WIN_MS b) = max 1 (wbits v 8 4) ∧ t.f (WN_CFG_GL_PERIOD_S b) = max 60 (wbits v 16 16)) ∧
    ((s.part p.val).held = true → ∃ t, exec (.evRinghWrite ⟨p.val, by omega⟩ v) s = .next t ∧ kept t ∧
      let x := wbits v 16 16
      let size := if x = 0 then 0 else max 16 x
      let base := s.f (EV_RINGL_BASE_LO b) + 2 ^ 32 * wbits v 0 16
      t.f (EV_RINGH_BASE_HI b) = wbits v 0 16 ∧
      t.f (EV_RINGH_SIZE b) = if (s.part p.val).hbm.any (fun r => r.1 ≤ base && base + 32 * size ≤ r.2 + 1) then size else 0)) ∧
  (∀ (s : State) (k : Fin 21) (e : EvRec) (r : List EvRec), k.val ≠ 20 →
    let g := s.stage k.val
    (g.queue = e :: r →
      (∃ t, exec (.collectorForward k true) s = .next t ∧ t.stage k.val = { g with queue := r } ∧
        (t.stage 20).queue = (s.stage 20).queue ++ [ e] ∧ t.regs = s.regs ∧ memSame s t) ∧
      (e.cls = clsTrace → ∃ t, exec (.collectorForward k false) s = .next t ∧ t.stage k.val = { g with queue := r } ∧
        t.f EV_DROP_TRACE = min (s.f EV_DROP_TRACE + 1) 65535 ∧ memSame s t) ∧
      (e.cls ≠ clsTrace → e.cls ≠ clsAlarm → ∃ t, exec (.collectorForward k false) s = .next t ∧
        t.stage k.val = { g with queue := r, table := coalesce 256 k.val g.table e } ∧
        t.f EV_DROP_COAL = min (s.f EV_DROP_COAL + e.count) 65535 ∧ memSame s t)) ∧
    (oldestFirst g.table = some e → ∃ t, exec (.coalescedRecordOut k) s = .next t ∧
      t.stage k.val = { g with table := g.table.filter fun x => x ≠ e } ∧
      (t.stage 20).queue = (s.stage 20).queue ++ [{ e with coal := true }] ∧ t.regs = s.regs ∧ memSame s t)) ∧
  ∀ (s : State) (e : EvRec) (r : List EvRec) (room : Bool), s.ev.alarms = e :: r →
    let b := ringBase e.part
    let n := s.f (EV_RINGH_SIZE b)
    let a := devAddr 0 (s.f (EV_RINGL_BASE_LO b) + 2 ^ 32 * s.f (EV_RINGH_BASE_HI b) + 32 * s.f (EV_IDX_HEAD b))
    (s.f KW_STAT_STATE ≠ 2 → s.ev.vaon = [] → n ≠ 0 → s.ringFull b e.cls = false → s.poisoned a 32 = false →
      ∃ t, exec (.collectorForward 20 room) s = .next t ∧ t.ev.alarms = r ∧
        memStores s t a (e.words.flatMap fun w => leBytes 4 w.toNat) ∧ t.f (EV_IDX_HEAD b) = (s.f (EV_IDX_HEAD b) + 1) % n % 65536) ∧
    (s.f KW_STAT_STATE = 2 → s.ev.vaon.length < 1024 → ∃ t, exec (.collectorForward 20 room) s = .next t ∧ t.ev.alarms = r ∧
      t.ev.vaon = s.ev.vaon ++ [ e] ∧ memSame s t ∧ t.regs = s.regs)

/-- The step of the block: the queue is first in, first out; the tick on an empty queue is the model's choice (DESIGN CHOICE, log entry 10). -/
def Obligations.StepRunsFront : Prop :=
  (∀ (c : Instr) (l : List Instr) (s : State), step { s with pending := c :: l } = exec c { s with pending := l }) ∧
  (∀ s : State, s.pending = [] → ∃ t, step s = .next t) ∧
  ∀ (c : Instr) (s : State), ∃ t, exec c s = .next t

/-- R12, R284, R396. That an unlisted byte of memory reads 0 and that S, A and P registers hold 0 is the model's choice (DESIGN CHOICE, log entries
1 and 2). -/
def Obligations.StateAfterReset : Prop :=
  (∀ d : Fd, d.rst < 2 ^ d.wid → State.reset.f d = d.rst) ∧ State.reset.dtime = 0 ∧ State.reset.pending = [] ∧ memWf State.reset = true ∧
  (∀ a, State.reset.rd a = 0) ∧ (∀ h r, State.reset.sreg h r = 0 ∧ State.reset.areg h r = 0 ∧ (r ≠ 0 → State.reset.pred h r = false)) ∧
  (∀ h, (State.reset.hart h).cmds = [] ∧ (State.reset.hart h).stall = none) ∧ State.reset.pkts = [] ∧ State.reset.flits = [] ∧
  State.reset.f BOOT_STAT_READY = 0 ∧ State.reset.f (CLK_CTL_FLIM_MHZ 5) = 1250 ∧ State.reset.f CADDY_STAT_PORT = 52189 ∧
  State.reset.f (WN_CFG_LOG2F (partCsr 3)) = 10 ∧ State.reset.f BARN_STAT_STATE = 0

/-- The invariant of the memory of the device address space (R28, R226), over every command and the tick. It holds at reset (StateAfterReset). -/
def Obligations.MemoryKeepsItsForm : Prop :=
  ∀ s t : State, memWf s = true → step s = .next t → memWf t = true

/-- R126–R128, R309: decoding and encoding agree, in both directions, for every opcode and every bit of a word. -/
def Obligations.TcsWordsRoundTrip : Prop :=
  (∀ (i : Instr) (ag : Agent), i.agent = some ag → ∃ w, encodeTcs i = some w ∧ decodeTcs ag w = some i) ∧
  (∀ (ag : Agent) (w : Word) (i : Instr), decodeTcs ag w = some i → encodeTcs i = some w ∧ i.agent = some ag) ∧
  ∀ i j : Instr, ∀ w ag, encodeTcs i = some w → encodeTcs j = some w → i.agent = some ag → j.agent = some ag → i = j
end

