-- ==== Sys2Proof/Laws/Store.lean ====
section
/-!
SUPPORT. Sparse tables: a read after a write to the same key gives what was written, a write leaves every other key alone,
and every operation keeps the one form of a table.
-/

namespace Sys2Proof.Machine

variable {α : Type}

@[simp] theorem Store.get_nil (d : α) (j : Nat) : Store.get d [] j = d := rfl

theorem Store.get_cons (d : α) (k : Nat) (v : α) (r : Store α) (j : Nat) :
    Store.get d ((k, v) :: r) j = if j = k then v else Store.get d r j := rfl

theorem Store.get_del (d : α) (m : Store α) (j k : Nat) : Store.get d (Store.del m j) k = if k = j then d else Store.get d m k := by
  induction m with
  | nil => simp [Store.del]
  | cons e r ih =>
    obtain ⟨a, v⟩ := e
    simp only [Store.del]
    split
    · rename_i h; subst h; rw [ih, Store.get_cons]; split <;> rfl
    · rename_i h; rw [Store.get_cons, ih, Store.get_cons]; split <;> split <;> simp_all

theorem Store.get_put (d : α) (m : Store α) (j : Nat) (w : α) (k : Nat) :
    Store.get d (Store.put m j w) k = if k = j then w else Store.get d m k := by
  induction m with
  | nil => simp [Store.put, Store.get_cons]
  | cons e r ih =>
    obtain ⟨a, v⟩ := e
    simp only [Store.put]
    split
    · rw [Store.get_cons]
    · split
      · rename_i h; subst h; rw [Store.get_cons, Store.get_cons]; split <;> simp_all
      · rename_i h; rw [Store.get_cons, ih, Store.get_cons]; split <;> split <;> simp_all

/-- A read after a write. -/
theorem Store.get_set [DecidableEq α] (d : α) (m : Store α) (j : Nat) (w : α) (k : Nat) :
    Store.get d (Store.set d m j w) k = if k = j then w else Store.get d m k := by
  unfold Store.set; split
  · rename_i h; subst h; exact Store.get_del ..
  · exact Store.get_put ..

@[simp] theorem Store.get_set_self [DecidableEq α] (d : α) (m : Store α) (j : Nat) (w : α) :
    Store.get d (Store.set d m j w) j = w := by simp [Store.get_set]

theorem Store.get_set_ne [DecidableEq α] (d : α) (m : Store α) (j : Nat) (w : α) (k : Nat) (h : k ≠ j) :
    Store.get d (Store.set d m j w) k = Store.get d m k := by simp [Store.get_set, h]

/-- A key not written reads as before, whatever the default. -/
theorem Store.get_set_other [DecidableEq α] (d e : α) (m : Store α) (j : Nat) (w : α) (k : Nat) (h : k ≠ j) :
    Store.get e (Store.set d m j w) k = Store.get e m k := by
  unfold Store.set; split
  · simp [Store.get_del, h]
  · simp [Store.get_put, h]

theorem Store.get_filter (d : α) (m : Store α) (p : Nat → Bool) (k : Nat) :
    Store.get d (m.filter fun e => p e.1) k = if p k then Store.get d m k else d := by
  induction m with
  | nil => simp
  | cons e r ih =>
    obtain ⟨a, v⟩ := e
    rw [List.filter_cons]
    by_cases hp : p a = true <;> by_cases hk : k = a
    · subst hk; simp [hp, Store.get_cons]
    · simp [hp, Store.get_cons, ih, hk]
    · subst hk; simp [hp, ih]
    · simp [hp, Store.get_cons, ih, hk]

theorem Store.get_drop (d : α) (m : Store α) (p : Nat → Bool) (k : Nat) :
    Store.get d (m.drop p) k = if p k then d else Store.get d m k := by
  unfold Store.drop; rw [Store.get_filter d m (fun x => !p x)]; cases p k <;> rfl

/-! ### The one form -/

/-- Keys strictly rising and nothing listed that reads as the default. -/
theorem Store.canon_iff [DecidableEq α] (d : α) (m : Store α) :
    Store.canon d m = true ↔ m.Pairwise (fun a b => a.1 < b.1) ∧ ∀ e ∈ m, e.2 ≠ d := by
  induction m with
  | nil => simp [Store.canon]
  | cons e r ih =>
    obtain ⟨k, v⟩ := e
    cases r with
    | nil => simp [Store.canon]
    | cons e' r =>
      obtain ⟨k', v'⟩ := e'
      simp only [Store.canon, Bool.and_eq_true, decide_eq_true_eq, ih, List.pairwise_cons, List.forall_mem_cons]
      constructor
      · rintro ⟨⟨h1, h2⟩, ⟨h3, h4⟩, h5, h6⟩
        exact ⟨⟨⟨h2, fun x hx => Nat.lt_trans h2 (h3 x hx)⟩, h3, h4⟩, h1, h5, h6⟩
      · rintro ⟨⟨⟨h1, _⟩, h3, h4⟩, h5, h6, h7⟩
        exact ⟨⟨h5, h1⟩, ⟨h3, h4⟩, h6, h7⟩

@[simp] theorem Store.canon_nil [DecidableEq α] (d : α) : Store.canon d ([] : Store α) = true := rfl

theorem Store.canon_filter [DecidableEq α] (d : α) (m : Store α) (p : Nat × α → Bool) (h : Store.canon d m = true) :
    Store.canon d (m.filter p) = true := by
  rw [Store.canon_iff] at h ⊢
  exact ⟨h.1.filter p, fun e he => h.2 e (List.mem_filter.1 he).1⟩

theorem Store.canon_drop [DecidableEq α] (d : α) (m : Store α) (p : Nat → Bool) (h : Store.canon d m = true) :
    Store.canon d (m.drop p) = true := Store.canon_filter d m _ h

theorem Store.del_eq_filter (m : Store α) (j : Nat) : Store.del m j = m.filter fun e => e.1 ≠ j := by
  induction m with
  | nil => rfl
  | cons e r ih =>
    obtain ⟨k, v⟩ := e
    simp only [Store.del, List.filter_cons, ih]
    by_cases h : j = k
    · simp [h]
    · simp [h, Ne.symm h]

theorem Store.mem_put (m : Store α) (j : Nat) (w : α) (e : Nat × α) (h : e ∈ Store.put m j w) : e = (j, w) ∨ e ∈ m := by
  induction m with
  | nil => simp [Store.put] at h; exact .inl h
  | cons x r ih =>
    obtain ⟨k, v⟩ := x
    simp only [Store.put] at h
    split at h
    · simpa using h
    · split at h
      · rename_i h2; subst h2
        rcases List.mem_cons.1 h with h | h
        · exact .inl h
        · exact .inr (List.mem_cons_of_mem _ h)
      · rcases List.mem_cons.1 h with h | h
        · exact .inr (h ▸ List.mem_cons_self)
        · exact (ih h).imp id (List.mem_cons_of_mem _)

theorem Store.canon_put [DecidableEq α] (d : α) (m : Store α) (j : Nat) (w : α) (hw : w ≠ d) (h : Store.canon d m = true) :
    Store.canon d (Store.put m j w) = true := by
  rw [Store.canon_iff] at h ⊢
  refine ⟨?_, fun e he => ?_⟩
  · induction m with
    | nil => simp [Store.put]
    | cons x r ih =>
      obtain ⟨k, v⟩ := x
      obtain ⟨h1, h2⟩ := List.pairwise_cons.1 h.1
      simp only [Store.put]
      split
      · rename_i hlt
        exact List.pairwise_cons.2 ⟨fun y hy => (List.mem_cons.1 hy).elim (fun e => e ▸ hlt) fun e => Nat.lt_trans hlt (h1 y e), h.1⟩
      · split
        · exact List.pairwise_cons.2 ⟨h1, h2⟩
        · rename_i h3 h4
          refine List.pairwise_cons.2 ⟨fun y hy => ?_, ih ⟨h2, fun e he => h.2 e (List.mem_cons_of_mem _ he)⟩⟩
          rcases Store.mem_put r j w y hy with rfl | hy
          · show k < j; omega
          · exact h1 y hy
  · rcases Store.mem_put m j w e he with rfl | he
    · exact hw
    · exact h.2 e he

/-- A write keeps the one form. -/
theorem Store.canon_set [DecidableEq α] (d : α) (m : Store α) (j : Nat) (w : α) (h : Store.canon d m = true) :
    Store.canon d (Store.set d m j w) = true := by
  unfold Store.set; split
  · rw [Store.del_eq_filter]; exact Store.canon_filter d m _ h
  · exact Store.canon_put d m j w ‹_› h

end Sys2Proof.Machine
end

