-- ==== Sys2Proof/Laws/State.lean ====
section
/-!
SUPPORT. Fields of the state after each elementary update: every field but the one it writes is as before.
-/

namespace Sys2Proof.Machine

variable (s : State)

/-! ### `setF` -/

@[simp] theorem State.setF_pending (d : Fd) (v : Nat) : (s.setF d v).pending = s.pending := (rfl)
@[simp] theorem State.setF_mem (d : Fd) (v : Nat) : (s.setF d v).mem = s.mem := (rfl)
@[simp] theorem State.setF_poison (d : Fd) (v : Nat) : (s.setF d v).poison = s.poison := (rfl)
@[simp] theorem State.setF_tiles (d : Fd) (v : Nat) : (s.setF d v).tiles = s.tiles := (rfl)
@[simp] theorem State.setF_planes (d : Fd) (v : Nat) : (s.setF d v).planes = s.planes := (rfl)
@[simp] theorem State.setF_grains (d : Fd) (v : Nat) : (s.setF d v).grains = s.grains := (rfl)
@[simp] theorem State.setF_harts (d : Fd) (v : Nat) : (s.setF d v).harts = s.harts := (rfl)
@[simp] theorem State.setF_clus (d : Fd) (v : Nat) : (s.setF d v).clus = s.clus := (rfl)
@[simp] theorem State.setF_parts (d : Fd) (v : Nat) : (s.setF d v).parts = s.parts := (rfl)
@[simp] theorem State.setF_flds (d : Fd) (v : Nat) : (s.setF d v).flds = s.flds := (rfl)
@[simp] theorem State.setF_vpm (d : Fd) (v : Nat) : (s.setF d v).vpm = s.vpm := (rfl)
@[simp] theorem State.setF_flits (d : Fd) (v : Nat) : (s.setF d v).flits = s.flits := (rfl)
@[simp] theorem State.setF_pkts (d : Fd) (v : Nat) : (s.setF d v).pkts = s.pkts := (rfl)
@[simp] theorem State.setF_rbucket (d : Fd) (v : Nat) : (s.setF d v).rbucket = s.rbucket := (rfl)
@[simp] theorem State.setF_rturn (d : Fd) (v : Nat) : (s.setF d v).rturn = s.rturn := (rfl)
@[simp] theorem State.setF_net (d : Fd) (v : Nat) : (s.setF d v).net = s.net := (rfl)
@[simp] theorem State.setF_vports (d : Fd) (v : Nat) : (s.setF d v).vports = s.vports := (rfl)
@[simp] theorem State.setF_octWait (d : Fd) (v : Nat) : (s.setF d v).octWait = s.octWait := (rfl)
@[simp] theorem State.setF_dtime (d : Fd) (v : Nat) : (s.setF d v).dtime = s.dtime := (rfl)
@[simp] theorem State.setF_ev (d : Fd) (v : Nat) : (s.setF d v).ev = s.ev := (rfl)
@[simp] theorem State.setF_tim (d : Fd) (v : Nat) : (s.setF d v).tim = s.tim := (rfl)
@[simp] theorem State.setF_barn (d : Fd) (v : Nat) : (s.setF d v).barn = s.barn := (rfl)
@[simp] theorem State.setF_olinks (d : Fd) (v : Nat) : (s.setF d v).olinks = s.olinks := (rfl)
@[simp] theorem State.setF_octIn (d : Fd) (v : Nat) : (s.setF d v).octIn = s.octIn := (rfl)
@[simp] theorem State.setF_remotes (d : Fd) (v : Nat) : (s.setF d v).remotes = s.remotes := (rfl)
@[simp] theorem State.setF_eth (d : Fd) (v : Nat) : (s.setF d v).eth = s.eth := (rfl)
@[simp] theorem State.setF_boot (d : Fd) (v : Nat) : (s.setF d v).boot = s.boot := (rfl)
@[simp] theorem State.setF_free (d : Fd) (v : Nat) : (s.setF d v).free = s.free := (rfl)
@[simp] theorem State.setF_hart (d : Fd) (v : Nat) (g : Nat) : (s.setF d v).hart g = s.hart g := (rfl)
@[simp] theorem State.setF_clu (d : Fd) (v : Nat) (i : Nat) : (s.setF d v).clu i = s.clu i := (rfl)
@[simp] theorem State.setF_part (d : Fd) (v : Nat) (i : Nat) : (s.setF d v).part i = s.part i := (rfl)
@[simp] theorem State.setF_fld (d : Fd) (v : Nat) (i : Nat) : (s.setF d v).fld i = s.fld i := (rfl)
@[simp] theorem State.setF_sreg (d : Fd) (v : Nat) (g r : Nat) : (s.setF d v).sreg g r = s.sreg g r := (rfl)
@[simp] theorem State.setF_areg (d : Fd) (v : Nat) (g r : Nat) : (s.setF d v).areg g r = s.areg g r := (rfl)
@[simp] theorem State.setF_pred (d : Fd) (v : Nat) (g r : Nat) : (s.setF d v).pred g r = s.pred g r := (rfl)
@[simp] theorem State.setF_rd (d : Fd) (v : Nat) (b : Nat) : (s.setF d v).rd b = s.rd b := (rfl)
@[simp] theorem State.setF_copyU (d : Fd) (v : Nat) (i : Nat) : (s.setF d v).copyU i = s.copyU i := (rfl)
@[simp] theorem State.setF_now (d : Fd) (v : Nat) : (s.setF d v).now = s.now := (rfl)
@[simp] theorem State.setF_poisoned (d : Fd) (v : Nat) (b m : Nat) : (s.setF d v).poisoned b m = s.poisoned b m := (rfl)
@[simp] theorem State.setF_tile (d : Fd) (v : Nat) (a b i : Nat) : (s.setF d v).tile a b i = s.tile a b i := (rfl)
@[simp] theorem State.setF_grain (d : Fd) (v : Nat) (a b i : Nat) : (s.setF d v).grain a b i = s.grain a b i := (rfl)
@[simp] theorem State.setF_stage (d : Fd) (v : Nat) (i : Nat) : (s.setF d v).stage i = s.stage i := (rfl)
@[simp] theorem State.setF_olink (d : Fd) (v : Nat) (i : Nat) : (s.setF d v).olink i = s.olink i := (rfl)

/-! ### `bump` -/

@[simp] theorem State.bump_pending (d : Fd) (n : Nat) : (s.bump d n).pending = s.pending := (rfl)
@[simp] theorem State.bump_mem (d : Fd) (n : Nat) : (s.bump d n).mem = s.mem := (rfl)
@[simp] theorem State.bump_poison (d : Fd) (n : Nat) : (s.bump d n).poison = s.poison := (rfl)
@[simp] theorem State.bump_tiles (d : Fd) (n : Nat) : (s.bump d n).tiles = s.tiles := (rfl)
@[simp] theorem State.bump_planes (d : Fd) (n : Nat) : (s.bump d n).planes = s.planes := (rfl)
@[simp] theorem State.bump_grains (d : Fd) (n : Nat) : (s.bump d n).grains = s.grains := (rfl)
@[simp] theorem State.bump_harts (d : Fd) (n : Nat) : (s.bump d n).harts = s.harts := (rfl)
@[simp] theorem State.bump_clus (d : Fd) (n : Nat) : (s.bump d n).clus = s.clus := (rfl)
@[simp] theorem State.bump_parts (d : Fd) (n : Nat) : (s.bump d n).parts = s.parts := (rfl)
@[simp] theorem State.bump_flds (d : Fd) (n : Nat) : (s.bump d n).flds = s.flds := (rfl)
@[simp] theorem State.bump_vpm (d : Fd) (n : Nat) : (s.bump d n).vpm = s.vpm := (rfl)
@[simp] theorem State.bump_flits (d : Fd) (n : Nat) : (s.bump d n).flits = s.flits := (rfl)
@[simp] theorem State.bump_pkts (d : Fd) (n : Nat) : (s.bump d n).pkts = s.pkts := (rfl)
@[simp] theorem State.bump_rbucket (d : Fd) (n : Nat) : (s.bump d n).rbucket = s.rbucket := (rfl)
@[simp] theorem State.bump_rturn (d : Fd) (n : Nat) : (s.bump d n).rturn = s.rturn := (rfl)
@[simp] theorem State.bump_net (d : Fd) (n : Nat) : (s.bump d n).net = s.net := (rfl)
@[simp] theorem State.bump_vports (d : Fd) (n : Nat) : (s.bump d n).vports = s.vports := (rfl)
@[simp] theorem State.bump_octWait (d : Fd) (n : Nat) : (s.bump d n).octWait = s.octWait := (rfl)
@[simp] theorem State.bump_dtime (d : Fd) (n : Nat) : (s.bump d n).dtime = s.dtime := (rfl)
@[simp] theorem State.bump_ev (d : Fd) (n : Nat) : (s.bump d n).ev = s.ev := (rfl)
@[simp] theorem State.bump_tim (d : Fd) (n : Nat) : (s.bump d n).tim = s.tim := (rfl)
@[simp] theorem State.bump_barn (d : Fd) (n : Nat) : (s.bump d n).barn = s.barn := (rfl)
@[simp] theorem State.bump_olinks (d : Fd) (n : Nat) : (s.bump d n).olinks = s.olinks := (rfl)
@[simp] theorem State.bump_octIn (d : Fd) (n : Nat) : (s.bump d n).octIn = s.octIn := (rfl)
@[simp] theorem State.bump_remotes (d : Fd) (n : Nat) : (s.bump d n).remotes = s.remotes := (rfl)
@[simp] theorem State.bump_eth (d : Fd) (n : Nat) : (s.bump d n).eth = s.eth := (rfl)
@[simp] theorem State.bump_boot (d : Fd) (n : Nat) : (s.bump d n).boot = s.boot := (rfl)
@[simp] theorem State.bump_free (d : Fd) (n : Nat) : (s.bump d n).free = s.free := (rfl)
@[simp] theorem State.bump_hart (d : Fd) (n : Nat) (g : Nat) : (s.bump d n).hart g = s.hart g := (rfl)
@[simp] theorem State.bump_clu (d : Fd) (n : Nat) (i : Nat) : (s.bump d n).clu i = s.clu i := (rfl)
@[simp] theorem State.bump_part (d : Fd) (n : Nat) (i : Nat) : (s.bump d n).part i = s.part i := (rfl)
@[simp] theorem State.bump_fld (d : Fd) (n : Nat) (i : Nat) : (s.bump d n).fld i = s.fld i := (rfl)
@[simp] theorem State.bump_sreg (d : Fd) (n : Nat) (g r : Nat) : (s.bump d n).sreg g r = s.sreg g r := (rfl)
@[simp] theorem State.bump_areg (d : Fd) (n : Nat) (g r : Nat) : (s.bump d n).areg g r = s.areg g r := (rfl)
@[simp] theorem State.bump_pred (d : Fd) (n : Nat) (g r : Nat) : (s.bump d n).pred g r = s.pred g r := (rfl)
@[simp] theorem State.bump_rd (d : Fd) (n : Nat) (b : Nat) : (s.bump d n).rd b = s.rd b := (rfl)
@[simp] theorem State.bump_copyU (d : Fd) (n : Nat) (i : Nat) : (s.bump d n).copyU i = s.copyU i := (rfl)
@[simp] theorem State.bump_now (d : Fd) (n : Nat) : (s.bump d n).now = s.now := (rfl)
@[simp] theorem State.bump_poisoned (d : Fd) (n : Nat) (b m : Nat) : (s.bump d n).poisoned b m = s.poisoned b m := (rfl)
@[simp] theorem State.bump_tile (d : Fd) (n : Nat) (a b i : Nat) : (s.bump d n).tile a b i = s.tile a b i := (rfl)
@[simp] theorem State.bump_grain (d : Fd) (n : Nat) (a b i : Nat) : (s.bump d n).grain a b i = s.grain a b i := (rfl)
@[simp] theorem State.bump_stage (d : Fd) (n : Nat) (i : Nat) : (s.bump d n).stage i = s.stage i := (rfl)
@[simp] theorem State.bump_olink (d : Fd) (n : Nat) (i : Nat) : (s.bump d n).olink i = s.olink i := (rfl)

/-! ### `setInt` -/

@[simp] theorem State.setInt_pending (d : Fd) (v : Int) : (s.setInt d v).pending = s.pending := (rfl)
@[simp] theorem State.setInt_mem (d : Fd) (v : Int) : (s.setInt d v).mem = s.mem := (rfl)
@[simp] theorem State.setInt_poison (d : Fd) (v : Int) : (s.setInt d v).poison = s.poison := (rfl)
@[simp] theorem State.setInt_tiles (d : Fd) (v : Int) : (s.setInt d v).tiles = s.tiles := (rfl)
@[simp] theorem State.setInt_planes (d : Fd) (v : Int) : (s.setInt d v).planes = s.planes := (rfl)
@[simp] theorem State.setInt_grains (d : Fd) (v : Int) : (s.setInt d v).grains = s.grains := (rfl)
@[simp] theorem State.setInt_harts (d : Fd) (v : Int) : (s.setInt d v).harts = s.harts := (rfl)
@[simp] theorem State.setInt_clus (d : Fd) (v : Int) : (s.setInt d v).clus = s.clus := (rfl)
@[simp] theorem State.setInt_parts (d : Fd) (v : Int) : (s.setInt d v).parts = s.parts := (rfl)
@[simp] theorem State.setInt_flds (d : Fd) (v : Int) : (s.setInt d v).flds = s.flds := (rfl)
@[simp] theorem State.setInt_vpm (d : Fd) (v : Int) : (s.setInt d v).vpm = s.vpm := (rfl)
@[simp] theorem State.setInt_flits (d : Fd) (v : Int) : (s.setInt d v).flits = s.flits := (rfl)
@[simp] theorem State.setInt_pkts (d : Fd) (v : Int) : (s.setInt d v).pkts = s.pkts := (rfl)
@[simp] theorem State.setInt_rbucket (d : Fd) (v : Int) : (s.setInt d v).rbucket = s.rbucket := (rfl)
@[simp] theorem State.setInt_rturn (d : Fd) (v : Int) : (s.setInt d v).rturn = s.rturn := (rfl)
@[simp] theorem State.setInt_net (d : Fd) (v : Int) : (s.setInt d v).net = s.net := (rfl)
@[simp] theorem State.setInt_vports (d : Fd) (v : Int) : (s.setInt d v).vports = s.vports := (rfl)
@[simp] theorem State.setInt_octWait (d : Fd) (v : Int) : (s.setInt d v).octWait = s.octWait := (rfl)
@[simp] theorem State.setInt_dtime (d : Fd) (v : Int) : (s.setInt d v).dtime = s.dtime := (rfl)
@[simp] theorem State.setInt_ev (d : Fd) (v : Int) : (s.setInt d v).ev = s.ev := (rfl)
@[simp] theorem State.setInt_tim (d : Fd) (v : Int) : (s.setInt d v).tim = s.tim := (rfl)
@[simp] theorem State.setInt_barn (d : Fd) (v : Int) : (s.setInt d v).barn = s.barn := (rfl)
@[simp] theorem State.setInt_olinks (d : Fd) (v : Int) : (s.setInt d v).olinks = s.olinks := (rfl)
@[simp] theorem State.setInt_octIn (d : Fd) (v : Int) : (s.setInt d v).octIn = s.octIn := (rfl)
@[simp] theorem State.setInt_remotes (d : Fd) (v : Int) : (s.setInt d v).remotes = s.remotes := (rfl)
@[simp] theorem State.setInt_eth (d : Fd) (v : Int) : (s.setInt d v).eth = s.eth := (rfl)
@[simp] theorem State.setInt_boot (d : Fd) (v : Int) : (s.setInt d v).boot = s.boot := (rfl)
@[simp] theorem State.setInt_free (d : Fd) (v : Int) : (s.setInt d v).free = s.free := (rfl)
@[simp] theorem State.setInt_hart (d : Fd) (v : Int) (g : Nat) : (s.setInt d v).hart g = s.hart g := (rfl)
@[simp] theorem State.setInt_clu (d : Fd) (v : Int) (i : Nat) : (s.setInt d v).clu i = s.clu i := (rfl)
@[simp] theorem State.setInt_part (d : Fd) (v : Int) (i : Nat) : (s.setInt d v).part i = s.part i := (rfl)
@[simp] theorem State.setInt_fld (d : Fd) (v : Int) (i : Nat) : (s.setInt d v).fld i = s.fld i := (rfl)
@[simp] theorem State.setInt_sreg (d : Fd) (v : Int) (g r : Nat) : (s.setInt d v).sreg g r = s.sreg g r := (rfl)
@[simp] theorem State.setInt_areg (d : Fd) (v : Int) (g r : Nat) : (s.setInt d v).areg g r = s.areg g r := (rfl)
@[simp] theorem State.setInt_pred (d : Fd) (v : Int) (g r : Nat) : (s.setInt d v).pred g r = s.pred g r := (rfl)
@[simp] theorem State.setInt_rd (d : Fd) (v : Int) (b : Nat) : (s.setInt d v).rd b = s.rd b := (rfl)
@[simp] theorem State.setInt_copyU (d : Fd) (v : Int) (i : Nat) : (s.setInt d v).copyU i = s.copyU i := (rfl)
@[simp] theorem State.setInt_now (d : Fd) (v : Int) : (s.setInt d v).now = s.now := (rfl)
@[simp] theorem State.setInt_poisoned (d : Fd) (v : Int) (b m : Nat) : (s.setInt d v).poisoned b m = s.poisoned b m := (rfl)
@[simp] theorem State.setInt_tile (d : Fd) (v : Int) (a b i : Nat) : (s.setInt d v).tile a b i = s.tile a b i := (rfl)
@[simp] theorem State.setInt_grain (d : Fd) (v : Int) (a b i : Nat) : (s.setInt d v).grain a b i = s.grain a b i := (rfl)
@[simp] theorem State.setInt_stage (d : Fd) (v : Int) (i : Nat) : (s.setInt d v).stage i = s.stage i := (rfl)
@[simp] theorem State.setInt_olink (d : Fd) (v : Int) (i : Nat) : (s.setInt d v).olink i = s.olink i := (rfl)

/-! ### `orF` -/

@[simp] theorem State.orF_pending (d : Fd) (v : Nat) : (s.orF d v).pending = s.pending := (rfl)
@[simp] theorem State.orF_mem (d : Fd) (v : Nat) : (s.orF d v).mem = s.mem := (rfl)
@[simp] theorem State.orF_poison (d : Fd) (v : Nat) : (s.orF d v).poison = s.poison := (rfl)
@[simp] theorem State.orF_tiles (d : Fd) (v : Nat) : (s.orF d v).tiles = s.tiles := (rfl)
@[simp] theorem State.orF_planes (d : Fd) (v : Nat) : (s.orF d v).planes = s.planes := (rfl)
@[simp] theorem State.orF_grains (d : Fd) (v : Nat) : (s.orF d v).grains = s.grains := (rfl)
@[simp] theorem State.orF_harts (d : Fd) (v : Nat) : (s.orF d v).harts = s.harts := (rfl)
@[simp] theorem State.orF_clus (d : Fd) (v : Nat) : (s.orF d v).clus = s.clus := (rfl)
@[simp] theorem State.orF_parts (d : Fd) (v : Nat) : (s.orF d v).parts = s.parts := (rfl)
@[simp] theorem State.orF_flds (d : Fd) (v : Nat) : (s.orF d v).flds = s.flds := (rfl)
@[simp] theorem State.orF_vpm (d : Fd) (v : Nat) : (s.orF d v).vpm = s.vpm := (rfl)
@[simp] theorem State.orF_flits (d : Fd) (v : Nat) : (s.orF d v).flits = s.flits := (rfl)
@[simp] theorem State.orF_pkts (d : Fd) (v : Nat) : (s.orF d v).pkts = s.pkts := (rfl)
@[simp] theorem State.orF_rbucket (d : Fd) (v : Nat) : (s.orF d v).rbucket = s.rbucket := (rfl)
@[simp] theorem State.orF_rturn (d : Fd) (v : Nat) : (s.orF d v).rturn = s.rturn := (rfl)
@[simp] theorem State.orF_net (d : Fd) (v : Nat) : (s.orF d v).net = s.net := (rfl)
@[simp] theorem State.orF_vports (d : Fd) (v : Nat) : (s.orF d v).vports = s.vports := (rfl)
@[simp] theorem State.orF_octWait (d : Fd) (v : Nat) : (s.orF d v).octWait = s.octWait := (rfl)
@[simp] theorem State.orF_dtime (d : Fd) (v : Nat) : (s.orF d v).dtime = s.dtime := (rfl)
@[simp] theorem State.orF_ev (d : Fd) (v : Nat) : (s.orF d v).ev = s.ev := (rfl)
@[simp] theorem State.orF_tim (d : Fd) (v : Nat) : (s.orF d v).tim = s.tim := (rfl)
@[simp] theorem State.orF_barn (d : Fd) (v : Nat) : (s.orF d v).barn = s.barn := (rfl)
@[simp] theorem State.orF_olinks (d : Fd) (v : Nat) : (s.orF d v).olinks = s.olinks := (rfl)
@[simp] theorem State.orF_octIn (d : Fd) (v : Nat) : (s.orF d v).octIn = s.octIn := (rfl)
@[simp] theorem State.orF_remotes (d : Fd) (v : Nat) : (s.orF d v).remotes = s.remotes := (rfl)
@[simp] theorem State.orF_eth (d : Fd) (v : Nat) : (s.orF d v).eth = s.eth := (rfl)
@[simp] theorem State.orF_boot (d : Fd) (v : Nat) : (s.orF d v).boot = s.boot := (rfl)
@[simp] theorem State.orF_free (d : Fd) (v : Nat) : (s.orF d v).free = s.free := (rfl)
@[simp] theorem State.orF_hart (d : Fd) (v : Nat) (g : Nat) : (s.orF d v).hart g = s.hart g := (rfl)
@[simp] theorem State.orF_clu (d : Fd) (v : Nat) (i : Nat) : (s.orF d v).clu i = s.clu i := (rfl)
@[simp] theorem State.orF_part (d : Fd) (v : Nat) (i : Nat) : (s.orF d v).part i = s.part i := (rfl)
@[simp] theorem State.orF_fld (d : Fd) (v : Nat) (i : Nat) : (s.orF d v).fld i = s.fld i := (rfl)
@[simp] theorem State.orF_sreg (d : Fd) (v : Nat) (g r : Nat) : (s.orF d v).sreg g r = s.sreg g r := (rfl)
@[simp] theorem State.orF_areg (d : Fd) (v : Nat) (g r : Nat) : (s.orF d v).areg g r = s.areg g r := (rfl)
@[simp] theorem State.orF_pred (d : Fd) (v : Nat) (g r : Nat) : (s.orF d v).pred g r = s.pred g r := (rfl)
@[simp] theorem State.orF_rd (d : Fd) (v : Nat) (b : Nat) : (s.orF d v).rd b = s.rd b := (rfl)
@[simp] theorem State.orF_copyU (d : Fd) (v : Nat) (i : Nat) : (s.orF d v).copyU i = s.copyU i := (rfl)
@[simp] theorem State.orF_now (d : Fd) (v : Nat) : (s.orF d v).now = s.now := (rfl)
@[simp] theorem State.orF_poisoned (d : Fd) (v : Nat) (b m : Nat) : (s.orF d v).poisoned b m = s.poisoned b m := (rfl)
@[simp] theorem State.orF_tile (d : Fd) (v : Nat) (a b i : Nat) : (s.orF d v).tile a b i = s.tile a b i := (rfl)
@[simp] theorem State.orF_grain (d : Fd) (v : Nat) (a b i : Nat) : (s.orF d v).grain a b i = s.grain a b i := (rfl)
@[simp] theorem State.orF_stage (d : Fd) (v : Nat) (i : Nat) : (s.orF d v).stage i = s.stage i := (rfl)
@[simp] theorem State.orF_olink (d : Fd) (v : Nat) (i : Nat) : (s.orF d v).olink i = s.olink i := (rfl)

/-! ### `setBit` -/

@[simp] theorem State.setBit_pending (d : Fd) (i : Nat) (b : Bool) : (s.setBit d i b).pending = s.pending := (rfl)
@[simp] theorem State.setBit_mem (d : Fd) (i : Nat) (b : Bool) : (s.setBit d i b).mem = s.mem := (rfl)
@[simp] theorem State.setBit_poison (d : Fd) (i : Nat) (b : Bool) : (s.setBit d i b).poison = s.poison := (rfl)
@[simp] theorem State.setBit_tiles (d : Fd) (i : Nat) (b : Bool) : (s.setBit d i b).tiles = s.tiles := (rfl)
@[simp] theorem State.setBit_planes (d : Fd) (i : Nat) (b : Bool) : (s.setBit d i b).planes = s.planes := (rfl)
@[simp] theorem State.setBit_grains (d : Fd) (i : Nat) (b : Bool) : (s.setBit d i b).grains = s.grains := (rfl)
@[simp] theorem State.setBit_harts (d : Fd) (i : Nat) (b : Bool) : (s.setBit d i b).harts = s.harts := (rfl)
@[simp] theorem State.setBit_clus (d : Fd) (i : Nat) (b : Bool) : (s.setBit d i b).clus = s.clus := (rfl)
@[simp] theorem State.setBit_parts (d : Fd) (i : Nat) (b : Bool) : (s.setBit d i b).parts = s.parts := (rfl)
@[simp] theorem State.setBit_flds (d : Fd) (i : Nat) (b : Bool) : (s.setBit d i b).flds = s.flds := (rfl)
@[simp] theorem State.setBit_vpm (d : Fd) (i : Nat) (b : Bool) : (s.setBit d i b).vpm = s.vpm := (rfl)
@[simp] theorem State.setBit_flits (d : Fd) (i : Nat) (b : Bool) : (s.setBit d i b).flits = s.flits := (rfl)
@[simp] theorem State.setBit_pkts (d : Fd) (i : Nat) (b : Bool) : (s.setBit d i b).pkts = s.pkts := (rfl)
@[simp] theorem State.setBit_rbucket (d : Fd) (i : Nat) (b : Bool) : (s.setBit d i b).rbucket = s.rbucket := (rfl)
@[simp] theorem State.setBit_rturn (d : Fd) (i : Nat) (b : Bool) : (s.setBit d i b).rturn = s.rturn := (rfl)
@[simp] theorem State.setBit_net (d : Fd) (i : Nat) (b : Bool) : (s.setBit d i b).net = s.net := (rfl)
@[simp] theorem State.setBit_vports (d : Fd) (i : Nat) (b : Bool) : (s.setBit d i b).vports = s.vports := (rfl)
@[simp] theorem State.setBit_octWait (d : Fd) (i : Nat) (b : Bool) : (s.setBit d i b).octWait = s.octWait := (rfl)
@[simp] theorem State.setBit_dtime (d : Fd) (i : Nat) (b : Bool) : (s.setBit d i b).dtime = s.dtime := (rfl)
@[simp] theorem State.setBit_ev (d : Fd) (i : Nat) (b : Bool) : (s.setBit d i b).ev = s.ev := (rfl)
@[simp] theorem State.setBit_tim (d : Fd) (i : Nat) (b : Bool) : (s.setBit d i b).tim = s.tim := (rfl)
@[simp] theorem State.setBit_barn (d : Fd) (i : Nat) (b : Bool) : (s.setBit d i b).barn = s.barn := (rfl)
@[simp] theorem State.setBit_olinks (d : Fd) (i : Nat) (b : Bool) : (s.setBit d i b).olinks = s.olinks := (rfl)
@[simp] theorem State.setBit_octIn (d : Fd) (i : Nat) (b : Bool) : (s.setBit d i b).octIn = s.octIn := (rfl)
@[simp] theorem State.setBit_remotes (d : Fd) (i : Nat) (b : Bool) : (s.setBit d i b).remotes = s.remotes := (rfl)
@[simp] theorem State.setBit_eth (d : Fd) (i : Nat) (b : Bool) : (s.setBit d i b).eth = s.eth := (rfl)
@[simp] theorem State.setBit_boot (d : Fd) (i : Nat) (b : Bool) : (s.setBit d i b).boot = s.boot := (rfl)
@[simp] theorem State.setBit_free (d : Fd) (i : Nat) (b : Bool) : (s.setBit d i b).free = s.free := (rfl)
@[simp] theorem State.setBit_hart (d : Fd) (i : Nat) (b : Bool) (g : Nat) : (s.setBit d i b).hart g = s.hart g := (rfl)
@[simp] theorem State.setBit_clu (d : Fd) (i : Nat) (b : Bool) (i' : Nat) : (s.setBit d i b).clu i' = s.clu i' := (rfl)
@[simp] theorem State.setBit_part (d : Fd) (i : Nat) (b : Bool) (i' : Nat) : (s.setBit d i b).part i' = s.part i' := (rfl)
@[simp] theorem State.setBit_fld (d : Fd) (i : Nat) (b : Bool) (i' : Nat) : (s.setBit d i b).fld i' = s.fld i' := (rfl)
@[simp] theorem State.setBit_sreg (d : Fd) (i : Nat) (b : Bool) (g r : Nat) : (s.setBit d i b).sreg g r = s.sreg g r := (rfl)
@[simp] theorem State.setBit_areg (d : Fd) (i : Nat) (b : Bool) (g r : Nat) : (s.setBit d i b).areg g r = s.areg g r := (rfl)
@[simp] theorem State.setBit_pred (d : Fd) (i : Nat) (b : Bool) (g r : Nat) : (s.setBit d i b).pred g r = s.pred g r := (rfl)
@[simp] theorem State.setBit_rd (d : Fd) (i : Nat) (b : Bool) (b' : Nat) : (s.setBit d i b).rd b' = s.rd b' := (rfl)
@[simp] theorem State.setBit_copyU (d : Fd) (i : Nat) (b : Bool) (i' : Nat) : (s.setBit d i b).copyU i' = s.copyU i' := (rfl)
@[simp] theorem State.setBit_now (d : Fd) (i : Nat) (b : Bool) : (s.setBit d i b).now = s.now := (rfl)
@[simp] theorem State.setBit_poisoned (d : Fd) (i : Nat) (b : Bool) (b' m : Nat) : (s.setBit d i b).poisoned b' m = s.poisoned b' m := (rfl)
@[simp] theorem State.setBit_tile (d : Fd) (i : Nat) (b : Bool) (a b' i' : Nat) : (s.setBit d i b).tile a b' i' = s.tile a b' i' := (rfl)
@[simp] theorem State.setBit_grain (d : Fd) (i : Nat) (b : Bool) (a b' i' : Nat) : (s.setBit d i b).grain a b' i' = s.grain a b' i' := (rfl)
@[simp] theorem State.setBit_stage (d : Fd) (i : Nat) (b : Bool) (i' : Nat) : (s.setBit d i b).stage i' = s.stage i' := (rfl)
@[simp] theorem State.setBit_olink (d : Fd) (i : Nat) (b : Bool) (i' : Nat) : (s.setBit d i b).olink i' = s.olink i' := (rfl)

/-! ### `setHart` -/

@[simp] theorem State.setHart_pending (h : Nat) (x : Hart) : (s.setHart h x).pending = s.pending := (rfl)
@[simp] theorem State.setHart_regs (h : Nat) (x : Hart) : (s.setHart h x).regs = s.regs := (rfl)
@[simp] theorem State.setHart_mem (h : Nat) (x : Hart) : (s.setHart h x).mem = s.mem := (rfl)
@[simp] theorem State.setHart_poison (h : Nat) (x : Hart) : (s.setHart h x).poison = s.poison := (rfl)
@[simp] theorem State.setHart_tiles (h : Nat) (x : Hart) : (s.setHart h x).tiles = s.tiles := (rfl)
@[simp] theorem State.setHart_planes (h : Nat) (x : Hart) : (s.setHart h x).planes = s.planes := (rfl)
@[simp] theorem State.setHart_grains (h : Nat) (x : Hart) : (s.setHart h x).grains = s.grains := (rfl)
@[simp] theorem State.setHart_clus (h : Nat) (x : Hart) : (s.setHart h x).clus = s.clus := (rfl)
@[simp] theorem State.setHart_parts (h : Nat) (x : Hart) : (s.setHart h x).parts = s.parts := (rfl)
@[simp] theorem State.setHart_flds (h : Nat) (x : Hart) : (s.setHart h x).flds = s.flds := (rfl)
@[simp] theorem State.setHart_vpm (h : Nat) (x : Hart) : (s.setHart h x).vpm = s.vpm := (rfl)
@[simp] theorem State.setHart_flits (h : Nat) (x : Hart) : (s.setHart h x).flits = s.flits := (rfl)
@[simp] theorem State.setHart_pkts (h : Nat) (x : Hart) : (s.setHart h x).pkts = s.pkts := (rfl)
@[simp] theorem State.setHart_rbucket (h : Nat) (x : Hart) : (s.setHart h x).rbucket = s.rbucket := (rfl)
@[simp] theorem State.setHart_rturn (h : Nat) (x : Hart) : (s.setHart h x).rturn = s.rturn := (rfl)
@[simp] theorem State.setHart_net (h : Nat) (x : Hart) : (s.setHart h x).net = s.net := (rfl)
@[simp] theorem State.setHart_vports (h : Nat) (x : Hart) : (s.setHart h x).vports = s.vports := (rfl)
@[simp] theorem State.setHart_octWait (h : Nat) (x : Hart) : (s.setHart h x).octWait = s.octWait := (rfl)
@[simp] theorem State.setHart_dtime (h : Nat) (x : Hart) : (s.setHart h x).dtime = s.dtime := (rfl)
@[simp] theorem State.setHart_ev (h : Nat) (x : Hart) : (s.setHart h x).ev = s.ev := (rfl)
@[simp] theorem State.setHart_tim (h : Nat) (x : Hart) : (s.setHart h x).tim = s.tim := (rfl)
@[simp] theorem State.setHart_barn (h : Nat) (x : Hart) : (s.setHart h x).barn = s.barn := (rfl)
@[simp] theorem State.setHart_olinks (h : Nat) (x : Hart) : (s.setHart h x).olinks = s.olinks := (rfl)
@[simp] theorem State.setHart_octIn (h : Nat) (x : Hart) : (s.setHart h x).octIn = s.octIn := (rfl)
@[simp] theorem State.setHart_remotes (h : Nat) (x : Hart) : (s.setHart h x).remotes = s.remotes := (rfl)
@[simp] theorem State.setHart_eth (h : Nat) (x : Hart) : (s.setHart h x).eth = s.eth := (rfl)
@[simp] theorem State.setHart_boot (h : Nat) (x : Hart) : (s.setHart h x).boot = s.boot := (rfl)
@[simp] theorem State.setHart_free (h : Nat) (x : Hart) : (s.setHart h x).free = s.free := (rfl)
@[simp] theorem State.setHart_f (h : Nat) (x : Hart) (e : Fd) : (s.setHart h x).f e = s.f e := (rfl)
@[simp] theorem State.setHart_on (h : Nat) (x : Hart) (e : Fd) : (s.setHart h x).on e = s.on e := (rfl)
@[simp] theorem State.setHart_clu (h : Nat) (x : Hart) (i : Nat) : (s.setHart h x).clu i = s.clu i := (rfl)
@[simp] theorem State.setHart_part (h : Nat) (x : Hart) (i : Nat) : (s.setHart h x).part i = s.part i := (rfl)
@[simp] theorem State.setHart_fld (h : Nat) (x : Hart) (i : Nat) : (s.setHart h x).fld i = s.fld i := (rfl)
@[simp] theorem State.setHart_rd (h : Nat) (x : Hart) (b : Nat) : (s.setHart h x).rd b = s.rd b := (rfl)
@[simp] theorem State.setHart_copyU (h : Nat) (x : Hart) (i : Nat) : (s.setHart h x).copyU i = s.copyU i := (rfl)
@[simp] theorem State.setHart_now (h : Nat) (x : Hart) : (s.setHart h x).now = s.now := (rfl)
@[simp] theorem State.setHart_partOf (h : Nat) (x : Hart) (i : Nat) : (s.setHart h x).partOf i = s.partOf i := (rfl)
@[simp] theorem State.setHart_absent (h : Nat) (x : Hart) (i : Nat) : (s.setHart h x).absent i = s.absent i := (rfl)
@[simp] theorem State.setHart_poisoned (h : Nat) (x : Hart) (b m : Nat) : (s.setHart h x).poisoned b m = s.poisoned b m := (rfl)
@[simp] theorem State.setHart_tile (h : Nat) (x : Hart) (a b i : Nat) : (s.setHart h x).tile a b i = s.tile a b i := (rfl)
@[simp] theorem State.setHart_grain (h : Nat) (x : Hart) (a b i : Nat) : (s.setHart h x).grain a b i = s.grain a b i := (rfl)
@[simp] theorem State.setHart_stage (h : Nat) (x : Hart) (i : Nat) : (s.setHart h x).stage i = s.stage i := (rfl)
@[simp] theorem State.setHart_olink (h : Nat) (x : Hart) (i : Nat) : (s.setHart h x).olink i = s.olink i := (rfl)

/-! ### `modHart` -/

@[simp] theorem State.modHart_pending (h : Nat) (g : Hart → Hart) : (s.modHart h g).pending = s.pending := (rfl)
@[simp] theorem State.modHart_regs (h : Nat) (g : Hart → Hart) : (s.modHart h g).regs = s.regs := (rfl)
@[simp] theorem State.modHart_mem (h : Nat) (g : Hart → Hart) : (s.modHart h g).mem = s.mem := (rfl)
@[simp] theorem State.modHart_poison (h : Nat) (g : Hart → Hart) : (s.modHart h g).poison = s.poison := (rfl)
@[simp] theorem State.modHart_tiles (h : Nat) (g : Hart → Hart) : (s.modHart h g).tiles = s.tiles := (rfl)
@[simp] theorem State.modHart_planes (h : Nat) (g : Hart → Hart) : (s.modHart h g).planes = s.planes := (rfl)
@[simp] theorem State.modHart_grains (h : Nat) (g : Hart → Hart) : (s.modHart h g).grains = s.grains := (rfl)
@[simp] theorem State.modHart_clus (h : Nat) (g : Hart → Hart) : (s.modHart h g).clus = s.clus := (rfl)
@[simp] theorem State.modHart_parts (h : Nat) (g : Hart → Hart) : (s.modHart h g).parts = s.parts := (rfl)
@[simp] theorem State.modHart_flds (h : Nat) (g : Hart → Hart) : (s.modHart h g).flds = s.flds := (rfl)
@[simp] theorem State.modHart_vpm (h : Nat) (g : Hart → Hart) : (s.modHart h g).vpm = s.vpm := (rfl)
@[simp] theorem State.modHart_flits (h : Nat) (g : Hart → Hart) : (s.modHart h g).flits = s.flits := (rfl)
@[simp] theorem State.modHart_pkts (h : Nat) (g : Hart → Hart) : (s.modHart h g).pkts = s.pkts := (rfl)
@[simp] theorem State.modHart_rbucket (h : Nat) (g : Hart → Hart) : (s.modHart h g).rbucket = s.rbucket := (rfl)
@[simp] theorem State.modHart_rturn (h : Nat) (g : Hart → Hart) : (s.modHart h g).rturn = s.rturn := (rfl)
@[simp] theorem State.modHart_net (h : Nat) (g : Hart → Hart) : (s.modHart h g).net = s.net := (rfl)
@[simp] theorem State.modHart_vports (h : Nat) (g : Hart → Hart) : (s.modHart h g).vports = s.vports := (rfl)
@[simp] theorem State.modHart_octWait (h : Nat) (g : Hart → Hart) : (s.modHart h g).octWait = s.octWait := (rfl)
@[simp] theorem State.modHart_dtime (h : Nat) (g : Hart → Hart) : (s.modHart h g).dtime = s.dtime := (rfl)
@[simp] theorem State.modHart_ev (h : Nat) (g : Hart → Hart) : (s.modHart h g).ev = s.ev := (rfl)
@[simp] theorem State.modHart_tim (h : Nat) (g : Hart → Hart) : (s.modHart h g).tim = s.tim := (rfl)
@[simp] theorem State.modHart_barn (h : Nat) (g : Hart → Hart) : (s.modHart h g).barn = s.barn := (rfl)
@[simp] theorem State.modHart_olinks (h : Nat) (g : Hart → Hart) : (s.modHart h g).olinks = s.olinks := (rfl)
@[simp] theorem State.modHart_octIn (h : Nat) (g : Hart → Hart) : (s.modHart h g).octIn = s.octIn := (rfl)
@[simp] theorem State.modHart_remotes (h : Nat) (g : Hart → Hart) : (s.modHart h g).remotes = s.remotes := (rfl)
@[simp] theorem State.modHart_eth (h : Nat) (g : Hart → Hart) : (s.modHart h g).eth = s.eth := (rfl)
@[simp] theorem State.modHart_boot (h : Nat) (g : Hart → Hart) : (s.modHart h g).boot = s.boot := (rfl)
@[simp] theorem State.modHart_free (h : Nat) (g : Hart → Hart) : (s.modHart h g).free = s.free := (rfl)
@[simp] theorem State.modHart_f (h : Nat) (g : Hart → Hart) (e : Fd) : (s.modHart h g).f e = s.f e := (rfl)
@[simp] theorem State.modHart_on (h : Nat) (g : Hart → Hart) (e : Fd) : (s.modHart h g).on e = s.on e := (rfl)
@[simp] theorem State.modHart_clu (h : Nat) (g : Hart → Hart) (i : Nat) : (s.modHart h g).clu i = s.clu i := (rfl)
@[simp] theorem State.modHart_part (h : Nat) (g : Hart → Hart) (i : Nat) : (s.modHart h g).part i = s.part i := (rfl)
@[simp] theorem State.modHart_fld (h : Nat) (g : Hart → Hart) (i : Nat) : (s.modHart h g).fld i = s.fld i := (rfl)
@[simp] theorem State.modHart_rd (h : Nat) (g : Hart → Hart) (b : Nat) : (s.modHart h g).rd b = s.rd b := (rfl)
@[simp] theorem State.modHart_copyU (h : Nat) (g : Hart → Hart) (i : Nat) : (s.modHart h g).copyU i = s.copyU i := (rfl)
@[simp] theorem State.modHart_now (h : Nat) (g : Hart → Hart) : (s.modHart h g).now = s.now := (rfl)
@[simp] theorem State.modHart_partOf (h : Nat) (g : Hart → Hart) (i : Nat) : (s.modHart h g).partOf i = s.partOf i := (rfl)
@[simp] theorem State.modHart_absent (h : Nat) (g : Hart → Hart) (i : Nat) : (s.modHart h g).absent i = s.absent i := (rfl)
@[simp] theorem State.modHart_poisoned (h : Nat) (g : Hart → Hart) (b m : Nat) : (s.modHart h g).poisoned b m = s.poisoned b m := (rfl)
@[simp] theorem State.modHart_tile (h : Nat) (g : Hart → Hart) (a b i : Nat) : (s.modHart h g).tile a b i = s.tile a b i := (rfl)
@[simp] theorem State.modHart_grain (h : Nat) (g : Hart → Hart) (a b i : Nat) : (s.modHart h g).grain a b i = s.grain a b i := (rfl)
@[simp] theorem State.modHart_stage (h : Nat) (g : Hart → Hart) (i : Nat) : (s.modHart h g).stage i = s.stage i := (rfl)
@[simp] theorem State.modHart_olink (h : Nat) (g : Hart → Hart) (i : Nat) : (s.modHart h g).olink i = s.olink i := (rfl)

/-! ### `setA` -/

@[simp] theorem State.setA_pending (h r : Nat) (v : Off48) : (s.setA h r v).pending = s.pending := (rfl)
@[simp] theorem State.setA_regs (h r : Nat) (v : Off48) : (s.setA h r v).regs = s.regs := (rfl)
@[simp] theorem State.setA_mem (h r : Nat) (v : Off48) : (s.setA h r v).mem = s.mem := (rfl)
@[simp] theorem State.setA_poison (h r : Nat) (v : Off48) : (s.setA h r v).poison = s.poison := (rfl)
@[simp] theorem State.setA_tiles (h r : Nat) (v : Off48) : (s.setA h r v).tiles = s.tiles := (rfl)
@[simp] theorem State.setA_planes (h r : Nat) (v : Off48) : (s.setA h r v).planes = s.planes := (rfl)
@[simp] theorem State.setA_grains (h r : Nat) (v : Off48) : (s.setA h r v).grains = s.grains := (rfl)
@[simp] theorem State.setA_clus (h r : Nat) (v : Off48) : (s.setA h r v).clus = s.clus := (rfl)
@[simp] theorem State.setA_parts (h r : Nat) (v : Off48) : (s.setA h r v).parts = s.parts := (rfl)
@[simp] theorem State.setA_flds (h r : Nat) (v : Off48) : (s.setA h r v).flds = s.flds := (rfl)
@[simp] theorem State.setA_vpm (h r : Nat) (v : Off48) : (s.setA h r v).vpm = s.vpm := (rfl)
@[simp] theorem State.setA_flits (h r : Nat) (v : Off48) : (s.setA h r v).flits = s.flits := (rfl)
@[simp] theorem State.setA_pkts (h r : Nat) (v : Off48) : (s.setA h r v).pkts = s.pkts := (rfl)
@[simp] theorem State.setA_rbucket (h r : Nat) (v : Off48) : (s.setA h r v).rbucket = s.rbucket := (rfl)
@[simp] theorem State.setA_rturn (h r : Nat) (v : Off48) : (s.setA h r v).rturn = s.rturn := (rfl)
@[simp] theorem State.setA_net (h r : Nat) (v : Off48) : (s.setA h r v).net = s.net := (rfl)
@[simp] theorem State.setA_vports (h r : Nat) (v : Off48) : (s.setA h r v).vports = s.vports := (rfl)
@[simp] theorem State.setA_octWait (h r : Nat) (v : Off48) : (s.setA h r v).octWait = s.octWait := (rfl)
@[simp] theorem State.setA_dtime (h r : Nat) (v : Off48) : (s.setA h r v).dtime = s.dtime := (rfl)
@[simp] theorem State.setA_ev (h r : Nat) (v : Off48) : (s.setA h r v).ev = s.ev := (rfl)
@[simp] theorem State.setA_tim (h r : Nat) (v : Off48) : (s.setA h r v).tim = s.tim := (rfl)
@[simp] theorem State.setA_barn (h r : Nat) (v : Off48) : (s.setA h r v).barn = s.barn := (rfl)
@[simp] theorem State.setA_olinks (h r : Nat) (v : Off48) : (s.setA h r v).olinks = s.olinks := (rfl)
@[simp] theorem State.setA_octIn (h r : Nat) (v : Off48) : (s.setA h r v).octIn = s.octIn := (rfl)
@[simp] theorem State.setA_remotes (h r : Nat) (v : Off48) : (s.setA h r v).remotes = s.remotes := (rfl)
@[simp] theorem State.setA_eth (h r : Nat) (v : Off48) : (s.setA h r v).eth = s.eth := (rfl)
@[simp] theorem State.setA_boot (h r : Nat) (v : Off48) : (s.setA h r v).boot = s.boot := (rfl)
@[simp] theorem State.setA_free (h r : Nat) (v : Off48) : (s.setA h r v).free = s.free := (rfl)
@[simp] theorem State.setA_f (h r : Nat) (v : Off48) (e : Fd) : (s.setA h r v).f e = s.f e := (rfl)
@[simp] theorem State.setA_on (h r : Nat) (v : Off48) (e : Fd) : (s.setA h r v).on e = s.on e := (rfl)
@[simp] theorem State.setA_clu (h r : Nat) (v : Off48) (i : Nat) : (s.setA h r v).clu i = s.clu i := (rfl)
@[simp] theorem State.setA_part (h r : Nat) (v : Off48) (i : Nat) : (s.setA h r v).part i = s.part i := (rfl)
@[simp] theorem State.setA_fld (h r : Nat) (v : Off48) (i : Nat) : (s.setA h r v).fld i = s.fld i := (rfl)
@[simp] theorem State.setA_rd (h r : Nat) (v : Off48) (b : Nat) : (s.setA h r v).rd b = s.rd b := (rfl)
@[simp] theorem State.setA_copyU (h r : Nat) (v : Off48) (i : Nat) : (s.setA h r v).copyU i = s.copyU i := (rfl)
@[simp] theorem State.setA_now (h r : Nat) (v : Off48) : (s.setA h r v).now = s.now := (rfl)
@[simp] theorem State.setA_partOf (h r : Nat) (v : Off48) (i : Nat) : (s.setA h r v).partOf i = s.partOf i := (rfl)
@[simp] theorem State.setA_absent (h r : Nat) (v : Off48) (i : Nat) : (s.setA h r v).absent i = s.absent i := (rfl)
@[simp] theorem State.setA_poisoned (h r : Nat) (v : Off48) (b m : Nat) : (s.setA h r v).poisoned b m = s.poisoned b m := (rfl)
@[simp] theorem State.setA_tile (h r : Nat) (v : Off48) (a b i : Nat) : (s.setA h r v).tile a b i = s.tile a b i := (rfl)
@[simp] theorem State.setA_grain (h r : Nat) (v : Off48) (a b i : Nat) : (s.setA h r v).grain a b i = s.grain a b i := (rfl)
@[simp] theorem State.setA_stage (h r : Nat) (v : Off48) (i : Nat) : (s.setA h r v).stage i = s.stage i := (rfl)
@[simp] theorem State.setA_olink (h r : Nat) (v : Off48) (i : Nat) : (s.setA h r v).olink i = s.olink i := (rfl)

/-! ### `setS` -/

@[simp] theorem State.setS_pending (h r : Nat) (v : Word) : (s.setS h r v).pending = s.pending := by unfold State.setS; split <;> rfl
@[simp] theorem State.setS_regs (h r : Nat) (v : Word) : (s.setS h r v).regs = s.regs := by unfold State.setS; split <;> rfl
@[simp] theorem State.setS_mem (h r : Nat) (v : Word) : (s.setS h r v).mem = s.mem := by unfold State.setS; split <;> rfl
@[simp] theorem State.setS_poison (h r : Nat) (v : Word) : (s.setS h r v).poison = s.poison := by unfold State.setS; split <;> rfl
@[simp] theorem State.setS_tiles (h r : Nat) (v : Word) : (s.setS h r v).tiles = s.tiles := by unfold State.setS; split <;> rfl
@[simp] theorem State.setS_planes (h r : Nat) (v : Word) : (s.setS h r v).planes = s.planes := by unfold State.setS; split <;> rfl
@[simp] theorem State.setS_grains (h r : Nat) (v : Word) : (s.setS h r v).grains = s.grains := by unfold State.setS; split <;> rfl
@[simp] theorem State.setS_clus (h r : Nat) (v : Word) : (s.setS h r v).clus = s.clus := by unfold State.setS; split <;> rfl
@[simp] theorem State.setS_parts (h r : Nat) (v : Word) : (s.setS h r v).parts = s.parts := by unfold State.setS; split <;> rfl
@[simp] theorem State.setS_flds (h r : Nat) (v : Word) : (s.setS h r v).flds = s.flds := by unfold State.setS; split <;> rfl
@[simp] theorem State.setS_vpm (h r : Nat) (v : Word) : (s.setS h r v).vpm = s.vpm := by unfold State.setS; split <;> rfl
@[simp] theorem State.setS_flits (h r : Nat) (v : Word) : (s.setS h r v).flits = s.flits := by unfold State.setS; split <;> rfl
@[simp] theorem State.setS_pkts (h r : Nat) (v : Word) : (s.setS h r v).pkts = s.pkts := by unfold State.setS; split <;> rfl
@[simp] theorem State.setS_rbucket (h r : Nat) (v : Word) : (s.setS h r v).rbucket = s.rbucket := by unfold State.setS; split <;> rfl
@[simp] theorem State.setS_rturn (h r : Nat) (v : Word) : (s.setS h r v).rturn = s.rturn := by unfold State.setS; split <;> rfl
@[simp] theorem State.setS_net (h r : Nat) (v : Word) : (s.setS h r v).net = s.net := by unfold State.setS; split <;> rfl
@[simp] theorem State.setS_vports (h r : Nat) (v : Word) : (s.setS h r v).vports = s.vports := by unfold State.setS; split <;> rfl
@[simp] theorem State.setS_octWait (h r : Nat) (v : Word) : (s.setS h r v).octWait = s.octWait := by unfold State.setS; split <;> rfl
@[simp] theorem State.setS_dtime (h r : Nat) (v : Word) : (s.setS h r v).dtime = s.dtime := by unfold State.setS; split <;> rfl
@[simp] theorem State.setS_ev (h r : Nat) (v : Word) : (s.setS h r v).ev = s.ev := by unfold State.setS; split <;> rfl
@[simp] theorem State.setS_tim (h r : Nat) (v : Word) : (s.setS h r v).tim = s.tim := by unfold State.setS; split <;> rfl
@[simp] theorem State.setS_barn (h r : Nat) (v : Word) : (s.setS h r v).barn = s.barn := by unfold State.setS; split <;> rfl
@[simp] theorem State.setS_olinks (h r : Nat) (v : Word) : (s.setS h r v).olinks = s.olinks := by unfold State.setS; split <;> rfl
@[simp] theorem State.setS_octIn (h r : Nat) (v : Word) : (s.setS h r v).octIn = s.octIn := by unfold State.setS; split <;> rfl
@[simp] theorem State.setS_remotes (h r : Nat) (v : Word) : (s.setS h r v).remotes = s.remotes := by unfold State.setS; split <;> rfl
@[simp] theorem State.setS_eth (h r : Nat) (v : Word) : (s.setS h r v).eth = s.eth := by unfold State.setS; split <;> rfl
@[simp] theorem State.setS_boot (h r : Nat) (v : Word) : (s.setS h r v).boot = s.boot := by unfold State.setS; split <;> rfl
@[simp] theorem State.setS_free (h r : Nat) (v : Word) : (s.setS h r v).free = s.free := by unfold State.setS; split <;> rfl
@[simp] theorem State.setS_f (h r : Nat) (v : Word) (e : Fd) : (s.setS h r v).f e = s.f e := by unfold State.setS; split <;> rfl
@[simp] theorem State.setS_on (h r : Nat) (v : Word) (e : Fd) : (s.setS h r v).on e = s.on e := by unfold State.setS; split <;> rfl
@[simp] theorem State.setS_clu (h r : Nat) (v : Word) (i : Nat) : (s.setS h r v).clu i = s.clu i := by unfold State.setS; split <;> rfl
@[simp] theorem State.setS_part (h r : Nat) (v : Word) (i : Nat) : (s.setS h r v).part i = s.part i := by unfold State.setS; split <;> rfl
@[simp] theorem State.setS_fld (h r : Nat) (v : Word) (i : Nat) : (s.setS h r v).fld i = s.fld i := by unfold State.setS; split <;> rfl
@[simp] theorem State.setS_rd (h r : Nat) (v : Word) (b : Nat) : (s.setS h r v).rd b = s.rd b := by unfold State.setS; split <;> rfl
@[simp] theorem State.setS_copyU (h r : Nat) (v : Word) (i : Nat) : (s.setS h r v).copyU i = s.copyU i := by unfold State.setS; split <;> rfl
@[simp] theorem State.setS_now (h r : Nat) (v : Word) : (s.setS h r v).now = s.now := by unfold State.setS; split <;> rfl
@[simp] theorem State.setS_partOf (h r : Nat) (v : Word) (i : Nat) : (s.setS h r v).partOf i = s.partOf i := by unfold State.setS; split <;> rfl
@[simp] theorem State.setS_absent (h r : Nat) (v : Word) (i : Nat) : (s.setS h r v).absent i = s.absent i := by unfold State.setS; split <;> rfl
@[simp] theorem State.setS_poisoned (h r : Nat) (v : Word) (b m : Nat) : (s.setS h r v).poisoned b m = s.poisoned b m := by unfold State.setS; split <;> rfl
@[simp] theorem State.setS_tile (h r : Nat) (v : Word) (a b i : Nat) : (s.setS h r v).tile a b i = s.tile a b i := by unfold State.setS; split <;> rfl
@[simp] theorem State.setS_grain (h r : Nat) (v : Word) (a b i : Nat) : (s.setS h r v).grain a b i = s.grain a b i := by unfold State.setS; split <;> rfl
@[simp] theorem State.setS_stage (h r : Nat) (v : Word) (i : Nat) : (s.setS h r v).stage i = s.stage i := by unfold State.setS; split <;> rfl
@[simp] theorem State.setS_olink (h r : Nat) (v : Word) (i : Nat) : (s.setS h r v).olink i = s.olink i := by unfold State.setS; split <;> rfl

/-! ### `setP` -/

@[simp] theorem State.setP_pending (h r : Nat) (b : Bool) : (s.setP h r b).pending = s.pending := by unfold State.setP; split <;> rfl
@[simp] theorem State.setP_regs (h r : Nat) (b : Bool) : (s.setP h r b).regs = s.regs := by unfold State.setP; split <;> rfl
@[simp] theorem State.setP_mem (h r : Nat) (b : Bool) : (s.setP h r b).mem = s.mem := by unfold State.setP; split <;> rfl
@[simp] theorem State.setP_poison (h r : Nat) (b : Bool) : (s.setP h r b).poison = s.poison := by unfold State.setP; split <;> rfl
@[simp] theorem State.setP_tiles (h r : Nat) (b : Bool) : (s.setP h r b).tiles = s.tiles := by unfold State.setP; split <;> rfl
@[simp] theorem State.setP_planes (h r : Nat) (b : Bool) : (s.setP h r b).planes = s.planes := by unfold State.setP; split <;> rfl
@[simp] theorem State.setP_grains (h r : Nat) (b : Bool) : (s.setP h r b).grains = s.grains := by unfold State.setP; split <;> rfl
@[simp] theorem State.setP_clus (h r : Nat) (b : Bool) : (s.setP h r b).clus = s.clus := by unfold State.setP; split <;> rfl
@[simp] theorem State.setP_parts (h r : Nat) (b : Bool) : (s.setP h r b).parts = s.parts := by unfold State.setP; split <;> rfl
@[simp] theorem State.setP_flds (h r : Nat) (b : Bool) : (s.setP h r b).flds = s.flds := by unfold State.setP; split <;> rfl
@[simp] theorem State.setP_vpm (h r : Nat) (b : Bool) : (s.setP h r b).vpm = s.vpm := by unfold State.setP; split <;> rfl
@[simp] theorem State.setP_flits (h r : Nat) (b : Bool) : (s.setP h r b).flits = s.flits := by unfold State.setP; split <;> rfl
@[simp] theorem State.setP_pkts (h r : Nat) (b : Bool) : (s.setP h r b).pkts = s.pkts := by unfold State.setP; split <;> rfl
@[simp] theorem State.setP_rbucket (h r : Nat) (b : Bool) : (s.setP h r b).rbucket = s.rbucket := by unfold State.setP; split <;> rfl
@[simp] theorem State.setP_rturn (h r : Nat) (b : Bool) : (s.setP h r b).rturn = s.rturn := by unfold State.setP; split <;> rfl
@[simp] theorem State.setP_net (h r : Nat) (b : Bool) : (s.setP h r b).net = s.net := by unfold State.setP; split <;> rfl
@[simp] theorem State.setP_vports (h r : Nat) (b : Bool) : (s.setP h r b).vports = s.vports := by unfold State.setP; split <;> rfl
@[simp] theorem State.setP_octWait (h r : Nat) (b : Bool) : (s.setP h r b).octWait = s.octWait := by unfold State.setP; split <;> rfl
@[simp] theorem State.setP_dtime (h r : Nat) (b : Bool) : (s.setP h r b).dtime = s.dtime := by unfold State.setP; split <;> rfl
@[simp] theorem State.setP_ev (h r : Nat) (b : Bool) : (s.setP h r b).ev = s.ev := by unfold State.setP; split <;> rfl
@[simp] theorem State.setP_tim (h r : Nat) (b : Bool) : (s.setP h r b).tim = s.tim := by unfold State.setP; split <;> rfl
@[simp] theorem State.setP_barn (h r : Nat) (b : Bool) : (s.setP h r b).barn = s.barn := by unfold State.setP; split <;> rfl
@[simp] theorem State.setP_olinks (h r : Nat) (b : Bool) : (s.setP h r b).olinks = s.olinks := by unfold State.setP; split <;> rfl
@[simp] theorem State.setP_octIn (h r : Nat) (b : Bool) : (s.setP h r b).octIn = s.octIn := by unfold State.setP; split <;> rfl
@[simp] theorem State.setP_remotes (h r : Nat) (b : Bool) : (s.setP h r b).remotes = s.remotes := by unfold State.setP; split <;> rfl
@[simp] theorem State.setP_eth (h r : Nat) (b : Bool) : (s.setP h r b).eth = s.eth := by unfold State.setP; split <;> rfl
@[simp] theorem State.setP_boot (h r : Nat) (b : Bool) : (s.setP h r b).boot = s.boot := by unfold State.setP; split <;> rfl
@[simp] theorem State.setP_free (h r : Nat) (b : Bool) : (s.setP h r b).free = s.free := by unfold State.setP; split <;> rfl
@[simp] theorem State.setP_f (h r : Nat) (b : Bool) (e : Fd) : (s.setP h r b).f e = s.f e := by unfold State.setP; split <;> rfl
@[simp] theorem State.setP_on (h r : Nat) (b : Bool) (e : Fd) : (s.setP h r b).on e = s.on e := by unfold State.setP; split <;> rfl
@[simp] theorem State.setP_clu (h r : Nat) (b : Bool) (i : Nat) : (s.setP h r b).clu i = s.clu i := by unfold State.setP; split <;> rfl
@[simp] theorem State.setP_part (h r : Nat) (b : Bool) (i : Nat) : (s.setP h r b).part i = s.part i := by unfold State.setP; split <;> rfl
@[simp] theorem State.setP_fld (h r : Nat) (b : Bool) (i : Nat) : (s.setP h r b).fld i = s.fld i := by unfold State.setP; split <;> rfl
@[simp] theorem State.setP_rd (h r : Nat) (b : Bool) (b' : Nat) : (s.setP h r b).rd b' = s.rd b' := by unfold State.setP; split <;> rfl
@[simp] theorem State.setP_copyU (h r : Nat) (b : Bool) (i : Nat) : (s.setP h r b).copyU i = s.copyU i := by unfold State.setP; split <;> rfl
@[simp] theorem State.setP_now (h r : Nat) (b : Bool) : (s.setP h r b).now = s.now := by unfold State.setP; split <;> rfl
@[simp] theorem State.setP_partOf (h r : Nat) (b : Bool) (i : Nat) : (s.setP h r b).partOf i = s.partOf i := by unfold State.setP; split <;> rfl
@[simp] theorem State.setP_absent (h r : Nat) (b : Bool) (i : Nat) : (s.setP h r b).absent i = s.absent i := by unfold State.setP; split <;> rfl
@[simp] theorem State.setP_poisoned (h r : Nat) (b : Bool) (b' m : Nat) : (s.setP h r b).poisoned b' m = s.poisoned b' m := by unfold State.setP; split <;> rfl
@[simp] theorem State.setP_tile (h r : Nat) (b : Bool) (a b' i : Nat) : (s.setP h r b).tile a b' i = s.tile a b' i := by unfold State.setP; split <;> rfl
@[simp] theorem State.setP_grain (h r : Nat) (b : Bool) (a b' i : Nat) : (s.setP h r b).grain a b' i = s.grain a b' i := by unfold State.setP; split <;> rfl
@[simp] theorem State.setP_stage (h r : Nat) (b : Bool) (i : Nat) : (s.setP h r b).stage i = s.stage i := by unfold State.setP; split <;> rfl
@[simp] theorem State.setP_olink (h r : Nat) (b : Bool) (i : Nat) : (s.setP h r b).olink i = s.olink i := by unfold State.setP; split <;> rfl

/-! ### `setClu` -/

@[simp] theorem State.setClu_pending (c : Nat) (x : Clu) : (s.setClu c x).pending = s.pending := (rfl)
@[simp] theorem State.setClu_regs (c : Nat) (x : Clu) : (s.setClu c x).regs = s.regs := (rfl)
@[simp] theorem State.setClu_mem (c : Nat) (x : Clu) : (s.setClu c x).mem = s.mem := (rfl)
@[simp] theorem State.setClu_poison (c : Nat) (x : Clu) : (s.setClu c x).poison = s.poison := (rfl)
@[simp] theorem State.setClu_tiles (c : Nat) (x : Clu) : (s.setClu c x).tiles = s.tiles := (rfl)
@[simp] theorem State.setClu_planes (c : Nat) (x : Clu) : (s.setClu c x).planes = s.planes := (rfl)
@[simp] theorem State.setClu_grains (c : Nat) (x : Clu) : (s.setClu c x).grains = s.grains := (rfl)
@[simp] theorem State.setClu_harts (c : Nat) (x : Clu) : (s.setClu c x).harts = s.harts := (rfl)
@[simp] theorem State.setClu_parts (c : Nat) (x : Clu) : (s.setClu c x).parts = s.parts := (rfl)
@[simp] theorem State.setClu_flds (c : Nat) (x : Clu) : (s.setClu c x).flds = s.flds := (rfl)
@[simp] theorem State.setClu_vpm (c : Nat) (x : Clu) : (s.setClu c x).vpm = s.vpm := (rfl)
@[simp] theorem State.setClu_flits (c : Nat) (x : Clu) : (s.setClu c x).flits = s.flits := (rfl)
@[simp] theorem State.setClu_pkts (c : Nat) (x : Clu) : (s.setClu c x).pkts = s.pkts := (rfl)
@[simp] theorem State.setClu_rbucket (c : Nat) (x : Clu) : (s.setClu c x).rbucket = s.rbucket := (rfl)
@[simp] theorem State.setClu_rturn (c : Nat) (x : Clu) : (s.setClu c x).rturn = s.rturn := (rfl)
@[simp] theorem State.setClu_net (c : Nat) (x : Clu) : (s.setClu c x).net = s.net := (rfl)
@[simp] theorem State.setClu_vports (c : Nat) (x : Clu) : (s.setClu c x).vports = s.vports := (rfl)
@[simp] theorem State.setClu_octWait (c : Nat) (x : Clu) : (s.setClu c x).octWait = s.octWait := (rfl)
@[simp] theorem State.setClu_dtime (c : Nat) (x : Clu) : (s.setClu c x).dtime = s.dtime := (rfl)
@[simp] theorem State.setClu_ev (c : Nat) (x : Clu) : (s.setClu c x).ev = s.ev := (rfl)
@[simp] theorem State.setClu_tim (c : Nat) (x : Clu) : (s.setClu c x).tim = s.tim := (rfl)
@[simp] theorem State.setClu_barn (c : Nat) (x : Clu) : (s.setClu c x).barn = s.barn := (rfl)
@[simp] theorem State.setClu_olinks (c : Nat) (x : Clu) : (s.setClu c x).olinks = s.olinks := (rfl)
@[simp] theorem State.setClu_octIn (c : Nat) (x : Clu) : (s.setClu c x).octIn = s.octIn := (rfl)
@[simp] theorem State.setClu_remotes (c : Nat) (x : Clu) : (s.setClu c x).remotes = s.remotes := (rfl)
@[simp] theorem State.setClu_eth (c : Nat) (x : Clu) : (s.setClu c x).eth = s.eth := (rfl)
@[simp] theorem State.setClu_boot (c : Nat) (x : Clu) : (s.setClu c x).boot = s.boot := (rfl)
@[simp] theorem State.setClu_free (c : Nat) (x : Clu) : (s.setClu c x).free = s.free := (rfl)
@[simp] theorem State.setClu_f (c : Nat) (x : Clu) (e : Fd) : (s.setClu c x).f e = s.f e := (rfl)
@[simp] theorem State.setClu_on (c : Nat) (x : Clu) (e : Fd) : (s.setClu c x).on e = s.on e := (rfl)
@[simp] theorem State.setClu_hart (c : Nat) (x : Clu) (g : Nat) : (s.setClu c x).hart g = s.hart g := (rfl)
@[simp] theorem State.setClu_part (c : Nat) (x : Clu) (i : Nat) : (s.setClu c x).part i = s.part i := (rfl)
@[simp] theorem State.setClu_fld (c : Nat) (x : Clu) (i : Nat) : (s.setClu c x).fld i = s.fld i := (rfl)
@[simp] theorem State.setClu_sreg (c : Nat) (x : Clu) (g r : Nat) : (s.setClu c x).sreg g r = s.sreg g r := (rfl)
@[simp] theorem State.setClu_areg (c : Nat) (x : Clu) (g r : Nat) : (s.setClu c x).areg g r = s.areg g r := (rfl)
@[simp] theorem State.setClu_pred (c : Nat) (x : Clu) (g r : Nat) : (s.setClu c x).pred g r = s.pred g r := (rfl)
@[simp] theorem State.setClu_rd (c : Nat) (x : Clu) (b : Nat) : (s.setClu c x).rd b = s.rd b := (rfl)
@[simp] theorem State.setClu_now (c : Nat) (x : Clu) : (s.setClu c x).now = s.now := (rfl)
@[simp] theorem State.setClu_partOf (c : Nat) (x : Clu) (i : Nat) : (s.setClu c x).partOf i = s.partOf i := (rfl)
@[simp] theorem State.setClu_absent (c : Nat) (x : Clu) (i : Nat) : (s.setClu c x).absent i = s.absent i := (rfl)
@[simp] theorem State.setClu_poisoned (c : Nat) (x : Clu) (b m : Nat) : (s.setClu c x).poisoned b m = s.poisoned b m := (rfl)
@[simp] theorem State.setClu_tile (c : Nat) (x : Clu) (a b i : Nat) : (s.setClu c x).tile a b i = s.tile a b i := (rfl)
@[simp] theorem State.setClu_grain (c : Nat) (x : Clu) (a b i : Nat) : (s.setClu c x).grain a b i = s.grain a b i := (rfl)
@[simp] theorem State.setClu_stage (c : Nat) (x : Clu) (i : Nat) : (s.setClu c x).stage i = s.stage i := (rfl)
@[simp] theorem State.setClu_olink (c : Nat) (x : Clu) (i : Nat) : (s.setClu c x).olink i = s.olink i := (rfl)

/-! ### `modClu` -/

@[simp] theorem State.modClu_pending (c : Nat) (g : Clu → Clu) : (s.modClu c g).pending = s.pending := (rfl)
@[simp] theorem State.modClu_regs (c : Nat) (g : Clu → Clu) : (s.modClu c g).regs = s.regs := (rfl)
@[simp] theorem State.modClu_mem (c : Nat) (g : Clu → Clu) : (s.modClu c g).mem = s.mem := (rfl)
@[simp] theorem State.modClu_poison (c : Nat) (g : Clu → Clu) : (s.modClu c g).poison = s.poison := (rfl)
@[simp] theorem State.modClu_tiles (c : Nat) (g : Clu → Clu) : (s.modClu c g).tiles = s.tiles := (rfl)
@[simp] theorem State.modClu_planes (c : Nat) (g : Clu → Clu) : (s.modClu c g).planes = s.planes := (rfl)
@[simp] theorem State.modClu_grains (c : Nat) (g : Clu → Clu) : (s.modClu c g).grains = s.grains := (rfl)
@[simp] theorem State.modClu_harts (c : Nat) (g : Clu → Clu) : (s.modClu c g).harts = s.harts := (rfl)
@[simp] theorem State.modClu_parts (c : Nat) (g : Clu → Clu) : (s.modClu c g).parts = s.parts := (rfl)
@[simp] theorem State.modClu_flds (c : Nat) (g : Clu → Clu) : (s.modClu c g).flds = s.flds := (rfl)
@[simp] theorem State.modClu_vpm (c : Nat) (g : Clu → Clu) : (s.modClu c g).vpm = s.vpm := (rfl)
@[simp] theorem State.modClu_flits (c : Nat) (g : Clu → Clu) : (s.modClu c g).flits = s.flits := (rfl)
@[simp] theorem State.modClu_pkts (c : Nat) (g : Clu → Clu) : (s.modClu c g).pkts = s.pkts := (rfl)
@[simp] theorem State.modClu_rbucket (c : Nat) (g : Clu → Clu) : (s.modClu c g).rbucket = s.rbucket := (rfl)
@[simp] theorem State.modClu_rturn (c : Nat) (g : Clu → Clu) : (s.modClu c g).rturn = s.rturn := (rfl)
@[simp] theorem State.modClu_net (c : Nat) (g : Clu → Clu) : (s.modClu c g).net = s.net := (rfl)
@[simp] theorem State.modClu_vports (c : Nat) (g : Clu → Clu) : (s.modClu c g).vports = s.vports := (rfl)
@[simp] theorem State.modClu_octWait (c : Nat) (g : Clu → Clu) : (s.modClu c g).octWait = s.octWait := (rfl)
@[simp] theorem State.modClu_dtime (c : Nat) (g : Clu → Clu) : (s.modClu c g).dtime = s.dtime := (rfl)
@[simp] theorem State.modClu_ev (c : Nat) (g : Clu → Clu) : (s.modClu c g).ev = s.ev := (rfl)
@[simp] theorem State.modClu_tim (c : Nat) (g : Clu → Clu) : (s.modClu c g).tim = s.tim := (rfl)
@[simp] theorem State.modClu_barn (c : Nat) (g : Clu → Clu) : (s.modClu c g).barn = s.barn := (rfl)
@[simp] theorem State.modClu_olinks (c : Nat) (g : Clu → Clu) : (s.modClu c g).olinks = s.olinks := (rfl)
@[simp] theorem State.modClu_octIn (c : Nat) (g : Clu → Clu) : (s.modClu c g).octIn = s.octIn := (rfl)
@[simp] theorem State.modClu_remotes (c : Nat) (g : Clu → Clu) : (s.modClu c g).remotes = s.remotes := (rfl)
@[simp] theorem State.modClu_eth (c : Nat) (g : Clu → Clu) : (s.modClu c g).eth = s.eth := (rfl)
@[simp] theorem State.modClu_boot (c : Nat) (g : Clu → Clu) : (s.modClu c g).boot = s.boot := (rfl)
@[simp] theorem State.modClu_free (c : Nat) (g : Clu → Clu) : (s.modClu c g).free = s.free := (rfl)
@[simp] theorem State.modClu_f (c : Nat) (g : Clu → Clu) (e : Fd) : (s.modClu c g).f e = s.f e := (rfl)
@[simp] theorem State.modClu_on (c : Nat) (g : Clu → Clu) (e : Fd) : (s.modClu c g).on e = s.on e := (rfl)
@[simp] theorem State.modClu_hart (c : Nat) (g : Clu → Clu) (g' : Nat) : (s.modClu c g).hart g' = s.hart g' := (rfl)
@[simp] theorem State.modClu_part (c : Nat) (g : Clu → Clu) (i : Nat) : (s.modClu c g).part i = s.part i := (rfl)
@[simp] theorem State.modClu_fld (c : Nat) (g : Clu → Clu) (i : Nat) : (s.modClu c g).fld i = s.fld i := (rfl)
@[simp] theorem State.modClu_sreg (c : Nat) (g : Clu → Clu) (g' r : Nat) : (s.modClu c g).sreg g' r = s.sreg g' r := (rfl)
@[simp] theorem State.modClu_areg (c : Nat) (g : Clu → Clu) (g' r : Nat) : (s.modClu c g).areg g' r = s.areg g' r := (rfl)
@[simp] theorem State.modClu_pred (c : Nat) (g : Clu → Clu) (g' r : Nat) : (s.modClu c g).pred g' r = s.pred g' r := (rfl)
@[simp] theorem State.modClu_rd (c : Nat) (g : Clu → Clu) (b : Nat) : (s.modClu c g).rd b = s.rd b := (rfl)
@[simp] theorem State.modClu_now (c : Nat) (g : Clu → Clu) : (s.modClu c g).now = s.now := (rfl)
@[simp] theorem State.modClu_partOf (c : Nat) (g : Clu → Clu) (i : Nat) : (s.modClu c g).partOf i = s.partOf i := (rfl)
@[simp] theorem State.modClu_absent (c : Nat) (g : Clu → Clu) (i : Nat) : (s.modClu c g).absent i = s.absent i := (rfl)
@[simp] theorem State.modClu_poisoned (c : Nat) (g : Clu → Clu) (b m : Nat) : (s.modClu c g).poisoned b m = s.poisoned b m := (rfl)
@[simp] theorem State.modClu_tile (c : Nat) (g : Clu → Clu) (a b i : Nat) : (s.modClu c g).tile a b i = s.tile a b i := (rfl)
@[simp] theorem State.modClu_grain (c : Nat) (g : Clu → Clu) (a b i : Nat) : (s.modClu c g).grain a b i = s.grain a b i := (rfl)
@[simp] theorem State.modClu_stage (c : Nat) (g : Clu → Clu) (i : Nat) : (s.modClu c g).stage i = s.stage i := (rfl)
@[simp] theorem State.modClu_olink (c : Nat) (g : Clu → Clu) (i : Nat) : (s.modClu c g).olink i = s.olink i := (rfl)

/-! ### `setPart` -/

@[simp] theorem State.setPart_pending (p : Nat) (x : Part) : (s.setPart p x).pending = s.pending := (rfl)
@[simp] theorem State.setPart_regs (p : Nat) (x : Part) : (s.setPart p x).regs = s.regs := (rfl)
@[simp] theorem State.setPart_mem (p : Nat) (x : Part) : (s.setPart p x).mem = s.mem := (rfl)
@[simp] theorem State.setPart_poison (p : Nat) (x : Part) : (s.setPart p x).poison = s.poison := (rfl)
@[simp] theorem State.setPart_tiles (p : Nat) (x : Part) : (s.setPart p x).tiles = s.tiles := (rfl)
@[simp] theorem State.setPart_planes (p : Nat) (x : Part) : (s.setPart p x).planes = s.planes := (rfl)
@[simp] theorem State.setPart_grains (p : Nat) (x : Part) : (s.setPart p x).grains = s.grains := (rfl)
@[simp] theorem State.setPart_harts (p : Nat) (x : Part) : (s.setPart p x).harts = s.harts := (rfl)
@[simp] theorem State.setPart_clus (p : Nat) (x : Part) : (s.setPart p x).clus = s.clus := (rfl)
@[simp] theorem State.setPart_flds (p : Nat) (x : Part) : (s.setPart p x).flds = s.flds := (rfl)
@[simp] theorem State.setPart_vpm (p : Nat) (x : Part) : (s.setPart p x).vpm = s.vpm := (rfl)
@[simp] theorem State.setPart_flits (p : Nat) (x : Part) : (s.setPart p x).flits = s.flits := (rfl)
@[simp] theorem State.setPart_pkts (p : Nat) (x : Part) : (s.setPart p x).pkts = s.pkts := (rfl)
@[simp] theorem State.setPart_rbucket (p : Nat) (x : Part) : (s.setPart p x).rbucket = s.rbucket := (rfl)
@[simp] theorem State.setPart_rturn (p : Nat) (x : Part) : (s.setPart p x).rturn = s.rturn := (rfl)
@[simp] theorem State.setPart_net (p : Nat) (x : Part) : (s.setPart p x).net = s.net := (rfl)
@[simp] theorem State.setPart_vports (p : Nat) (x : Part) : (s.setPart p x).vports = s.vports := (rfl)
@[simp] theorem State.setPart_octWait (p : Nat) (x : Part) : (s.setPart p x).octWait = s.octWait := (rfl)
@[simp] theorem State.setPart_dtime (p : Nat) (x : Part) : (s.setPart p x).dtime = s.dtime := (rfl)
@[simp] theorem State.setPart_ev (p : Nat) (x : Part) : (s.setPart p x).ev = s.ev := (rfl)
@[simp] theorem State.setPart_tim (p : Nat) (x : Part) : (s.setPart p x).tim = s.tim := (rfl)
@[simp] theorem State.setPart_barn (p : Nat) (x : Part) : (s.setPart p x).barn = s.barn := (rfl)
@[simp] theorem State.setPart_olinks (p : Nat) (x : Part) : (s.setPart p x).olinks = s.olinks := (rfl)
@[simp] theorem State.setPart_octIn (p : Nat) (x : Part) : (s.setPart p x).octIn = s.octIn := (rfl)
@[simp] theorem State.setPart_remotes (p : Nat) (x : Part) : (s.setPart p x).remotes = s.remotes := (rfl)
@[simp] theorem State.setPart_eth (p : Nat) (x : Part) : (s.setPart p x).eth = s.eth := (rfl)
@[simp] theorem State.setPart_boot (p : Nat) (x : Part) : (s.setPart p x).boot = s.boot := (rfl)
@[simp] theorem State.setPart_free (p : Nat) (x : Part) : (s.setPart p x).free = s.free := (rfl)
@[simp] theorem State.setPart_f (p : Nat) (x : Part) (e : Fd) : (s.setPart p x).f e = s.f e := (rfl)
@[simp] theorem State.setPart_on (p : Nat) (x : Part) (e : Fd) : (s.setPart p x).on e = s.on e := (rfl)
@[simp] theorem State.setPart_hart (p : Nat) (x : Part) (g : Nat) : (s.setPart p x).hart g = s.hart g := (rfl)
@[simp] theorem State.setPart_clu (p : Nat) (x : Part) (i : Nat) : (s.setPart p x).clu i = s.clu i := (rfl)
@[simp] theorem State.setPart_fld (p : Nat) (x : Part) (i : Nat) : (s.setPart p x).fld i = s.fld i := (rfl)
@[simp] theorem State.setPart_sreg (p : Nat) (x : Part) (g r : Nat) : (s.setPart p x).sreg g r = s.sreg g r := (rfl)
@[simp] theorem State.setPart_areg (p : Nat) (x : Part) (g r : Nat) : (s.setPart p x).areg g r = s.areg g r := (rfl)
@[simp] theorem State.setPart_pred (p : Nat) (x : Part) (g r : Nat) : (s.setPart p x).pred g r = s.pred g r := (rfl)
@[simp] theorem State.setPart_rd (p : Nat) (x : Part) (b : Nat) : (s.setPart p x).rd b = s.rd b := (rfl)
@[simp] theorem State.setPart_copyU (p : Nat) (x : Part) (i : Nat) : (s.setPart p x).copyU i = s.copyU i := (rfl)
@[simp] theorem State.setPart_now (p : Nat) (x : Part) : (s.setPart p x).now = s.now := (rfl)
@[simp] theorem State.setPart_partOf (p : Nat) (x : Part) (i : Nat) : (s.setPart p x).partOf i = s.partOf i := (rfl)
@[simp] theorem State.setPart_absent (p : Nat) (x : Part) (i : Nat) : (s.setPart p x).absent i = s.absent i := (rfl)
@[simp] theorem State.setPart_poisoned (p : Nat) (x : Part) (b m : Nat) : (s.setPart p x).poisoned b m = s.poisoned b m := (rfl)
@[simp] theorem State.setPart_tile (p : Nat) (x : Part) (a b i : Nat) : (s.setPart p x).tile a b i = s.tile a b i := (rfl)
@[simp] theorem State.setPart_grain (p : Nat) (x : Part) (a b i : Nat) : (s.setPart p x).grain a b i = s.grain a b i := (rfl)
@[simp] theorem State.setPart_stage (p : Nat) (x : Part) (i : Nat) : (s.setPart p x).stage i = s.stage i := (rfl)
@[simp] theorem State.setPart_olink (p : Nat) (x : Part) (i : Nat) : (s.setPart p x).olink i = s.olink i := (rfl)

/-! ### `modPart` -/

@[simp] theorem State.modPart_pending (p : Nat) (g : Part → Part) : (s.modPart p g).pending = s.pending := (rfl)
@[simp] theorem State.modPart_regs (p : Nat) (g : Part → Part) : (s.modPart p g).regs = s.regs := (rfl)
@[simp] theorem State.modPart_mem (p : Nat) (g : Part → Part) : (s.modPart p g).mem = s.mem := (rfl)
@[simp] theorem State.modPart_poison (p : Nat) (g : Part → Part) : (s.modPart p g).poison = s.poison := (rfl)
@[simp] theorem State.modPart_tiles (p : Nat) (g : Part → Part) : (s.modPart p g).tiles = s.tiles := (rfl)
@[simp] theorem State.modPart_planes (p : Nat) (g : Part → Part) : (s.modPart p g).planes = s.planes := (rfl)
@[simp] theorem State.modPart_grains (p : Nat) (g : Part → Part) : (s.modPart p g).grains = s.grains := (rfl)
@[simp] theorem State.modPart_harts (p : Nat) (g : Part → Part) : (s.modPart p g).harts = s.harts := (rfl)
@[simp] theorem State.modPart_clus (p : Nat) (g : Part → Part) : (s.modPart p g).clus = s.clus := (rfl)
@[simp] theorem State.modPart_flds (p : Nat) (g : Part → Part) : (s.modPart p g).flds = s.flds := (rfl)
@[simp] theorem State.modPart_vpm (p : Nat) (g : Part → Part) : (s.modPart p g).vpm = s.vpm := (rfl)
@[simp] theorem State.modPart_flits (p : Nat) (g : Part → Part) : (s.modPart p g).flits = s.flits := (rfl)
@[simp] theorem State.modPart_pkts (p : Nat) (g : Part → Part) : (s.modPart p g).pkts = s.pkts := (rfl)
@[simp] theorem State.modPart_rbucket (p : Nat) (g : Part → Part) : (s.modPart p g).rbucket = s.rbucket := (rfl)
@[simp] theorem State.modPart_rturn (p : Nat) (g : Part → Part) : (s.modPart p g).rturn = s.rturn := (rfl)
@[simp] theorem State.modPart_net (p : Nat) (g : Part → Part) : (s.modPart p g).net = s.net := (rfl)
@[simp] theorem State.modPart_vports (p : Nat) (g : Part → Part) : (s.modPart p g).vports = s.vports := (rfl)
@[simp] theorem State.modPart_octWait (p : Nat) (g : Part → Part) : (s.modPart p g).octWait = s.octWait := (rfl)
@[simp] theorem State.modPart_dtime (p : Nat) (g : Part → Part) : (s.modPart p g).dtime = s.dtime := (rfl)
@[simp] theorem State.modPart_ev (p : Nat) (g : Part → Part) : (s.modPart p g).ev = s.ev := (rfl)
@[simp] theorem State.modPart_tim (p : Nat) (g : Part → Part) : (s.modPart p g).tim = s.tim := (rfl)
@[simp] theorem State.modPart_barn (p : Nat) (g : Part → Part) : (s.modPart p g).barn = s.barn := (rfl)
@[simp] theorem State.modPart_olinks (p : Nat) (g : Part → Part) : (s.modPart p g).olinks = s.olinks := (rfl)
@[simp] theorem State.modPart_octIn (p : Nat) (g : Part → Part) : (s.modPart p g).octIn = s.octIn := (rfl)
@[simp] theorem State.modPart_remotes (p : Nat) (g : Part → Part) : (s.modPart p g).remotes = s.remotes := (rfl)
@[simp] theorem State.modPart_eth (p : Nat) (g : Part → Part) : (s.modPart p g).eth = s.eth := (rfl)
@[simp] theorem State.modPart_boot (p : Nat) (g : Part → Part) : (s.modPart p g).boot = s.boot := (rfl)
@[simp] theorem State.modPart_free (p : Nat) (g : Part → Part) : (s.modPart p g).free = s.free := (rfl)
@[simp] theorem State.modPart_f (p : Nat) (g : Part → Part) (e : Fd) : (s.modPart p g).f e = s.f e := (rfl)
@[simp] theorem State.modPart_on (p : Nat) (g : Part → Part) (e : Fd) : (s.modPart p g).on e = s.on e := (rfl)
@[simp] theorem State.modPart_hart (p : Nat) (g : Part → Part) (g' : Nat) : (s.modPart p g).hart g' = s.hart g' := (rfl)
@[simp] theorem State.modPart_clu (p : Nat) (g : Part → Part) (i : Nat) : (s.modPart p g).clu i = s.clu i := (rfl)
@[simp] theorem State.modPart_fld (p : Nat) (g : Part → Part) (i : Nat) : (s.modPart p g).fld i = s.fld i := (rfl)
@[simp] theorem State.modPart_sreg (p : Nat) (g : Part → Part) (g' r : Nat) : (s.modPart p g).sreg g' r = s.sreg g' r := (rfl)
@[simp] theorem State.modPart_areg (p : Nat) (g : Part → Part) (g' r : Nat) : (s.modPart p g).areg g' r = s.areg g' r := (rfl)
@[simp] theorem State.modPart_pred (p : Nat) (g : Part → Part) (g' r : Nat) : (s.modPart p g).pred g' r = s.pred g' r := (rfl)
@[simp] theorem State.modPart_rd (p : Nat) (g : Part → Part) (b : Nat) : (s.modPart p g).rd b = s.rd b := (rfl)
@[simp] theorem State.modPart_copyU (p : Nat) (g : Part → Part) (i : Nat) : (s.modPart p g).copyU i = s.copyU i := (rfl)
@[simp] theorem State.modPart_now (p : Nat) (g : Part → Part) : (s.modPart p g).now = s.now := (rfl)
@[simp] theorem State.modPart_partOf (p : Nat) (g : Part → Part) (i : Nat) : (s.modPart p g).partOf i = s.partOf i := (rfl)
@[simp] theorem State.modPart_absent (p : Nat) (g : Part → Part) (i : Nat) : (s.modPart p g).absent i = s.absent i := (rfl)
@[simp] theorem State.modPart_poisoned (p : Nat) (g : Part → Part) (b m : Nat) : (s.modPart p g).poisoned b m = s.poisoned b m := (rfl)
@[simp] theorem State.modPart_tile (p : Nat) (g : Part → Part) (a b i : Nat) : (s.modPart p g).tile a b i = s.tile a b i := (rfl)
@[simp] theorem State.modPart_grain (p : Nat) (g : Part → Part) (a b i : Nat) : (s.modPart p g).grain a b i = s.grain a b i := (rfl)
@[simp] theorem State.modPart_stage (p : Nat) (g : Part → Part) (i : Nat) : (s.modPart p g).stage i = s.stage i := (rfl)
@[simp] theorem State.modPart_olink (p : Nat) (g : Part → Part) (i : Nat) : (s.modPart p g).olink i = s.olink i := (rfl)

/-! ### `setFld` -/

@[simp] theorem State.setFld_pending (f : Nat) (x : Fld) : (s.setFld f x).pending = s.pending := (rfl)
@[simp] theorem State.setFld_regs (f : Nat) (x : Fld) : (s.setFld f x).regs = s.regs := (rfl)
@[simp] theorem State.setFld_mem (f : Nat) (x : Fld) : (s.setFld f x).mem = s.mem := (rfl)
@[simp] theorem State.setFld_poison (f : Nat) (x : Fld) : (s.setFld f x).poison = s.poison := (rfl)
@[simp] theorem State.setFld_tiles (f : Nat) (x : Fld) : (s.setFld f x).tiles = s.tiles := (rfl)
@[simp] theorem State.setFld_planes (f : Nat) (x : Fld) : (s.setFld f x).planes = s.planes := (rfl)
@[simp] theorem State.setFld_grains (f : Nat) (x : Fld) : (s.setFld f x).grains = s.grains := (rfl)
@[simp] theorem State.setFld_harts (f : Nat) (x : Fld) : (s.setFld f x).harts = s.harts := (rfl)
@[simp] theorem State.setFld_clus (f : Nat) (x : Fld) : (s.setFld f x).clus = s.clus := (rfl)
@[simp] theorem State.setFld_parts (f : Nat) (x : Fld) : (s.setFld f x).parts = s.parts := (rfl)
@[simp] theorem State.setFld_vpm (f : Nat) (x : Fld) : (s.setFld f x).vpm = s.vpm := (rfl)
@[simp] theorem State.setFld_flits (f : Nat) (x : Fld) : (s.setFld f x).flits = s.flits := (rfl)
@[simp] theorem State.setFld_pkts (f : Nat) (x : Fld) : (s.setFld f x).pkts = s.pkts := (rfl)
@[simp] theorem State.setFld_rbucket (f : Nat) (x : Fld) : (s.setFld f x).rbucket = s.rbucket := (rfl)
@[simp] theorem State.setFld_rturn (f : Nat) (x : Fld) : (s.setFld f x).rturn = s.rturn := (rfl)
@[simp] theorem State.setFld_net (f : Nat) (x : Fld) : (s.setFld f x).net = s.net := (rfl)
@[simp] theorem State.setFld_vports (f : Nat) (x : Fld) : (s.setFld f x).vports = s.vports := (rfl)
@[simp] theorem State.setFld_octWait (f : Nat) (x : Fld) : (s.setFld f x).octWait = s.octWait := (rfl)
@[simp] theorem State.setFld_dtime (f : Nat) (x : Fld) : (s.setFld f x).dtime = s.dtime := (rfl)
@[simp] theorem State.setFld_ev (f : Nat) (x : Fld) : (s.setFld f x).ev = s.ev := (rfl)
@[simp] theorem State.setFld_tim (f : Nat) (x : Fld) : (s.setFld f x).tim = s.tim := (rfl)
@[simp] theorem State.setFld_barn (f : Nat) (x : Fld) : (s.setFld f x).barn = s.barn := (rfl)
@[simp] theorem State.setFld_olinks (f : Nat) (x : Fld) : (s.setFld f x).olinks = s.olinks := (rfl)
@[simp] theorem State.setFld_octIn (f : Nat) (x : Fld) : (s.setFld f x).octIn = s.octIn := (rfl)
@[simp] theorem State.setFld_remotes (f : Nat) (x : Fld) : (s.setFld f x).remotes = s.remotes := (rfl)
@[simp] theorem State.setFld_eth (f : Nat) (x : Fld) : (s.setFld f x).eth = s.eth := (rfl)
@[simp] theorem State.setFld_boot (f : Nat) (x : Fld) : (s.setFld f x).boot = s.boot := (rfl)
@[simp] theorem State.setFld_free (f : Nat) (x : Fld) : (s.setFld f x).free = s.free := (rfl)
@[simp] theorem State.setFld_f (f : Nat) (x : Fld) (e : Fd) : (s.setFld f x).f e = s.f e := (rfl)
@[simp] theorem State.setFld_on (f : Nat) (x : Fld) (e : Fd) : (s.setFld f x).on e = s.on e := (rfl)
@[simp] theorem State.setFld_hart (f : Nat) (x : Fld) (g : Nat) : (s.setFld f x).hart g = s.hart g := (rfl)
@[simp] theorem State.setFld_clu (f : Nat) (x : Fld) (i : Nat) : (s.setFld f x).clu i = s.clu i := (rfl)
@[simp] theorem State.setFld_part (f : Nat) (x : Fld) (i : Nat) : (s.setFld f x).part i = s.part i := (rfl)
@[simp] theorem State.setFld_sreg (f : Nat) (x : Fld) (g r : Nat) : (s.setFld f x).sreg g r = s.sreg g r := (rfl)
@[simp] theorem State.setFld_areg (f : Nat) (x : Fld) (g r : Nat) : (s.setFld f x).areg g r = s.areg g r := (rfl)
@[simp] theorem State.setFld_pred (f : Nat) (x : Fld) (g r : Nat) : (s.setFld f x).pred g r = s.pred g r := (rfl)
@[simp] theorem State.setFld_rd (f : Nat) (x : Fld) (b : Nat) : (s.setFld f x).rd b = s.rd b := (rfl)
@[simp] theorem State.setFld_copyU (f : Nat) (x : Fld) (i : Nat) : (s.setFld f x).copyU i = s.copyU i := (rfl)
@[simp] theorem State.setFld_now (f : Nat) (x : Fld) : (s.setFld f x).now = s.now := (rfl)
@[simp] theorem State.setFld_partOf (f : Nat) (x : Fld) (i : Nat) : (s.setFld f x).partOf i = s.partOf i := (rfl)
@[simp] theorem State.setFld_absent (f : Nat) (x : Fld) (i : Nat) : (s.setFld f x).absent i = s.absent i := (rfl)
@[simp] theorem State.setFld_poisoned (f : Nat) (x : Fld) (b m : Nat) : (s.setFld f x).poisoned b m = s.poisoned b m := (rfl)
@[simp] theorem State.setFld_tile (f : Nat) (x : Fld) (a b i : Nat) : (s.setFld f x).tile a b i = s.tile a b i := (rfl)
@[simp] theorem State.setFld_grain (f : Nat) (x : Fld) (a b i : Nat) : (s.setFld f x).grain a b i = s.grain a b i := (rfl)
@[simp] theorem State.setFld_stage (f : Nat) (x : Fld) (i : Nat) : (s.setFld f x).stage i = s.stage i := (rfl)
@[simp] theorem State.setFld_olink (f : Nat) (x : Fld) (i : Nat) : (s.setFld f x).olink i = s.olink i := (rfl)

/-! ### `modFld` -/

@[simp] theorem State.modFld_pending (f : Nat) (g : Fld → Fld) : (s.modFld f g).pending = s.pending := (rfl)
@[simp] theorem State.modFld_regs (f : Nat) (g : Fld → Fld) : (s.modFld f g).regs = s.regs := (rfl)
@[simp] theorem State.modFld_mem (f : Nat) (g : Fld → Fld) : (s.modFld f g).mem = s.mem := (rfl)
@[simp] theorem State.modFld_poison (f : Nat) (g : Fld → Fld) : (s.modFld f g).poison = s.poison := (rfl)
@[simp] theorem State.modFld_tiles (f : Nat) (g : Fld → Fld) : (s.modFld f g).tiles = s.tiles := (rfl)
@[simp] theorem State.modFld_planes (f : Nat) (g : Fld → Fld) : (s.modFld f g).planes = s.planes := (rfl)
@[simp] theorem State.modFld_grains (f : Nat) (g : Fld → Fld) : (s.modFld f g).grains = s.grains := (rfl)
@[simp] theorem State.modFld_harts (f : Nat) (g : Fld → Fld) : (s.modFld f g).harts = s.harts := (rfl)
@[simp] theorem State.modFld_clus (f : Nat) (g : Fld → Fld) : (s.modFld f g).clus = s.clus := (rfl)
@[simp] theorem State.modFld_parts (f : Nat) (g : Fld → Fld) : (s.modFld f g).parts = s.parts := (rfl)
@[simp] theorem State.modFld_vpm (f : Nat) (g : Fld → Fld) : (s.modFld f g).vpm = s.vpm := (rfl)
@[simp] theorem State.modFld_flits (f : Nat) (g : Fld → Fld) : (s.modFld f g).flits = s.flits := (rfl)
@[simp] theorem State.modFld_pkts (f : Nat) (g : Fld → Fld) : (s.modFld f g).pkts = s.pkts := (rfl)
@[simp] theorem State.modFld_rbucket (f : Nat) (g : Fld → Fld) : (s.modFld f g).rbucket = s.rbucket := (rfl)
@[simp] theorem State.modFld_rturn (f : Nat) (g : Fld → Fld) : (s.modFld f g).rturn = s.rturn := (rfl)
@[simp] theorem State.modFld_net (f : Nat) (g : Fld → Fld) : (s.modFld f g).net = s.net := (rfl)
@[simp] theorem State.modFld_vports (f : Nat) (g : Fld → Fld) : (s.modFld f g).vports = s.vports := (rfl)
@[simp] theorem State.modFld_octWait (f : Nat) (g : Fld → Fld) : (s.modFld f g).octWait = s.octWait := (rfl)
@[simp] theorem State.modFld_dtime (f : Nat) (g : Fld → Fld) : (s.modFld f g).dtime = s.dtime := (rfl)
@[simp] theorem State.modFld_ev (f : Nat) (g : Fld → Fld) : (s.modFld f g).ev = s.ev := (rfl)
@[simp] theorem State.modFld_tim (f : Nat) (g : Fld → Fld) : (s.modFld f g).tim = s.tim := (rfl)
@[simp] theorem State.modFld_barn (f : Nat) (g : Fld → Fld) : (s.modFld f g).barn = s.barn := (rfl)
@[simp] theorem State.modFld_olinks (f : Nat) (g : Fld → Fld) : (s.modFld f g).olinks = s.olinks := (rfl)
@[simp] theorem State.modFld_octIn (f : Nat) (g : Fld → Fld) : (s.modFld f g).octIn = s.octIn := (rfl)
@[simp] theorem State.modFld_remotes (f : Nat) (g : Fld → Fld) : (s.modFld f g).remotes = s.remotes := (rfl)
@[simp] theorem State.modFld_eth (f : Nat) (g : Fld → Fld) : (s.modFld f g).eth = s.eth := (rfl)
@[simp] theorem State.modFld_boot (f : Nat) (g : Fld → Fld) : (s.modFld f g).boot = s.boot := (rfl)
@[simp] theorem State.modFld_free (f : Nat) (g : Fld → Fld) : (s.modFld f g).free = s.free := (rfl)
@[simp] theorem State.modFld_f (f : Nat) (g : Fld → Fld) (e : Fd) : (s.modFld f g).f e = s.f e := (rfl)
@[simp] theorem State.modFld_on (f : Nat) (g : Fld → Fld) (e : Fd) : (s.modFld f g).on e = s.on e := (rfl)
@[simp] theorem State.modFld_hart (f : Nat) (g : Fld → Fld) (g' : Nat) : (s.modFld f g).hart g' = s.hart g' := (rfl)
@[simp] theorem State.modFld_clu (f : Nat) (g : Fld → Fld) (i : Nat) : (s.modFld f g).clu i = s.clu i := (rfl)
@[simp] theorem State.modFld_part (f : Nat) (g : Fld → Fld) (i : Nat) : (s.modFld f g).part i = s.part i := (rfl)
@[simp] theorem State.modFld_sreg (f : Nat) (g : Fld → Fld) (g' r : Nat) : (s.modFld f g).sreg g' r = s.sreg g' r := (rfl)
@[simp] theorem State.modFld_areg (f : Nat) (g : Fld → Fld) (g' r : Nat) : (s.modFld f g).areg g' r = s.areg g' r := (rfl)
@[simp] theorem State.modFld_pred (f : Nat) (g : Fld → Fld) (g' r : Nat) : (s.modFld f g).pred g' r = s.pred g' r := (rfl)
@[simp] theorem State.modFld_rd (f : Nat) (g : Fld → Fld) (b : Nat) : (s.modFld f g).rd b = s.rd b := (rfl)
@[simp] theorem State.modFld_copyU (f : Nat) (g : Fld → Fld) (i : Nat) : (s.modFld f g).copyU i = s.copyU i := (rfl)
@[simp] theorem State.modFld_now (f : Nat) (g : Fld → Fld) : (s.modFld f g).now = s.now := (rfl)
@[simp] theorem State.modFld_partOf (f : Nat) (g : Fld → Fld) (i : Nat) : (s.modFld f g).partOf i = s.partOf i := (rfl)
@[simp] theorem State.modFld_absent (f : Nat) (g : Fld → Fld) (i : Nat) : (s.modFld f g).absent i = s.absent i := (rfl)
@[simp] theorem State.modFld_poisoned (f : Nat) (g : Fld → Fld) (b m : Nat) : (s.modFld f g).poisoned b m = s.poisoned b m := (rfl)
@[simp] theorem State.modFld_tile (f : Nat) (g : Fld → Fld) (a b i : Nat) : (s.modFld f g).tile a b i = s.tile a b i := (rfl)
@[simp] theorem State.modFld_grain (f : Nat) (g : Fld → Fld) (a b i : Nat) : (s.modFld f g).grain a b i = s.grain a b i := (rfl)
@[simp] theorem State.modFld_stage (f : Nat) (g : Fld → Fld) (i : Nat) : (s.modFld f g).stage i = s.stage i := (rfl)
@[simp] theorem State.modFld_olink (f : Nat) (g : Fld → Fld) (i : Nat) : (s.modFld f g).olink i = s.olink i := (rfl)

/-! ### `advanceTo` -/

@[simp] theorem State.advanceTo_pending (t : Nat) : (s.advanceTo t).pending = s.pending := (rfl)
@[simp] theorem State.advanceTo_regs (t : Nat) : (s.advanceTo t).regs = s.regs := (rfl)
@[simp] theorem State.advanceTo_mem (t : Nat) : (s.advanceTo t).mem = s.mem := (rfl)
@[simp] theorem State.advanceTo_poison (t : Nat) : (s.advanceTo t).poison = s.poison := (rfl)
@[simp] theorem State.advanceTo_tiles (t : Nat) : (s.advanceTo t).tiles = s.tiles := (rfl)
@[simp] theorem State.advanceTo_planes (t : Nat) : (s.advanceTo t).planes = s.planes := (rfl)
@[simp] theorem State.advanceTo_grains (t : Nat) : (s.advanceTo t).grains = s.grains := (rfl)
@[simp] theorem State.advanceTo_harts (t : Nat) : (s.advanceTo t).harts = s.harts := (rfl)
@[simp] theorem State.advanceTo_clus (t : Nat) : (s.advanceTo t).clus = s.clus := (rfl)
@[simp] theorem State.advanceTo_parts (t : Nat) : (s.advanceTo t).parts = s.parts := (rfl)
@[simp] theorem State.advanceTo_flds (t : Nat) : (s.advanceTo t).flds = s.flds := (rfl)
@[simp] theorem State.advanceTo_vpm (t : Nat) : (s.advanceTo t).vpm = s.vpm := (rfl)
@[simp] theorem State.advanceTo_flits (t : Nat) : (s.advanceTo t).flits = s.flits := (rfl)
@[simp] theorem State.advanceTo_pkts (t : Nat) : (s.advanceTo t).pkts = s.pkts := (rfl)
@[simp] theorem State.advanceTo_rbucket (t : Nat) : (s.advanceTo t).rbucket = s.rbucket := (rfl)
@[simp] theorem State.advanceTo_rturn (t : Nat) : (s.advanceTo t).rturn = s.rturn := (rfl)
@[simp] theorem State.advanceTo_net (t : Nat) : (s.advanceTo t).net = s.net := (rfl)
@[simp] theorem State.advanceTo_vports (t : Nat) : (s.advanceTo t).vports = s.vports := (rfl)
@[simp] theorem State.advanceTo_octWait (t : Nat) : (s.advanceTo t).octWait = s.octWait := (rfl)
@[simp] theorem State.advanceTo_ev (t : Nat) : (s.advanceTo t).ev = s.ev := (rfl)
@[simp] theorem State.advanceTo_tim (t : Nat) : (s.advanceTo t).tim = s.tim := (rfl)
@[simp] theorem State.advanceTo_barn (t : Nat) : (s.advanceTo t).barn = s.barn := (rfl)
@[simp] theorem State.advanceTo_olinks (t : Nat) : (s.advanceTo t).olinks = s.olinks := (rfl)
@[simp] theorem State.advanceTo_octIn (t : Nat) : (s.advanceTo t).octIn = s.octIn := (rfl)
@[simp] theorem State.advanceTo_remotes (t : Nat) : (s.advanceTo t).remotes = s.remotes := (rfl)
@[simp] theorem State.advanceTo_eth (t : Nat) : (s.advanceTo t).eth = s.eth := (rfl)
@[simp] theorem State.advanceTo_boot (t : Nat) : (s.advanceTo t).boot = s.boot := (rfl)
@[simp] theorem State.advanceTo_free (t : Nat) : (s.advanceTo t).free = s.free := (rfl)
@[simp] theorem State.advanceTo_f (t : Nat) (e : Fd) : (s.advanceTo t).f e = s.f e := (rfl)
@[simp] theorem State.advanceTo_on (t : Nat) (e : Fd) : (s.advanceTo t).on e = s.on e := (rfl)
@[simp] theorem State.advanceTo_hart (t : Nat) (g : Nat) : (s.advanceTo t).hart g = s.hart g := (rfl)
@[simp] theorem State.advanceTo_clu (t : Nat) (i : Nat) : (s.advanceTo t).clu i = s.clu i := (rfl)
@[simp] theorem State.advanceTo_part (t : Nat) (i : Nat) : (s.advanceTo t).part i = s.part i := (rfl)
@[simp] theorem State.advanceTo_fld (t : Nat) (i : Nat) : (s.advanceTo t).fld i = s.fld i := (rfl)
@[simp] theorem State.advanceTo_sreg (t : Nat) (g r : Nat) : (s.advanceTo t).sreg g r = s.sreg g r := (rfl)
@[simp] theorem State.advanceTo_areg (t : Nat) (g r : Nat) : (s.advanceTo t).areg g r = s.areg g r := (rfl)
@[simp] theorem State.advanceTo_pred (t : Nat) (g r : Nat) : (s.advanceTo t).pred g r = s.pred g r := (rfl)
@[simp] theorem State.advanceTo_rd (t : Nat) (b : Nat) : (s.advanceTo t).rd b = s.rd b := (rfl)
@[simp] theorem State.advanceTo_partOf (t : Nat) (i : Nat) : (s.advanceTo t).partOf i = s.partOf i := (rfl)
@[simp] theorem State.advanceTo_absent (t : Nat) (i : Nat) : (s.advanceTo t).absent i = s.absent i := (rfl)
@[simp] theorem State.advanceTo_poisoned (t : Nat) (b m : Nat) : (s.advanceTo t).poisoned b m = s.poisoned b m := (rfl)
@[simp] theorem State.advanceTo_tile (t : Nat) (a b i : Nat) : (s.advanceTo t).tile a b i = s.tile a b i := (rfl)
@[simp] theorem State.advanceTo_grain (t : Nat) (a b i : Nat) : (s.advanceTo t).grain a b i = s.grain a b i := (rfl)
@[simp] theorem State.advanceTo_stage (t : Nat) (i : Nat) : (s.advanceTo t).stage i = s.stage i := (rfl)
@[simp] theorem State.advanceTo_olink (t : Nat) (i : Nat) : (s.advanceTo t).olink i = s.olink i := (rfl)

/-! ### `setVpm` -/

@[simp] theorem State.setVpm_pending (g : Vpm → Vpm) : (s.setVpm g).pending = s.pending := (rfl)
@[simp] theorem State.setVpm_regs (g : Vpm → Vpm) : (s.setVpm g).regs = s.regs := (rfl)
@[simp] theorem State.setVpm_mem (g : Vpm → Vpm) : (s.setVpm g).mem = s.mem := (rfl)
@[simp] theorem State.setVpm_poison (g : Vpm → Vpm) : (s.setVpm g).poison = s.poison := (rfl)
@[simp] theorem State.setVpm_tiles (g : Vpm → Vpm) : (s.setVpm g).tiles = s.tiles := (rfl)
@[simp] theorem State.setVpm_planes (g : Vpm → Vpm) : (s.setVpm g).planes = s.planes := (rfl)
@[simp] theorem State.setVpm_grains (g : Vpm → Vpm) : (s.setVpm g).grains = s.grains := (rfl)
@[simp] theorem State.setVpm_harts (g : Vpm → Vpm) : (s.setVpm g).harts = s.harts := (rfl)
@[simp] theorem State.setVpm_clus (g : Vpm → Vpm) : (s.setVpm g).clus = s.clus := (rfl)
@[simp] theorem State.setVpm_parts (g : Vpm → Vpm) : (s.setVpm g).parts = s.parts := (rfl)
@[simp] theorem State.setVpm_flds (g : Vpm → Vpm) : (s.setVpm g).flds = s.flds := (rfl)
@[simp] theorem State.setVpm_flits (g : Vpm → Vpm) : (s.setVpm g).flits = s.flits := (rfl)
@[simp] theorem State.setVpm_pkts (g : Vpm → Vpm) : (s.setVpm g).pkts = s.pkts := (rfl)
@[simp] theorem State.setVpm_rbucket (g : Vpm → Vpm) : (s.setVpm g).rbucket = s.rbucket := (rfl)
@[simp] theorem State.setVpm_rturn (g : Vpm → Vpm) : (s.setVpm g).rturn = s.rturn := (rfl)
@[simp] theorem State.setVpm_net (g : Vpm → Vpm) : (s.setVpm g).net = s.net := (rfl)
@[simp] theorem State.setVpm_vports (g : Vpm → Vpm) : (s.setVpm g).vports = s.vports := (rfl)
@[simp] theorem State.setVpm_octWait (g : Vpm → Vpm) : (s.setVpm g).octWait = s.octWait := (rfl)
@[simp] theorem State.setVpm_dtime (g : Vpm → Vpm) : (s.setVpm g).dtime = s.dtime := (rfl)
@[simp] theorem State.setVpm_ev (g : Vpm → Vpm) : (s.setVpm g).ev = s.ev := (rfl)
@[simp] theorem State.setVpm_tim (g : Vpm → Vpm) : (s.setVpm g).tim = s.tim := (rfl)
@[simp] theorem State.setVpm_barn (g : Vpm → Vpm) : (s.setVpm g).barn = s.barn := (rfl)
@[simp] theorem State.setVpm_olinks (g : Vpm → Vpm) : (s.setVpm g).olinks = s.olinks := (rfl)
@[simp] theorem State.setVpm_octIn (g : Vpm → Vpm) : (s.setVpm g).octIn = s.octIn := (rfl)
@[simp] theorem State.setVpm_remotes (g : Vpm → Vpm) : (s.setVpm g).remotes = s.remotes := (rfl)
@[simp] theorem State.setVpm_eth (g : Vpm → Vpm) : (s.setVpm g).eth = s.eth := (rfl)
@[simp] theorem State.setVpm_boot (g : Vpm → Vpm) : (s.setVpm g).boot = s.boot := (rfl)
@[simp] theorem State.setVpm_free (g : Vpm → Vpm) : (s.setVpm g).free = s.free := (rfl)
@[simp] theorem State.setVpm_f (g : Vpm → Vpm) (e : Fd) : (s.setVpm g).f e = s.f e := (rfl)
@[simp] theorem State.setVpm_on (g : Vpm → Vpm) (e : Fd) : (s.setVpm g).on e = s.on e := (rfl)
@[simp] theorem State.setVpm_hart (g : Vpm → Vpm) (g' : Nat) : (s.setVpm g).hart g' = s.hart g' := (rfl)
@[simp] theorem State.setVpm_clu (g : Vpm → Vpm) (i : Nat) : (s.setVpm g).clu i = s.clu i := (rfl)
@[simp] theorem State.setVpm_part (g : Vpm → Vpm) (i : Nat) : (s.setVpm g).part i = s.part i := (rfl)
@[simp] theorem State.setVpm_fld (g : Vpm → Vpm) (i : Nat) : (s.setVpm g).fld i = s.fld i := (rfl)
@[simp] theorem State.setVpm_sreg (g : Vpm → Vpm) (g' r : Nat) : (s.setVpm g).sreg g' r = s.sreg g' r := (rfl)
@[simp] theorem State.setVpm_areg (g : Vpm → Vpm) (g' r : Nat) : (s.setVpm g).areg g' r = s.areg g' r := (rfl)
@[simp] theorem State.setVpm_pred (g : Vpm → Vpm) (g' r : Nat) : (s.setVpm g).pred g' r = s.pred g' r := (rfl)
@[simp] theorem State.setVpm_rd (g : Vpm → Vpm) (b : Nat) : (s.setVpm g).rd b = s.rd b := (rfl)
@[simp] theorem State.setVpm_copyU (g : Vpm → Vpm) (i : Nat) : (s.setVpm g).copyU i = s.copyU i := (rfl)
@[simp] theorem State.setVpm_now (g : Vpm → Vpm) : (s.setVpm g).now = s.now := (rfl)
@[simp] theorem State.setVpm_partOf (g : Vpm → Vpm) (i : Nat) : (s.setVpm g).partOf i = s.partOf i := (rfl)
@[simp] theorem State.setVpm_absent (g : Vpm → Vpm) (i : Nat) : (s.setVpm g).absent i = s.absent i := (rfl)
@[simp] theorem State.setVpm_poisoned (g : Vpm → Vpm) (b m : Nat) : (s.setVpm g).poisoned b m = s.poisoned b m := (rfl)
@[simp] theorem State.setVpm_tile (g : Vpm → Vpm) (a b i : Nat) : (s.setVpm g).tile a b i = s.tile a b i := (rfl)
@[simp] theorem State.setVpm_grain (g : Vpm → Vpm) (a b i : Nat) : (s.setVpm g).grain a b i = s.grain a b i := (rfl)
@[simp] theorem State.setVpm_stage (g : Vpm → Vpm) (i : Nat) : (s.setVpm g).stage i = s.stage i := (rfl)
@[simp] theorem State.setVpm_olink (g : Vpm → Vpm) (i : Nat) : (s.setVpm g).olink i = s.olink i := (rfl)

/-! ### `modEth` -/

@[simp] theorem State.modEth_pending (g : Eth → Eth) : (s.modEth g).pending = s.pending := (rfl)
@[simp] theorem State.modEth_regs (g : Eth → Eth) : (s.modEth g).regs = s.regs := (rfl)
@[simp] theorem State.modEth_mem (g : Eth → Eth) : (s.modEth g).mem = s.mem := (rfl)
@[simp] theorem State.modEth_poison (g : Eth → Eth) : (s.modEth g).poison = s.poison := (rfl)
@[simp] theorem State.modEth_tiles (g : Eth → Eth) : (s.modEth g).tiles = s.tiles := (rfl)
@[simp] theorem State.modEth_planes (g : Eth → Eth) : (s.modEth g).planes = s.planes := (rfl)
@[simp] theorem State.modEth_grains (g : Eth → Eth) : (s.modEth g).grains = s.grains := (rfl)
@[simp] theorem State.modEth_harts (g : Eth → Eth) : (s.modEth g).harts = s.harts := (rfl)
@[simp] theorem State.modEth_clus (g : Eth → Eth) : (s.modEth g).clus = s.clus := (rfl)
@[simp] theorem State.modEth_parts (g : Eth → Eth) : (s.modEth g).parts = s.parts := (rfl)
@[simp] theorem State.modEth_flds (g : Eth → Eth) : (s.modEth g).flds = s.flds := (rfl)
@[simp] theorem State.modEth_vpm (g : Eth → Eth) : (s.modEth g).vpm = s.vpm := (rfl)
@[simp] theorem State.modEth_flits (g : Eth → Eth) : (s.modEth g).flits = s.flits := (rfl)
@[simp] theorem State.modEth_pkts (g : Eth → Eth) : (s.modEth g).pkts = s.pkts := (rfl)
@[simp] theorem State.modEth_rbucket (g : Eth → Eth) : (s.modEth g).rbucket = s.rbucket := (rfl)
@[simp] theorem State.modEth_rturn (g : Eth → Eth) : (s.modEth g).rturn = s.rturn := (rfl)
@[simp] theorem State.modEth_net (g : Eth → Eth) : (s.modEth g).net = s.net := (rfl)
@[simp] theorem State.modEth_vports (g : Eth → Eth) : (s.modEth g).vports = s.vports := (rfl)
@[simp] theorem State.modEth_octWait (g : Eth → Eth) : (s.modEth g).octWait = s.octWait := (rfl)
@[simp] theorem State.modEth_dtime (g : Eth → Eth) : (s.modEth g).dtime = s.dtime := (rfl)
@[simp] theorem State.modEth_ev (g : Eth → Eth) : (s.modEth g).ev = s.ev := (rfl)
@[simp] theorem State.modEth_tim (g : Eth → Eth) : (s.modEth g).tim = s.tim := (rfl)
@[simp] theorem State.modEth_barn (g : Eth → Eth) : (s.modEth g).barn = s.barn := (rfl)
@[simp] theorem State.modEth_olinks (g : Eth → Eth) : (s.modEth g).olinks = s.olinks := (rfl)
@[simp] theorem State.modEth_octIn (g : Eth → Eth) : (s.modEth g).octIn = s.octIn := (rfl)
@[simp] theorem State.modEth_remotes (g : Eth → Eth) : (s.modEth g).remotes = s.remotes := (rfl)
@[simp] theorem State.modEth_boot (g : Eth → Eth) : (s.modEth g).boot = s.boot := (rfl)
@[simp] theorem State.modEth_free (g : Eth → Eth) : (s.modEth g).free = s.free := (rfl)
@[simp] theorem State.modEth_f (g : Eth → Eth) (e : Fd) : (s.modEth g).f e = s.f e := (rfl)
@[simp] theorem State.modEth_on (g : Eth → Eth) (e : Fd) : (s.modEth g).on e = s.on e := (rfl)
@[simp] theorem State.modEth_hart (g : Eth → Eth) (g' : Nat) : (s.modEth g).hart g' = s.hart g' := (rfl)
@[simp] theorem State.modEth_clu (g : Eth → Eth) (i : Nat) : (s.modEth g).clu i = s.clu i := (rfl)
@[simp] theorem State.modEth_part (g : Eth → Eth) (i : Nat) : (s.modEth g).part i = s.part i := (rfl)
@[simp] theorem State.modEth_fld (g : Eth → Eth) (i : Nat) : (s.modEth g).fld i = s.fld i := (rfl)
@[simp] theorem State.modEth_sreg (g : Eth → Eth) (g' r : Nat) : (s.modEth g).sreg g' r = s.sreg g' r := (rfl)
@[simp] theorem State.modEth_areg (g : Eth → Eth) (g' r : Nat) : (s.modEth g).areg g' r = s.areg g' r := (rfl)
@[simp] theorem State.modEth_pred (g : Eth → Eth) (g' r : Nat) : (s.modEth g).pred g' r = s.pred g' r := (rfl)
@[simp] theorem State.modEth_rd (g : Eth → Eth) (b : Nat) : (s.modEth g).rd b = s.rd b := (rfl)
@[simp] theorem State.modEth_copyU (g : Eth → Eth) (i : Nat) : (s.modEth g).copyU i = s.copyU i := (rfl)
@[simp] theorem State.modEth_now (g : Eth → Eth) : (s.modEth g).now = s.now := (rfl)
@[simp] theorem State.modEth_partOf (g : Eth → Eth) (i : Nat) : (s.modEth g).partOf i = s.partOf i := (rfl)
@[simp] theorem State.modEth_absent (g : Eth → Eth) (i : Nat) : (s.modEth g).absent i = s.absent i := (rfl)
@[simp] theorem State.modEth_poisoned (g : Eth → Eth) (b m : Nat) : (s.modEth g).poisoned b m = s.poisoned b m := (rfl)
@[simp] theorem State.modEth_tile (g : Eth → Eth) (a b i : Nat) : (s.modEth g).tile a b i = s.tile a b i := (rfl)
@[simp] theorem State.modEth_grain (g : Eth → Eth) (a b i : Nat) : (s.modEth g).grain a b i = s.grain a b i := (rfl)
@[simp] theorem State.modEth_stage (g : Eth → Eth) (i : Nat) : (s.modEth g).stage i = s.stage i := (rfl)
@[simp] theorem State.modEth_olink (g : Eth → Eth) (i : Nat) : (s.modEth g).olink i = s.olink i := (rfl)

/-! ### `modBoot` -/

@[simp] theorem State.modBoot_pending (g : Boot → Boot) : (s.modBoot g).pending = s.pending := (rfl)
@[simp] theorem State.modBoot_regs (g : Boot → Boot) : (s.modBoot g).regs = s.regs := (rfl)
@[simp] theorem State.modBoot_mem (g : Boot → Boot) : (s.modBoot g).mem = s.mem := (rfl)
@[simp] theorem State.modBoot_poison (g : Boot → Boot) : (s.modBoot g).poison = s.poison := (rfl)
@[simp] theorem State.modBoot_tiles (g : Boot → Boot) : (s.modBoot g).tiles = s.tiles := (rfl)
@[simp] theorem State.modBoot_planes (g : Boot → Boot) : (s.modBoot g).planes = s.planes := (rfl)
@[simp] theorem State.modBoot_grains (g : Boot → Boot) : (s.modBoot g).grains = s.grains := (rfl)
@[simp] theorem State.modBoot_harts (g : Boot → Boot) : (s.modBoot g).harts = s.harts := (rfl)
@[simp] theorem State.modBoot_clus (g : Boot → Boot) : (s.modBoot g).clus = s.clus := (rfl)
@[simp] theorem State.modBoot_parts (g : Boot → Boot) : (s.modBoot g).parts = s.parts := (rfl)
@[simp] theorem State.modBoot_flds (g : Boot → Boot) : (s.modBoot g).flds = s.flds := (rfl)
@[simp] theorem State.modBoot_vpm (g : Boot → Boot) : (s.modBoot g).vpm = s.vpm := (rfl)
@[simp] theorem State.modBoot_flits (g : Boot → Boot) : (s.modBoot g).flits = s.flits := (rfl)
@[simp] theorem State.modBoot_pkts (g : Boot → Boot) : (s.modBoot g).pkts = s.pkts := (rfl)
@[simp] theorem State.modBoot_rbucket (g : Boot → Boot) : (s.modBoot g).rbucket = s.rbucket := (rfl)
@[simp] theorem State.modBoot_rturn (g : Boot → Boot) : (s.modBoot g).rturn = s.rturn := (rfl)
@[simp] theorem State.modBoot_net (g : Boot → Boot) : (s.modBoot g).net = s.net := (rfl)
@[simp] theorem State.modBoot_vports (g : Boot → Boot) : (s.modBoot g).vports = s.vports := (rfl)
@[simp] theorem State.modBoot_octWait (g : Boot → Boot) : (s.modBoot g).octWait = s.octWait := (rfl)
@[simp] theorem State.modBoot_dtime (g : Boot → Boot) : (s.modBoot g).dtime = s.dtime := (rfl)
@[simp] theorem State.modBoot_ev (g : Boot → Boot) : (s.modBoot g).ev = s.ev := (rfl)
@[simp] theorem State.modBoot_tim (g : Boot → Boot) : (s.modBoot g).tim = s.tim := (rfl)
@[simp] theorem State.modBoot_barn (g : Boot → Boot) : (s.modBoot g).barn = s.barn := (rfl)
@[simp] theorem State.modBoot_olinks (g : Boot → Boot) : (s.modBoot g).olinks = s.olinks := (rfl)
@[simp] theorem State.modBoot_octIn (g : Boot → Boot) : (s.modBoot g).octIn = s.octIn := (rfl)
@[simp] theorem State.modBoot_remotes (g : Boot → Boot) : (s.modBoot g).remotes = s.remotes := (rfl)
@[simp] theorem State.modBoot_eth (g : Boot → Boot) : (s.modBoot g).eth = s.eth := (rfl)
@[simp] theorem State.modBoot_free (g : Boot → Boot) : (s.modBoot g).free = s.free := (rfl)
@[simp] theorem State.modBoot_f (g : Boot → Boot) (e : Fd) : (s.modBoot g).f e = s.f e := (rfl)
@[simp] theorem State.modBoot_on (g : Boot → Boot) (e : Fd) : (s.modBoot g).on e = s.on e := (rfl)
@[simp] theorem State.modBoot_hart (g : Boot → Boot) (g' : Nat) : (s.modBoot g).hart g' = s.hart g' := (rfl)
@[simp] theorem State.modBoot_clu (g : Boot → Boot) (i : Nat) : (s.modBoot g).clu i = s.clu i := (rfl)
@[simp] theorem State.modBoot_part (g : Boot → Boot) (i : Nat) : (s.modBoot g).part i = s.part i := (rfl)
@[simp] theorem State.modBoot_fld (g : Boot → Boot) (i : Nat) : (s.modBoot g).fld i = s.fld i := (rfl)
@[simp] theorem State.modBoot_sreg (g : Boot → Boot) (g' r : Nat) : (s.modBoot g).sreg g' r = s.sreg g' r := (rfl)
@[simp] theorem State.modBoot_areg (g : Boot → Boot) (g' r : Nat) : (s.modBoot g).areg g' r = s.areg g' r := (rfl)
@[simp] theorem State.modBoot_pred (g : Boot → Boot) (g' r : Nat) : (s.modBoot g).pred g' r = s.pred g' r := (rfl)
@[simp] theorem State.modBoot_rd (g : Boot → Boot) (b : Nat) : (s.modBoot g).rd b = s.rd b := (rfl)
@[simp] theorem State.modBoot_copyU (g : Boot → Boot) (i : Nat) : (s.modBoot g).copyU i = s.copyU i := (rfl)
@[simp] theorem State.modBoot_now (g : Boot → Boot) : (s.modBoot g).now = s.now := (rfl)
@[simp] theorem State.modBoot_partOf (g : Boot → Boot) (i : Nat) : (s.modBoot g).partOf i = s.partOf i := (rfl)
@[simp] theorem State.modBoot_absent (g : Boot → Boot) (i : Nat) : (s.modBoot g).absent i = s.absent i := (rfl)
@[simp] theorem State.modBoot_poisoned (g : Boot → Boot) (b m : Nat) : (s.modBoot g).poisoned b m = s.poisoned b m := (rfl)
@[simp] theorem State.modBoot_tile (g : Boot → Boot) (a b i : Nat) : (s.modBoot g).tile a b i = s.tile a b i := (rfl)
@[simp] theorem State.modBoot_grain (g : Boot → Boot) (a b i : Nat) : (s.modBoot g).grain a b i = s.grain a b i := (rfl)
@[simp] theorem State.modBoot_stage (g : Boot → Boot) (i : Nat) : (s.modBoot g).stage i = s.stage i := (rfl)
@[simp] theorem State.modBoot_olink (g : Boot → Boot) (i : Nat) : (s.modBoot g).olink i = s.olink i := (rfl)

/-! ### `modTim` -/

@[simp] theorem State.modTim_pending (g : Tim → Tim) : (s.modTim g).pending = s.pending := (rfl)
@[simp] theorem State.modTim_regs (g : Tim → Tim) : (s.modTim g).regs = s.regs := (rfl)
@[simp] theorem State.modTim_mem (g : Tim → Tim) : (s.modTim g).mem = s.mem := (rfl)
@[simp] theorem State.modTim_poison (g : Tim → Tim) : (s.modTim g).poison = s.poison := (rfl)
@[simp] theorem State.modTim_tiles (g : Tim → Tim) : (s.modTim g).tiles = s.tiles := (rfl)
@[simp] theorem State.modTim_planes (g : Tim → Tim) : (s.modTim g).planes = s.planes := (rfl)
@[simp] theorem State.modTim_grains (g : Tim → Tim) : (s.modTim g).grains = s.grains := (rfl)
@[simp] theorem State.modTim_harts (g : Tim → Tim) : (s.modTim g).harts = s.harts := (rfl)
@[simp] theorem State.modTim_clus (g : Tim → Tim) : (s.modTim g).clus = s.clus := (rfl)
@[simp] theorem State.modTim_parts (g : Tim → Tim) : (s.modTim g).parts = s.parts := (rfl)
@[simp] theorem State.modTim_flds (g : Tim → Tim) : (s.modTim g).flds = s.flds := (rfl)
@[simp] theorem State.modTim_vpm (g : Tim → Tim) : (s.modTim g).vpm = s.vpm := (rfl)
@[simp] theorem State.modTim_flits (g : Tim → Tim) : (s.modTim g).flits = s.flits := (rfl)
@[simp] theorem State.modTim_pkts (g : Tim → Tim) : (s.modTim g).pkts = s.pkts := (rfl)
@[simp] theorem State.modTim_rbucket (g : Tim → Tim) : (s.modTim g).rbucket = s.rbucket := (rfl)
@[simp] theorem State.modTim_rturn (g : Tim → Tim) : (s.modTim g).rturn = s.rturn := (rfl)
@[simp] theorem State.modTim_net (g : Tim → Tim) : (s.modTim g).net = s.net := (rfl)
@[simp] theorem State.modTim_vports (g : Tim → Tim) : (s.modTim g).vports = s.vports := (rfl)
@[simp] theorem State.modTim_octWait (g : Tim → Tim) : (s.modTim g).octWait = s.octWait := (rfl)
@[simp] theorem State.modTim_dtime (g : Tim → Tim) : (s.modTim g).dtime = s.dtime := (rfl)
@[simp] theorem State.modTim_ev (g : Tim → Tim) : (s.modTim g).ev = s.ev := (rfl)
@[simp] theorem State.modTim_barn (g : Tim → Tim) : (s.modTim g).barn = s.barn := (rfl)
@[simp] theorem State.modTim_olinks (g : Tim → Tim) : (s.modTim g).olinks = s.olinks := (rfl)
@[simp] theorem State.modTim_octIn (g : Tim → Tim) : (s.modTim g).octIn = s.octIn := (rfl)
@[simp] theorem State.modTim_remotes (g : Tim → Tim) : (s.modTim g).remotes = s.remotes := (rfl)
@[simp] theorem State.modTim_eth (g : Tim → Tim) : (s.modTim g).eth = s.eth := (rfl)
@[simp] theorem State.modTim_boot (g : Tim → Tim) : (s.modTim g).boot = s.boot := (rfl)
@[simp] theorem State.modTim_free (g : Tim → Tim) : (s.modTim g).free = s.free := (rfl)
@[simp] theorem State.modTim_f (g : Tim → Tim) (e : Fd) : (s.modTim g).f e = s.f e := (rfl)
@[simp] theorem State.modTim_on (g : Tim → Tim) (e : Fd) : (s.modTim g).on e = s.on e := (rfl)
@[simp] theorem State.modTim_hart (g : Tim → Tim) (g' : Nat) : (s.modTim g).hart g' = s.hart g' := (rfl)
@[simp] theorem State.modTim_clu (g : Tim → Tim) (i : Nat) : (s.modTim g).clu i = s.clu i := (rfl)
@[simp] theorem State.modTim_part (g : Tim → Tim) (i : Nat) : (s.modTim g).part i = s.part i := (rfl)
@[simp] theorem State.modTim_fld (g : Tim → Tim) (i : Nat) : (s.modTim g).fld i = s.fld i := (rfl)
@[simp] theorem State.modTim_sreg (g : Tim → Tim) (g' r : Nat) : (s.modTim g).sreg g' r = s.sreg g' r := (rfl)
@[simp] theorem State.modTim_areg (g : Tim → Tim) (g' r : Nat) : (s.modTim g).areg g' r = s.areg g' r := (rfl)
@[simp] theorem State.modTim_pred (g : Tim → Tim) (g' r : Nat) : (s.modTim g).pred g' r = s.pred g' r := (rfl)
@[simp] theorem State.modTim_rd (g : Tim → Tim) (b : Nat) : (s.modTim g).rd b = s.rd b := (rfl)
@[simp] theorem State.modTim_copyU (g : Tim → Tim) (i : Nat) : (s.modTim g).copyU i = s.copyU i := (rfl)
@[simp] theorem State.modTim_now (g : Tim → Tim) : (s.modTim g).now = s.now := (rfl)
@[simp] theorem State.modTim_partOf (g : Tim → Tim) (i : Nat) : (s.modTim g).partOf i = s.partOf i := (rfl)
@[simp] theorem State.modTim_absent (g : Tim → Tim) (i : Nat) : (s.modTim g).absent i = s.absent i := (rfl)
@[simp] theorem State.modTim_poisoned (g : Tim → Tim) (b m : Nat) : (s.modTim g).poisoned b m = s.poisoned b m := (rfl)
@[simp] theorem State.modTim_tile (g : Tim → Tim) (a b i : Nat) : (s.modTim g).tile a b i = s.tile a b i := (rfl)
@[simp] theorem State.modTim_grain (g : Tim → Tim) (a b i : Nat) : (s.modTim g).grain a b i = s.grain a b i := (rfl)
@[simp] theorem State.modTim_stage (g : Tim → Tim) (i : Nat) : (s.modTim g).stage i = s.stage i := (rfl)
@[simp] theorem State.modTim_olink (g : Tim → Tim) (i : Nat) : (s.modTim g).olink i = s.olink i := (rfl)

/-! ### `setBales` -/

@[simp] theorem State.setBales_pending (l : List Bale) : (s.setBales l).pending = s.pending := (rfl)
@[simp] theorem State.setBales_regs (l : List Bale) : (s.setBales l).regs = s.regs := (rfl)
@[simp] theorem State.setBales_mem (l : List Bale) : (s.setBales l).mem = s.mem := (rfl)
@[simp] theorem State.setBales_poison (l : List Bale) : (s.setBales l).poison = s.poison := (rfl)
@[simp] theorem State.setBales_tiles (l : List Bale) : (s.setBales l).tiles = s.tiles := (rfl)
@[simp] theorem State.setBales_planes (l : List Bale) : (s.setBales l).planes = s.planes := (rfl)
@[simp] theorem State.setBales_grains (l : List Bale) : (s.setBales l).grains = s.grains := (rfl)
@[simp] theorem State.setBales_harts (l : List Bale) : (s.setBales l).harts = s.harts := (rfl)
@[simp] theorem State.setBales_clus (l : List Bale) : (s.setBales l).clus = s.clus := (rfl)
@[simp] theorem State.setBales_parts (l : List Bale) : (s.setBales l).parts = s.parts := (rfl)
@[simp] theorem State.setBales_flds (l : List Bale) : (s.setBales l).flds = s.flds := (rfl)
@[simp] theorem State.setBales_vpm (l : List Bale) : (s.setBales l).vpm = s.vpm := (rfl)
@[simp] theorem State.setBales_flits (l : List Bale) : (s.setBales l).flits = s.flits := (rfl)
@[simp] theorem State.setBales_pkts (l : List Bale) : (s.setBales l).pkts = s.pkts := (rfl)
@[simp] theorem State.setBales_rbucket (l : List Bale) : (s.setBales l).rbucket = s.rbucket := (rfl)
@[simp] theorem State.setBales_rturn (l : List Bale) : (s.setBales l).rturn = s.rturn := (rfl)
@[simp] theorem State.setBales_net (l : List Bale) : (s.setBales l).net = s.net := (rfl)
@[simp] theorem State.setBales_vports (l : List Bale) : (s.setBales l).vports = s.vports := (rfl)
@[simp] theorem State.setBales_octWait (l : List Bale) : (s.setBales l).octWait = s.octWait := (rfl)
@[simp] theorem State.setBales_dtime (l : List Bale) : (s.setBales l).dtime = s.dtime := (rfl)
@[simp] theorem State.setBales_ev (l : List Bale) : (s.setBales l).ev = s.ev := (rfl)
@[simp] theorem State.setBales_tim (l : List Bale) : (s.setBales l).tim = s.tim := (rfl)
@[simp] theorem State.setBales_olinks (l : List Bale) : (s.setBales l).olinks = s.olinks := (rfl)
@[simp] theorem State.setBales_octIn (l : List Bale) : (s.setBales l).octIn = s.octIn := (rfl)
@[simp] theorem State.setBales_remotes (l : List Bale) : (s.setBales l).remotes = s.remotes := (rfl)
@[simp] theorem State.setBales_eth (l : List Bale) : (s.setBales l).eth = s.eth := (rfl)
@[simp] theorem State.setBales_boot (l : List Bale) : (s.setBales l).boot = s.boot := (rfl)
@[simp] theorem State.setBales_free (l : List Bale) : (s.setBales l).free = s.free := (rfl)
@[simp] theorem State.setBales_f (l : List Bale) (e : Fd) : (s.setBales l).f e = s.f e := (rfl)
@[simp] theorem State.setBales_on (l : List Bale) (e : Fd) : (s.setBales l).on e = s.on e := (rfl)
@[simp] theorem State.setBales_hart (l : List Bale) (g : Nat) : (s.setBales l).hart g = s.hart g := (rfl)
@[simp] theorem State.setBales_clu (l : List Bale) (i : Nat) : (s.setBales l).clu i = s.clu i := (rfl)
@[simp] theorem State.setBales_part (l : List Bale) (i : Nat) : (s.setBales l).part i = s.part i := (rfl)
@[simp] theorem State.setBales_fld (l : List Bale) (i : Nat) : (s.setBales l).fld i = s.fld i := (rfl)
@[simp] theorem State.setBales_sreg (l : List Bale) (g r : Nat) : (s.setBales l).sreg g r = s.sreg g r := (rfl)
@[simp] theorem State.setBales_areg (l : List Bale) (g r : Nat) : (s.setBales l).areg g r = s.areg g r := (rfl)
@[simp] theorem State.setBales_pred (l : List Bale) (g r : Nat) : (s.setBales l).pred g r = s.pred g r := (rfl)
@[simp] theorem State.setBales_rd (l : List Bale) (b : Nat) : (s.setBales l).rd b = s.rd b := (rfl)
@[simp] theorem State.setBales_copyU (l : List Bale) (i : Nat) : (s.setBales l).copyU i = s.copyU i := (rfl)
@[simp] theorem State.setBales_now (l : List Bale) : (s.setBales l).now = s.now := (rfl)
@[simp] theorem State.setBales_partOf (l : List Bale) (i : Nat) : (s.setBales l).partOf i = s.partOf i := (rfl)
@[simp] theorem State.setBales_absent (l : List Bale) (i : Nat) : (s.setBales l).absent i = s.absent i := (rfl)
@[simp] theorem State.setBales_poisoned (l : List Bale) (b m : Nat) : (s.setBales l).poisoned b m = s.poisoned b m := (rfl)
@[simp] theorem State.setBales_tile (l : List Bale) (a b i : Nat) : (s.setBales l).tile a b i = s.tile a b i := (rfl)
@[simp] theorem State.setBales_grain (l : List Bale) (a b i : Nat) : (s.setBales l).grain a b i = s.grain a b i := (rfl)
@[simp] theorem State.setBales_stage (l : List Bale) (i : Nat) : (s.setBales l).stage i = s.stage i := (rfl)
@[simp] theorem State.setBales_olink (l : List Bale) (i : Nat) : (s.setBales l).olink i = s.olink i := (rfl)

/-! ### `setBlocks` -/

@[simp] theorem State.setBlocks_pending (l : List Block) : (s.setBlocks l).pending = s.pending := (rfl)
@[simp] theorem State.setBlocks_regs (l : List Block) : (s.setBlocks l).regs = s.regs := (rfl)
@[simp] theorem State.setBlocks_mem (l : List Block) : (s.setBlocks l).mem = s.mem := (rfl)
@[simp] theorem State.setBlocks_poison (l : List Block) : (s.setBlocks l).poison = s.poison := (rfl)
@[simp] theorem State.setBlocks_tiles (l : List Block) : (s.setBlocks l).tiles = s.tiles := (rfl)
@[simp] theorem State.setBlocks_planes (l : List Block) : (s.setBlocks l).planes = s.planes := (rfl)
@[simp] theorem State.setBlocks_grains (l : List Block) : (s.setBlocks l).grains = s.grains := (rfl)
@[simp] theorem State.setBlocks_harts (l : List Block) : (s.setBlocks l).harts = s.harts := (rfl)
@[simp] theorem State.setBlocks_clus (l : List Block) : (s.setBlocks l).clus = s.clus := (rfl)
@[simp] theorem State.setBlocks_parts (l : List Block) : (s.setBlocks l).parts = s.parts := (rfl)
@[simp] theorem State.setBlocks_flds (l : List Block) : (s.setBlocks l).flds = s.flds := (rfl)
@[simp] theorem State.setBlocks_vpm (l : List Block) : (s.setBlocks l).vpm = s.vpm := (rfl)
@[simp] theorem State.setBlocks_flits (l : List Block) : (s.setBlocks l).flits = s.flits := (rfl)
@[simp] theorem State.setBlocks_pkts (l : List Block) : (s.setBlocks l).pkts = s.pkts := (rfl)
@[simp] theorem State.setBlocks_rbucket (l : List Block) : (s.setBlocks l).rbucket = s.rbucket := (rfl)
@[simp] theorem State.setBlocks_rturn (l : List Block) : (s.setBlocks l).rturn = s.rturn := (rfl)
@[simp] theorem State.setBlocks_net (l : List Block) : (s.setBlocks l).net = s.net := (rfl)
@[simp] theorem State.setBlocks_vports (l : List Block) : (s.setBlocks l).vports = s.vports := (rfl)
@[simp] theorem State.setBlocks_octWait (l : List Block) : (s.setBlocks l).octWait = s.octWait := (rfl)
@[simp] theorem State.setBlocks_dtime (l : List Block) : (s.setBlocks l).dtime = s.dtime := (rfl)
@[simp] theorem State.setBlocks_ev (l : List Block) : (s.setBlocks l).ev = s.ev := (rfl)
@[simp] theorem State.setBlocks_tim (l : List Block) : (s.setBlocks l).tim = s.tim := (rfl)
@[simp] theorem State.setBlocks_olinks (l : List Block) : (s.setBlocks l).olinks = s.olinks := (rfl)
@[simp] theorem State.setBlocks_octIn (l : List Block) : (s.setBlocks l).octIn = s.octIn := (rfl)
@[simp] theorem State.setBlocks_remotes (l : List Block) : (s.setBlocks l).remotes = s.remotes := (rfl)
@[simp] theorem State.setBlocks_eth (l : List Block) : (s.setBlocks l).eth = s.eth := (rfl)
@[simp] theorem State.setBlocks_boot (l : List Block) : (s.setBlocks l).boot = s.boot := (rfl)
@[simp] theorem State.setBlocks_free (l : List Block) : (s.setBlocks l).free = s.free := (rfl)
@[simp] theorem State.setBlocks_f (l : List Block) (e : Fd) : (s.setBlocks l).f e = s.f e := (rfl)
@[simp] theorem State.setBlocks_on (l : List Block) (e : Fd) : (s.setBlocks l).on e = s.on e := (rfl)
@[simp] theorem State.setBlocks_hart (l : List Block) (g : Nat) : (s.setBlocks l).hart g = s.hart g := (rfl)
@[simp] theorem State.setBlocks_clu (l : List Block) (i : Nat) : (s.setBlocks l).clu i = s.clu i := (rfl)
@[simp] theorem State.setBlocks_part (l : List Block) (i : Nat) : (s.setBlocks l).part i = s.part i := (rfl)
@[simp] theorem State.setBlocks_fld (l : List Block) (i : Nat) : (s.setBlocks l).fld i = s.fld i := (rfl)
@[simp] theorem State.setBlocks_sreg (l : List Block) (g r : Nat) : (s.setBlocks l).sreg g r = s.sreg g r := (rfl)
@[simp] theorem State.setBlocks_areg (l : List Block) (g r : Nat) : (s.setBlocks l).areg g r = s.areg g r := (rfl)
@[simp] theorem State.setBlocks_pred (l : List Block) (g r : Nat) : (s.setBlocks l).pred g r = s.pred g r := (rfl)
@[simp] theorem State.setBlocks_rd (l : List Block) (b : Nat) : (s.setBlocks l).rd b = s.rd b := (rfl)
@[simp] theorem State.setBlocks_copyU (l : List Block) (i : Nat) : (s.setBlocks l).copyU i = s.copyU i := (rfl)
@[simp] theorem State.setBlocks_now (l : List Block) : (s.setBlocks l).now = s.now := (rfl)
@[simp] theorem State.setBlocks_partOf (l : List Block) (i : Nat) : (s.setBlocks l).partOf i = s.partOf i := (rfl)
@[simp] theorem State.setBlocks_absent (l : List Block) (i : Nat) : (s.setBlocks l).absent i = s.absent i := (rfl)
@[simp] theorem State.setBlocks_poisoned (l : List Block) (b m : Nat) : (s.setBlocks l).poisoned b m = s.poisoned b m := (rfl)
@[simp] theorem State.setBlocks_tile (l : List Block) (a b i : Nat) : (s.setBlocks l).tile a b i = s.tile a b i := (rfl)
@[simp] theorem State.setBlocks_grain (l : List Block) (a b i : Nat) : (s.setBlocks l).grain a b i = s.grain a b i := (rfl)
@[simp] theorem State.setBlocks_stage (l : List Block) (i : Nat) : (s.setBlocks l).stage i = s.stage i := (rfl)
@[simp] theorem State.setBlocks_olink (l : List Block) (i : Nat) : (s.setBlocks l).olink i = s.olink i := (rfl)

/-! ### `modLink` -/

@[simp] theorem State.modLink_pending (l : Nat) (g : OLink → OLink) : (s.modLink l g).pending = s.pending := (rfl)
@[simp] theorem State.modLink_regs (l : Nat) (g : OLink → OLink) : (s.modLink l g).regs = s.regs := (rfl)
@[simp] theorem State.modLink_mem (l : Nat) (g : OLink → OLink) : (s.modLink l g).mem = s.mem := (rfl)
@[simp] theorem State.modLink_poison (l : Nat) (g : OLink → OLink) : (s.modLink l g).poison = s.poison := (rfl)
@[simp] theorem State.modLink_tiles (l : Nat) (g : OLink → OLink) : (s.modLink l g).tiles = s.tiles := (rfl)
@[simp] theorem State.modLink_planes (l : Nat) (g : OLink → OLink) : (s.modLink l g).planes = s.planes := (rfl)
@[simp] theorem State.modLink_grains (l : Nat) (g : OLink → OLink) : (s.modLink l g).grains = s.grains := (rfl)
@[simp] theorem State.modLink_harts (l : Nat) (g : OLink → OLink) : (s.modLink l g).harts = s.harts := (rfl)
@[simp] theorem State.modLink_clus (l : Nat) (g : OLink → OLink) : (s.modLink l g).clus = s.clus := (rfl)
@[simp] theorem State.modLink_parts (l : Nat) (g : OLink → OLink) : (s.modLink l g).parts = s.parts := (rfl)
@[simp] theorem State.modLink_flds (l : Nat) (g : OLink → OLink) : (s.modLink l g).flds = s.flds := (rfl)
@[simp] theorem State.modLink_vpm (l : Nat) (g : OLink → OLink) : (s.modLink l g).vpm = s.vpm := (rfl)
@[simp] theorem State.modLink_flits (l : Nat) (g : OLink → OLink) : (s.modLink l g).flits = s.flits := (rfl)
@[simp] theorem State.modLink_pkts (l : Nat) (g : OLink → OLink) : (s.modLink l g).pkts = s.pkts := (rfl)
@[simp] theorem State.modLink_rbucket (l : Nat) (g : OLink → OLink) : (s.modLink l g).rbucket = s.rbucket := (rfl)
@[simp] theorem State.modLink_rturn (l : Nat) (g : OLink → OLink) : (s.modLink l g).rturn = s.rturn := (rfl)
@[simp] theorem State.modLink_net (l : Nat) (g : OLink → OLink) : (s.modLink l g).net = s.net := (rfl)
@[simp] theorem State.modLink_vports (l : Nat) (g : OLink → OLink) : (s.modLink l g).vports = s.vports := (rfl)
@[simp] theorem State.modLink_octWait (l : Nat) (g : OLink → OLink) : (s.modLink l g).octWait = s.octWait := (rfl)
@[simp] theorem State.modLink_dtime (l : Nat) (g : OLink → OLink) : (s.modLink l g).dtime = s.dtime := (rfl)
@[simp] theorem State.modLink_ev (l : Nat) (g : OLink → OLink) : (s.modLink l g).ev = s.ev := (rfl)
@[simp] theorem State.modLink_tim (l : Nat) (g : OLink → OLink) : (s.modLink l g).tim = s.tim := (rfl)
@[simp] theorem State.modLink_barn (l : Nat) (g : OLink → OLink) : (s.modLink l g).barn = s.barn := (rfl)
@[simp] theorem State.modLink_octIn (l : Nat) (g : OLink → OLink) : (s.modLink l g).octIn = s.octIn := (rfl)
@[simp] theorem State.modLink_remotes (l : Nat) (g : OLink → OLink) : (s.modLink l g).remotes = s.remotes := (rfl)
@[simp] theorem State.modLink_eth (l : Nat) (g : OLink → OLink) : (s.modLink l g).eth = s.eth := (rfl)
@[simp] theorem State.modLink_boot (l : Nat) (g : OLink → OLink) : (s.modLink l g).boot = s.boot := (rfl)
@[simp] theorem State.modLink_free (l : Nat) (g : OLink → OLink) : (s.modLink l g).free = s.free := (rfl)
@[simp] theorem State.modLink_f (l : Nat) (g : OLink → OLink) (e : Fd) : (s.modLink l g).f e = s.f e := (rfl)
@[simp] theorem State.modLink_on (l : Nat) (g : OLink → OLink) (e : Fd) : (s.modLink l g).on e = s.on e := (rfl)
@[simp] theorem State.modLink_hart (l : Nat) (g : OLink → OLink) (g' : Nat) : (s.modLink l g).hart g' = s.hart g' := (rfl)
@[simp] theorem State.modLink_clu (l : Nat) (g : OLink → OLink) (i : Nat) : (s.modLink l g).clu i = s.clu i := (rfl)
@[simp] theorem State.modLink_part (l : Nat) (g : OLink → OLink) (i : Nat) : (s.modLink l g).part i = s.part i := (rfl)
@[simp] theorem State.modLink_fld (l : Nat) (g : OLink → OLink) (i : Nat) : (s.modLink l g).fld i = s.fld i := (rfl)
@[simp] theorem State.modLink_sreg (l : Nat) (g : OLink → OLink) (g' r : Nat) : (s.modLink l g).sreg g' r = s.sreg g' r := (rfl)
@[simp] theorem State.modLink_areg (l : Nat) (g : OLink → OLink) (g' r : Nat) : (s.modLink l g).areg g' r = s.areg g' r := (rfl)
@[simp] theorem State.modLink_pred (l : Nat) (g : OLink → OLink) (g' r : Nat) : (s.modLink l g).pred g' r = s.pred g' r := (rfl)
@[simp] theorem State.modLink_rd (l : Nat) (g : OLink → OLink) (b : Nat) : (s.modLink l g).rd b = s.rd b := (rfl)
@[simp] theorem State.modLink_copyU (l : Nat) (g : OLink → OLink) (i : Nat) : (s.modLink l g).copyU i = s.copyU i := (rfl)
@[simp] theorem State.modLink_now (l : Nat) (g : OLink → OLink) : (s.modLink l g).now = s.now := (rfl)
@[simp] theorem State.modLink_partOf (l : Nat) (g : OLink → OLink) (i : Nat) : (s.modLink l g).partOf i = s.partOf i := (rfl)
@[simp] theorem State.modLink_absent (l : Nat) (g : OLink → OLink) (i : Nat) : (s.modLink l g).absent i = s.absent i := (rfl)
@[simp] theorem State.modLink_poisoned (l : Nat) (g : OLink → OLink) (b m : Nat) : (s.modLink l g).poisoned b m = s.poisoned b m := (rfl)
@[simp] theorem State.modLink_tile (l : Nat) (g : OLink → OLink) (a b i : Nat) : (s.modLink l g).tile a b i = s.tile a b i := (rfl)
@[simp] theorem State.modLink_grain (l : Nat) (g : OLink → OLink) (a b i : Nat) : (s.modLink l g).grain a b i = s.grain a b i := (rfl)
@[simp] theorem State.modLink_stage (l : Nat) (g : OLink → OLink) (i : Nat) : (s.modLink l g).stage i = s.stage i := (rfl)

/-! ### `octQueue` -/

@[simp] theorem State.octQueue_pending (l : Nat) (p : OPkt) : (s.octQueue l p).pending = s.pending := (rfl)
@[simp] theorem State.octQueue_regs (l : Nat) (p : OPkt) : (s.octQueue l p).regs = s.regs := (rfl)
@[simp] theorem State.octQueue_mem (l : Nat) (p : OPkt) : (s.octQueue l p).mem = s.mem := (rfl)
@[simp] theorem State.octQueue_poison (l : Nat) (p : OPkt) : (s.octQueue l p).poison = s.poison := (rfl)
@[simp] theorem State.octQueue_tiles (l : Nat) (p : OPkt) : (s.octQueue l p).tiles = s.tiles := (rfl)
@[simp] theorem State.octQueue_planes (l : Nat) (p : OPkt) : (s.octQueue l p).planes = s.planes := (rfl)
@[simp] theorem State.octQueue_grains (l : Nat) (p : OPkt) : (s.octQueue l p).grains = s.grains := (rfl)
@[simp] theorem State.octQueue_harts (l : Nat) (p : OPkt) : (s.octQueue l p).harts = s.harts := (rfl)
@[simp] theorem State.octQueue_clus (l : Nat) (p : OPkt) : (s.octQueue l p).clus = s.clus := (rfl)
@[simp] theorem State.octQueue_parts (l : Nat) (p : OPkt) : (s.octQueue l p).parts = s.parts := (rfl)
@[simp] theorem State.octQueue_flds (l : Nat) (p : OPkt) : (s.octQueue l p).flds = s.flds := (rfl)
@[simp] theorem State.octQueue_vpm (l : Nat) (p : OPkt) : (s.octQueue l p).vpm = s.vpm := (rfl)
@[simp] theorem State.octQueue_flits (l : Nat) (p : OPkt) : (s.octQueue l p).flits = s.flits := (rfl)
@[simp] theorem State.octQueue_pkts (l : Nat) (p : OPkt) : (s.octQueue l p).pkts = s.pkts := (rfl)
@[simp] theorem State.octQueue_rbucket (l : Nat) (p : OPkt) : (s.octQueue l p).rbucket = s.rbucket := (rfl)
@[simp] theorem State.octQueue_rturn (l : Nat) (p : OPkt) : (s.octQueue l p).rturn = s.rturn := (rfl)
@[simp] theorem State.octQueue_net (l : Nat) (p : OPkt) : (s.octQueue l p).net = s.net := (rfl)
@[simp] theorem State.octQueue_vports (l : Nat) (p : OPkt) : (s.octQueue l p).vports = s.vports := (rfl)
@[simp] theorem State.octQueue_octWait (l : Nat) (p : OPkt) : (s.octQueue l p).octWait = s.octWait := (rfl)
@[simp] theorem State.octQueue_dtime (l : Nat) (p : OPkt) : (s.octQueue l p).dtime = s.dtime := (rfl)
@[simp] theorem State.octQueue_ev (l : Nat) (p : OPkt) : (s.octQueue l p).ev = s.ev := (rfl)
@[simp] theorem State.octQueue_tim (l : Nat) (p : OPkt) : (s.octQueue l p).tim = s.tim := (rfl)
@[simp] theorem State.octQueue_barn (l : Nat) (p : OPkt) : (s.octQueue l p).barn = s.barn := (rfl)
@[simp] theorem State.octQueue_olinks (l : Nat) (p : OPkt) : (s.octQueue l p).olinks = s.olinks := (rfl)
@[simp] theorem State.octQueue_remotes (l : Nat) (p : OPkt) : (s.octQueue l p).remotes = s.remotes := (rfl)
@[simp] theorem State.octQueue_eth (l : Nat) (p : OPkt) : (s.octQueue l p).eth = s.eth := (rfl)
@[simp] theorem State.octQueue_boot (l : Nat) (p : OPkt) : (s.octQueue l p).boot = s.boot := (rfl)
@[simp] theorem State.octQueue_free (l : Nat) (p : OPkt) : (s.octQueue l p).free = s.free := (rfl)
@[simp] theorem State.octQueue_f (l : Nat) (p : OPkt) (e : Fd) : (s.octQueue l p).f e = s.f e := (rfl)
@[simp] theorem State.octQueue_on (l : Nat) (p : OPkt) (e : Fd) : (s.octQueue l p).on e = s.on e := (rfl)
@[simp] theorem State.octQueue_hart (l : Nat) (p : OPkt) (g : Nat) : (s.octQueue l p).hart g = s.hart g := (rfl)
@[simp] theorem State.octQueue_clu (l : Nat) (p : OPkt) (i : Nat) : (s.octQueue l p).clu i = s.clu i := (rfl)
@[simp] theorem State.octQueue_part (l : Nat) (p : OPkt) (i : Nat) : (s.octQueue l p).part i = s.part i := (rfl)
@[simp] theorem State.octQueue_fld (l : Nat) (p : OPkt) (i : Nat) : (s.octQueue l p).fld i = s.fld i := (rfl)
@[simp] theorem State.octQueue_sreg (l : Nat) (p : OPkt) (g r : Nat) : (s.octQueue l p).sreg g r = s.sreg g r := (rfl)
@[simp] theorem State.octQueue_areg (l : Nat) (p : OPkt) (g r : Nat) : (s.octQueue l p).areg g r = s.areg g r := (rfl)
@[simp] theorem State.octQueue_pred (l : Nat) (p : OPkt) (g r : Nat) : (s.octQueue l p).pred g r = s.pred g r := (rfl)
@[simp] theorem State.octQueue_rd (l : Nat) (p : OPkt) (b : Nat) : (s.octQueue l p).rd b = s.rd b := (rfl)
@[simp] theorem State.octQueue_copyU (l : Nat) (p : OPkt) (i : Nat) : (s.octQueue l p).copyU i = s.copyU i := (rfl)
@[simp] theorem State.octQueue_now (l : Nat) (p : OPkt) : (s.octQueue l p).now = s.now := (rfl)
@[simp] theorem State.octQueue_partOf (l : Nat) (p : OPkt) (i : Nat) : (s.octQueue l p).partOf i = s.partOf i := (rfl)
@[simp] theorem State.octQueue_absent (l : Nat) (p : OPkt) (i : Nat) : (s.octQueue l p).absent i = s.absent i := (rfl)
@[simp] theorem State.octQueue_poisoned (l : Nat) (p : OPkt) (b m : Nat) : (s.octQueue l p).poisoned b m = s.poisoned b m := (rfl)
@[simp] theorem State.octQueue_tile (l : Nat) (p : OPkt) (a b i : Nat) : (s.octQueue l p).tile a b i = s.tile a b i := (rfl)
@[simp] theorem State.octQueue_grain (l : Nat) (p : OPkt) (a b i : Nat) : (s.octQueue l p).grain a b i = s.grain a b i := (rfl)
@[simp] theorem State.octQueue_stage (l : Nat) (p : OPkt) (i : Nat) : (s.octQueue l p).stage i = s.stage i := (rfl)
@[simp] theorem State.octQueue_olink (l : Nat) (p : OPkt) (i : Nat) : (s.octQueue l p).olink i = s.olink i := (rfl)

/-! ### `setRemote` -/

@[simp] theorem State.setRemote_pending (c k : Nat) (r : Option Remote) : (s.setRemote c k r).pending = s.pending := (rfl)
@[simp] theorem State.setRemote_regs (c k : Nat) (r : Option Remote) : (s.setRemote c k r).regs = s.regs := (rfl)
@[simp] theorem State.setRemote_mem (c k : Nat) (r : Option Remote) : (s.setRemote c k r).mem = s.mem := (rfl)
@[simp] theorem State.setRemote_poison (c k : Nat) (r : Option Remote) : (s.setRemote c k r).poison = s.poison := (rfl)
@[simp] theorem State.setRemote_tiles (c k : Nat) (r : Option Remote) : (s.setRemote c k r).tiles = s.tiles := (rfl)
@[simp] theorem State.setRemote_planes (c k : Nat) (r : Option Remote) : (s.setRemote c k r).planes = s.planes := (rfl)
@[simp] theorem State.setRemote_grains (c k : Nat) (r : Option Remote) : (s.setRemote c k r).grains = s.grains := (rfl)
@[simp] theorem State.setRemote_harts (c k : Nat) (r : Option Remote) : (s.setRemote c k r).harts = s.harts := (rfl)
@[simp] theorem State.setRemote_clus (c k : Nat) (r : Option Remote) : (s.setRemote c k r).clus = s.clus := (rfl)
@[simp] theorem State.setRemote_parts (c k : Nat) (r : Option Remote) : (s.setRemote c k r).parts = s.parts := (rfl)
@[simp] theorem State.setRemote_flds (c k : Nat) (r : Option Remote) : (s.setRemote c k r).flds = s.flds := (rfl)
@[simp] theorem State.setRemote_vpm (c k : Nat) (r : Option Remote) : (s.setRemote c k r).vpm = s.vpm := (rfl)
@[simp] theorem State.setRemote_flits (c k : Nat) (r : Option Remote) : (s.setRemote c k r).flits = s.flits := (rfl)
@[simp] theorem State.setRemote_pkts (c k : Nat) (r : Option Remote) : (s.setRemote c k r).pkts = s.pkts := (rfl)
@[simp] theorem State.setRemote_rbucket (c k : Nat) (r : Option Remote) : (s.setRemote c k r).rbucket = s.rbucket := (rfl)
@[simp] theorem State.setRemote_rturn (c k : Nat) (r : Option Remote) : (s.setRemote c k r).rturn = s.rturn := (rfl)
@[simp] theorem State.setRemote_net (c k : Nat) (r : Option Remote) : (s.setRemote c k r).net = s.net := (rfl)
@[simp] theorem State.setRemote_vports (c k : Nat) (r : Option Remote) : (s.setRemote c k r).vports = s.vports := (rfl)
@[simp] theorem State.setRemote_octWait (c k : Nat) (r : Option Remote) : (s.setRemote c k r).octWait = s.octWait := (rfl)
@[simp] theorem State.setRemote_dtime (c k : Nat) (r : Option Remote) : (s.setRemote c k r).dtime = s.dtime := (rfl)
@[simp] theorem State.setRemote_ev (c k : Nat) (r : Option Remote) : (s.setRemote c k r).ev = s.ev := (rfl)
@[simp] theorem State.setRemote_tim (c k : Nat) (r : Option Remote) : (s.setRemote c k r).tim = s.tim := (rfl)
@[simp] theorem State.setRemote_barn (c k : Nat) (r : Option Remote) : (s.setRemote c k r).barn = s.barn := (rfl)
@[simp] theorem State.setRemote_olinks (c k : Nat) (r : Option Remote) : (s.setRemote c k r).olinks = s.olinks := (rfl)
@[simp] theorem State.setRemote_octIn (c k : Nat) (r : Option Remote) : (s.setRemote c k r).octIn = s.octIn := (rfl)
@[simp] theorem State.setRemote_eth (c k : Nat) (r : Option Remote) : (s.setRemote c k r).eth = s.eth := (rfl)
@[simp] theorem State.setRemote_boot (c k : Nat) (r : Option Remote) : (s.setRemote c k r).boot = s.boot := (rfl)
@[simp] theorem State.setRemote_free (c k : Nat) (r : Option Remote) : (s.setRemote c k r).free = s.free := (rfl)
@[simp] theorem State.setRemote_f (c k : Nat) (r : Option Remote) (e : Fd) : (s.setRemote c k r).f e = s.f e := (rfl)
@[simp] theorem State.setRemote_on (c k : Nat) (r : Option Remote) (e : Fd) : (s.setRemote c k r).on e = s.on e := (rfl)
@[simp] theorem State.setRemote_hart (c k : Nat) (r : Option Remote) (g : Nat) : (s.setRemote c k r).hart g = s.hart g := (rfl)
@[simp] theorem State.setRemote_clu (c k : Nat) (r : Option Remote) (i : Nat) : (s.setRemote c k r).clu i = s.clu i := (rfl)
@[simp] theorem State.setRemote_part (c k : Nat) (r : Option Remote) (i : Nat) : (s.setRemote c k r).part i = s.part i := (rfl)
@[simp] theorem State.setRemote_fld (c k : Nat) (r : Option Remote) (i : Nat) : (s.setRemote c k r).fld i = s.fld i := (rfl)
@[simp] theorem State.setRemote_sreg (c k : Nat) (r : Option Remote) (g r' : Nat) : (s.setRemote c k r).sreg g r' = s.sreg g r' := (rfl)
@[simp] theorem State.setRemote_areg (c k : Nat) (r : Option Remote) (g r' : Nat) : (s.setRemote c k r).areg g r' = s.areg g r' := (rfl)
@[simp] theorem State.setRemote_pred (c k : Nat) (r : Option Remote) (g r' : Nat) : (s.setRemote c k r).pred g r' = s.pred g r' := (rfl)
@[simp] theorem State.setRemote_rd (c k : Nat) (r : Option Remote) (b : Nat) : (s.setRemote c k r).rd b = s.rd b := (rfl)
@[simp] theorem State.setRemote_copyU (c k : Nat) (r : Option Remote) (i : Nat) : (s.setRemote c k r).copyU i = s.copyU i := (rfl)
@[simp] theorem State.setRemote_now (c k : Nat) (r : Option Remote) : (s.setRemote c k r).now = s.now := (rfl)
@[simp] theorem State.setRemote_partOf (c k : Nat) (r : Option Remote) (i : Nat) : (s.setRemote c k r).partOf i = s.partOf i := (rfl)
@[simp] theorem State.setRemote_absent (c k : Nat) (r : Option Remote) (i : Nat) : (s.setRemote c k r).absent i = s.absent i := (rfl)
@[simp] theorem State.setRemote_poisoned (c k : Nat) (r : Option Remote) (b m : Nat) : (s.setRemote c k r).poisoned b m = s.poisoned b m := (rfl)
@[simp] theorem State.setRemote_tile (c k : Nat) (r : Option Remote) (a b i : Nat) : (s.setRemote c k r).tile a b i = s.tile a b i := (rfl)
@[simp] theorem State.setRemote_grain (c k : Nat) (r : Option Remote) (a b i : Nat) : (s.setRemote c k r).grain a b i = s.grain a b i := (rfl)
@[simp] theorem State.setRemote_stage (c k : Nat) (r : Option Remote) (i : Nat) : (s.setRemote c k r).stage i = s.stage i := (rfl)
@[simp] theorem State.setRemote_olink (c k : Nat) (r : Option Remote) (i : Nat) : (s.setRemote c k r).olink i = s.olink i := (rfl)

/-! ### `setVport` -/

@[simp] theorem State.setVport_pending (pl : Nat) (v : VPort) : (s.setVport pl v).pending = s.pending := (rfl)
@[simp] theorem State.setVport_regs (pl : Nat) (v : VPort) : (s.setVport pl v).regs = s.regs := (rfl)
@[simp] theorem State.setVport_mem (pl : Nat) (v : VPort) : (s.setVport pl v).mem = s.mem := (rfl)
@[simp] theorem State.setVport_poison (pl : Nat) (v : VPort) : (s.setVport pl v).poison = s.poison := (rfl)
@[simp] theorem State.setVport_tiles (pl : Nat) (v : VPort) : (s.setVport pl v).tiles = s.tiles := (rfl)
@[simp] theorem State.setVport_planes (pl : Nat) (v : VPort) : (s.setVport pl v).planes = s.planes := (rfl)
@[simp] theorem State.setVport_grains (pl : Nat) (v : VPort) : (s.setVport pl v).grains = s.grains := (rfl)
@[simp] theorem State.setVport_harts (pl : Nat) (v : VPort) : (s.setVport pl v).harts = s.harts := (rfl)
@[simp] theorem State.setVport_clus (pl : Nat) (v : VPort) : (s.setVport pl v).clus = s.clus := (rfl)
@[simp] theorem State.setVport_parts (pl : Nat) (v : VPort) : (s.setVport pl v).parts = s.parts := (rfl)
@[simp] theorem State.setVport_flds (pl : Nat) (v : VPort) : (s.setVport pl v).flds = s.flds := (rfl)
@[simp] theorem State.setVport_vpm (pl : Nat) (v : VPort) : (s.setVport pl v).vpm = s.vpm := (rfl)
@[simp] theorem State.setVport_flits (pl : Nat) (v : VPort) : (s.setVport pl v).flits = s.flits := (rfl)
@[simp] theorem State.setVport_pkts (pl : Nat) (v : VPort) : (s.setVport pl v).pkts = s.pkts := (rfl)
@[simp] theorem State.setVport_rbucket (pl : Nat) (v : VPort) : (s.setVport pl v).rbucket = s.rbucket := (rfl)
@[simp] theorem State.setVport_rturn (pl : Nat) (v : VPort) : (s.setVport pl v).rturn = s.rturn := (rfl)
@[simp] theorem State.setVport_net (pl : Nat) (v : VPort) : (s.setVport pl v).net = s.net := (rfl)
@[simp] theorem State.setVport_octWait (pl : Nat) (v : VPort) : (s.setVport pl v).octWait = s.octWait := (rfl)
@[simp] theorem State.setVport_dtime (pl : Nat) (v : VPort) : (s.setVport pl v).dtime = s.dtime := (rfl)
@[simp] theorem State.setVport_ev (pl : Nat) (v : VPort) : (s.setVport pl v).ev = s.ev := (rfl)
@[simp] theorem State.setVport_tim (pl : Nat) (v : VPort) : (s.setVport pl v).tim = s.tim := (rfl)
@[simp] theorem State.setVport_barn (pl : Nat) (v : VPort) : (s.setVport pl v).barn = s.barn := (rfl)
@[simp] theorem State.setVport_octIn (pl : Nat) (v : VPort) : (s.setVport pl v).octIn = s.octIn := (rfl)
@[simp] theorem State.setVport_olinks (pl : Nat) (v : VPort) : (s.setVport pl v).olinks = s.olinks := (rfl)
@[simp] theorem State.setVport_remotes (pl : Nat) (v : VPort) : (s.setVport pl v).remotes = s.remotes := (rfl)
@[simp] theorem State.setVport_eth (pl : Nat) (v : VPort) : (s.setVport pl v).eth = s.eth := (rfl)
@[simp] theorem State.setVport_boot (pl : Nat) (v : VPort) : (s.setVport pl v).boot = s.boot := (rfl)
@[simp] theorem State.setVport_free (pl : Nat) (v : VPort) : (s.setVport pl v).free = s.free := (rfl)
@[simp] theorem State.setVport_f (pl : Nat) (v : VPort) (e : Fd) : (s.setVport pl v).f e = s.f e := (rfl)
@[simp] theorem State.setVport_on (pl : Nat) (v : VPort) (e : Fd) : (s.setVport pl v).on e = s.on e := (rfl)
@[simp] theorem State.setVport_hart (pl : Nat) (v : VPort) (g' : Nat) : (s.setVport pl v).hart g' = s.hart g' := (rfl)
@[simp] theorem State.setVport_clu (pl : Nat) (v : VPort) (i : Nat) : (s.setVport pl v).clu i = s.clu i := (rfl)
@[simp] theorem State.setVport_part (pl : Nat) (v : VPort) (i : Nat) : (s.setVport pl v).part i = s.part i := (rfl)
@[simp] theorem State.setVport_fld (pl : Nat) (v : VPort) (i : Nat) : (s.setVport pl v).fld i = s.fld i := (rfl)
@[simp] theorem State.setVport_sreg (pl : Nat) (v : VPort) (g' r : Nat) : (s.setVport pl v).sreg g' r = s.sreg g' r := (rfl)
@[simp] theorem State.setVport_areg (pl : Nat) (v : VPort) (g' r : Nat) : (s.setVport pl v).areg g' r = s.areg g' r := (rfl)
@[simp] theorem State.setVport_pred (pl : Nat) (v : VPort) (g' r : Nat) : (s.setVport pl v).pred g' r = s.pred g' r := (rfl)
@[simp] theorem State.setVport_rd (pl : Nat) (v : VPort) (b : Nat) : (s.setVport pl v).rd b = s.rd b := (rfl)
@[simp] theorem State.setVport_copyU (pl : Nat) (v : VPort) (i : Nat) : (s.setVport pl v).copyU i = s.copyU i := (rfl)
@[simp] theorem State.setVport_now (pl : Nat) (v : VPort) : (s.setVport pl v).now = s.now := (rfl)
@[simp] theorem State.setVport_partOf (pl : Nat) (v : VPort) (i : Nat) : (s.setVport pl v).partOf i = s.partOf i := (rfl)
@[simp] theorem State.setVport_absent (pl : Nat) (v : VPort) (i : Nat) : (s.setVport pl v).absent i = s.absent i := (rfl)
@[simp] theorem State.setVport_poisoned (pl : Nat) (v : VPort) (b m : Nat) : (s.setVport pl v).poisoned b m = s.poisoned b m := (rfl)
@[simp] theorem State.setVport_tile (pl : Nat) (v : VPort) (a b i : Nat) : (s.setVport pl v).tile a b i = s.tile a b i := (rfl)
@[simp] theorem State.setVport_grain (pl : Nat) (v : VPort) (a b i : Nat) : (s.setVport pl v).grain a b i = s.grain a b i := (rfl)
@[simp] theorem State.setVport_stage (pl : Nat) (v : VPort) (i : Nat) : (s.setVport pl v).stage i = s.stage i := (rfl)
@[simp] theorem State.setVport_olink (pl : Nat) (v : VPort) (i : Nat) : (s.setVport pl v).olink i = s.olink i := (rfl)

/-! ### `modKeep` -/

@[simp] theorem State.modKeep_pending (p : Nat) (k : Keep → Keep) : (s.modKeep p k).pending = s.pending := (rfl)
@[simp] theorem State.modKeep_regs (p : Nat) (k : Keep → Keep) : (s.modKeep p k).regs = s.regs := (rfl)
@[simp] theorem State.modKeep_mem (p : Nat) (k : Keep → Keep) : (s.modKeep p k).mem = s.mem := (rfl)
@[simp] theorem State.modKeep_poison (p : Nat) (k : Keep → Keep) : (s.modKeep p k).poison = s.poison := (rfl)
@[simp] theorem State.modKeep_tiles (p : Nat) (k : Keep → Keep) : (s.modKeep p k).tiles = s.tiles := (rfl)
@[simp] theorem State.modKeep_planes (p : Nat) (k : Keep → Keep) : (s.modKeep p k).planes = s.planes := (rfl)
@[simp] theorem State.modKeep_grains (p : Nat) (k : Keep → Keep) : (s.modKeep p k).grains = s.grains := (rfl)
@[simp] theorem State.modKeep_harts (p : Nat) (k : Keep → Keep) : (s.modKeep p k).harts = s.harts := (rfl)
@[simp] theorem State.modKeep_clus (p : Nat) (k : Keep → Keep) : (s.modKeep p k).clus = s.clus := (rfl)
@[simp] theorem State.modKeep_parts (p : Nat) (k : Keep → Keep) : (s.modKeep p k).parts = s.parts := (rfl)
@[simp] theorem State.modKeep_flds (p : Nat) (k : Keep → Keep) : (s.modKeep p k).flds = s.flds := (rfl)
@[simp] theorem State.modKeep_vpm (p : Nat) (k : Keep → Keep) : (s.modKeep p k).vpm = s.vpm := (rfl)
@[simp] theorem State.modKeep_flits (p : Nat) (k : Keep → Keep) : (s.modKeep p k).flits = s.flits := (rfl)
@[simp] theorem State.modKeep_pkts (p : Nat) (k : Keep → Keep) : (s.modKeep p k).pkts = s.pkts := (rfl)
@[simp] theorem State.modKeep_rbucket (p : Nat) (k : Keep → Keep) : (s.modKeep p k).rbucket = s.rbucket := (rfl)
@[simp] theorem State.modKeep_rturn (p : Nat) (k : Keep → Keep) : (s.modKeep p k).rturn = s.rturn := (rfl)
@[simp] theorem State.modKeep_net (p : Nat) (k : Keep → Keep) : (s.modKeep p k).net = s.net := (rfl)
@[simp] theorem State.modKeep_vports (p : Nat) (k : Keep → Keep) : (s.modKeep p k).vports = s.vports := (rfl)
@[simp] theorem State.modKeep_octWait (p : Nat) (k : Keep → Keep) : (s.modKeep p k).octWait = s.octWait := (rfl)
@[simp] theorem State.modKeep_dtime (p : Nat) (k : Keep → Keep) : (s.modKeep p k).dtime = s.dtime := (rfl)
@[simp] theorem State.modKeep_ev (p : Nat) (k : Keep → Keep) : (s.modKeep p k).ev = s.ev := (rfl)
@[simp] theorem State.modKeep_barn (p : Nat) (k : Keep → Keep) : (s.modKeep p k).barn = s.barn := (rfl)
@[simp] theorem State.modKeep_octIn (p : Nat) (k : Keep → Keep) : (s.modKeep p k).octIn = s.octIn := (rfl)
@[simp] theorem State.modKeep_olinks (p : Nat) (k : Keep → Keep) : (s.modKeep p k).olinks = s.olinks := (rfl)
@[simp] theorem State.modKeep_remotes (p : Nat) (k : Keep → Keep) : (s.modKeep p k).remotes = s.remotes := (rfl)
@[simp] theorem State.modKeep_eth (p : Nat) (k : Keep → Keep) : (s.modKeep p k).eth = s.eth := (rfl)
@[simp] theorem State.modKeep_boot (p : Nat) (k : Keep → Keep) : (s.modKeep p k).boot = s.boot := (rfl)
@[simp] theorem State.modKeep_free (p : Nat) (k : Keep → Keep) : (s.modKeep p k).free = s.free := (rfl)
@[simp] theorem State.modKeep_f (p : Nat) (k : Keep → Keep) (e : Fd) : (s.modKeep p k).f e = s.f e := (rfl)
@[simp] theorem State.modKeep_on (p : Nat) (k : Keep → Keep) (e : Fd) : (s.modKeep p k).on e = s.on e := (rfl)
@[simp] theorem State.modKeep_hart (p : Nat) (k : Keep → Keep) (g' : Nat) : (s.modKeep p k).hart g' = s.hart g' := (rfl)
@[simp] theorem State.modKeep_clu (p : Nat) (k : Keep → Keep) (i : Nat) : (s.modKeep p k).clu i = s.clu i := (rfl)
@[simp] theorem State.modKeep_part (p : Nat) (k : Keep → Keep) (i : Nat) : (s.modKeep p k).part i = s.part i := (rfl)
@[simp] theorem State.modKeep_fld (p : Nat) (k : Keep → Keep) (i : Nat) : (s.modKeep p k).fld i = s.fld i := (rfl)
@[simp] theorem State.modKeep_sreg (p : Nat) (k : Keep → Keep) (g' r : Nat) : (s.modKeep p k).sreg g' r = s.sreg g' r := (rfl)
@[simp] theorem State.modKeep_areg (p : Nat) (k : Keep → Keep) (g' r : Nat) : (s.modKeep p k).areg g' r = s.areg g' r := (rfl)
@[simp] theorem State.modKeep_pred (p : Nat) (k : Keep → Keep) (g' r : Nat) : (s.modKeep p k).pred g' r = s.pred g' r := (rfl)
@[simp] theorem State.modKeep_rd (p : Nat) (k : Keep → Keep) (b : Nat) : (s.modKeep p k).rd b = s.rd b := (rfl)
@[simp] theorem State.modKeep_copyU (p : Nat) (k : Keep → Keep) (i : Nat) : (s.modKeep p k).copyU i = s.copyU i := (rfl)
@[simp] theorem State.modKeep_now (p : Nat) (k : Keep → Keep) : (s.modKeep p k).now = s.now := (rfl)
@[simp] theorem State.modKeep_partOf (p : Nat) (k : Keep → Keep) (i : Nat) : (s.modKeep p k).partOf i = s.partOf i := (rfl)
@[simp] theorem State.modKeep_absent (p : Nat) (k : Keep → Keep) (i : Nat) : (s.modKeep p k).absent i = s.absent i := (rfl)
@[simp] theorem State.modKeep_poisoned (p : Nat) (k : Keep → Keep) (b m : Nat) : (s.modKeep p k).poisoned b m = s.poisoned b m := (rfl)
@[simp] theorem State.modKeep_tile (p : Nat) (k : Keep → Keep) (a b i : Nat) : (s.modKeep p k).tile a b i = s.tile a b i := (rfl)
@[simp] theorem State.modKeep_grain (p : Nat) (k : Keep → Keep) (a b i : Nat) : (s.modKeep p k).grain a b i = s.grain a b i := (rfl)
@[simp] theorem State.modKeep_stage (p : Nat) (k : Keep → Keep) (i : Nat) : (s.modKeep p k).stage i = s.stage i := (rfl)
@[simp] theorem State.modKeep_olink (p : Nat) (k : Keep → Keep) (i : Nat) : (s.modKeep p k).olink i = s.olink i := (rfl)

/-! ### `setKeeper` -/

@[simp] theorem State.setKeeper_pending (u : Nat) (k : Keeper) : (s.setKeeper u k).pending = s.pending := by
  unfold State.setKeeper; split <;> rfl
@[simp] theorem State.setKeeper_regs (u : Nat) (k : Keeper) : (s.setKeeper u k).regs = s.regs := by
  unfold State.setKeeper; split <;> rfl
@[simp] theorem State.setKeeper_mem (u : Nat) (k : Keeper) : (s.setKeeper u k).mem = s.mem := by
  unfold State.setKeeper; split <;> rfl
@[simp] theorem State.setKeeper_poison (u : Nat) (k : Keeper) : (s.setKeeper u k).poison = s.poison := by
  unfold State.setKeeper; split <;> rfl
@[simp] theorem State.setKeeper_tiles (u : Nat) (k : Keeper) : (s.setKeeper u k).tiles = s.tiles := by
  unfold State.setKeeper; split <;> rfl
@[simp] theorem State.setKeeper_planes (u : Nat) (k : Keeper) : (s.setKeeper u k).planes = s.planes := by
  unfold State.setKeeper; split <;> rfl
@[simp] theorem State.setKeeper_grains (u : Nat) (k : Keeper) : (s.setKeeper u k).grains = s.grains := by
  unfold State.setKeeper; split <;> rfl
@[simp] theorem State.setKeeper_harts (u : Nat) (k : Keeper) : (s.setKeeper u k).harts = s.harts := by
  unfold State.setKeeper; split <;> rfl
@[simp] theorem State.setKeeper_parts (u : Nat) (k : Keeper) : (s.setKeeper u k).parts = s.parts := by
  unfold State.setKeeper; split <;> rfl
@[simp] theorem State.setKeeper_flds (u : Nat) (k : Keeper) : (s.setKeeper u k).flds = s.flds := by
  unfold State.setKeeper; split <;> rfl
@[simp] theorem State.setKeeper_vpm (u : Nat) (k : Keeper) : (s.setKeeper u k).vpm = s.vpm := by
  unfold State.setKeeper; split <;> rfl
@[simp] theorem State.setKeeper_flits (u : Nat) (k : Keeper) : (s.setKeeper u k).flits = s.flits := by
  unfold State.setKeeper; split <;> rfl
@[simp] theorem State.setKeeper_pkts (u : Nat) (k : Keeper) : (s.setKeeper u k).pkts = s.pkts := by
  unfold State.setKeeper; split <;> rfl
@[simp] theorem State.setKeeper_rbucket (u : Nat) (k : Keeper) : (s.setKeeper u k).rbucket = s.rbucket := by
  unfold State.setKeeper; split <;> rfl
@[simp] theorem State.setKeeper_rturn (u : Nat) (k : Keeper) : (s.setKeeper u k).rturn = s.rturn := by
  unfold State.setKeeper; split <;> rfl
@[simp] theorem State.setKeeper_net (u : Nat) (k : Keeper) : (s.setKeeper u k).net = s.net := by
  unfold State.setKeeper; split <;> rfl
@[simp] theorem State.setKeeper_vports (u : Nat) (k : Keeper) : (s.setKeeper u k).vports = s.vports := by
  unfold State.setKeeper; split <;> rfl
@[simp] theorem State.setKeeper_octWait (u : Nat) (k : Keeper) : (s.setKeeper u k).octWait = s.octWait := by
  unfold State.setKeeper; split <;> rfl
@[simp] theorem State.setKeeper_dtime (u : Nat) (k : Keeper) : (s.setKeeper u k).dtime = s.dtime := by
  unfold State.setKeeper; split <;> rfl
@[simp] theorem State.setKeeper_ev (u : Nat) (k : Keeper) : (s.setKeeper u k).ev = s.ev := by
  unfold State.setKeeper; split <;> rfl
@[simp] theorem State.setKeeper_barn (u : Nat) (k : Keeper) : (s.setKeeper u k).barn = s.barn := by
  unfold State.setKeeper; split <;> rfl
@[simp] theorem State.setKeeper_octIn (u : Nat) (k : Keeper) : (s.setKeeper u k).octIn = s.octIn := by
  unfold State.setKeeper; split <;> rfl
@[simp] theorem State.setKeeper_olinks (u : Nat) (k : Keeper) : (s.setKeeper u k).olinks = s.olinks := by
  unfold State.setKeeper; split <;> rfl
@[simp] theorem State.setKeeper_remotes (u : Nat) (k : Keeper) : (s.setKeeper u k).remotes = s.remotes := by
  unfold State.setKeeper; split <;> rfl
@[simp] theorem State.setKeeper_eth (u : Nat) (k : Keeper) : (s.setKeeper u k).eth = s.eth := by
  unfold State.setKeeper; split <;> rfl
@[simp] theorem State.setKeeper_boot (u : Nat) (k : Keeper) : (s.setKeeper u k).boot = s.boot := by
  unfold State.setKeeper; split <;> rfl
@[simp] theorem State.setKeeper_free (u : Nat) (k : Keeper) : (s.setKeeper u k).free = s.free := by
  unfold State.setKeeper; split <;> rfl
@[simp] theorem State.setKeeper_f (u : Nat) (k : Keeper) (e : Fd) : (s.setKeeper u k).f e = s.f e := by
  unfold State.setKeeper; split <;> rfl
@[simp] theorem State.setKeeper_on (u : Nat) (k : Keeper) (e : Fd) : (s.setKeeper u k).on e = s.on e := by
  unfold State.setKeeper; split <;> rfl
@[simp] theorem State.setKeeper_hart (u : Nat) (k : Keeper) (g' : Nat) : (s.setKeeper u k).hart g' = s.hart g' := by
  unfold State.setKeeper; split <;> rfl
@[simp] theorem State.setKeeper_part (u : Nat) (k : Keeper) (i : Nat) : (s.setKeeper u k).part i = s.part i := by
  unfold State.setKeeper; split <;> rfl
@[simp] theorem State.setKeeper_fld (u : Nat) (k : Keeper) (i : Nat) : (s.setKeeper u k).fld i = s.fld i := by
  unfold State.setKeeper; split <;> rfl
@[simp] theorem State.setKeeper_sreg (u : Nat) (k : Keeper) (g' r : Nat) : (s.setKeeper u k).sreg g' r = s.sreg g' r := by
  unfold State.setKeeper; split <;> rfl
@[simp] theorem State.setKeeper_areg (u : Nat) (k : Keeper) (g' r : Nat) : (s.setKeeper u k).areg g' r = s.areg g' r := by
  unfold State.setKeeper; split <;> rfl
@[simp] theorem State.setKeeper_pred (u : Nat) (k : Keeper) (g' r : Nat) : (s.setKeeper u k).pred g' r = s.pred g' r := by
  unfold State.setKeeper; split <;> rfl
@[simp] theorem State.setKeeper_rd (u : Nat) (k : Keeper) (b : Nat) : (s.setKeeper u k).rd b = s.rd b := by
  unfold State.setKeeper; split <;> rfl
@[simp] theorem State.setKeeper_now (u : Nat) (k : Keeper) : (s.setKeeper u k).now = s.now := by
  unfold State.setKeeper; split <;> rfl
@[simp] theorem State.setKeeper_partOf (u : Nat) (k : Keeper) (i : Nat) : (s.setKeeper u k).partOf i = s.partOf i := by
  unfold State.setKeeper; split <;> rfl
@[simp] theorem State.setKeeper_absent (u : Nat) (k : Keeper) (i : Nat) : (s.setKeeper u k).absent i = s.absent i := by
  unfold State.setKeeper; split <;> rfl
@[simp] theorem State.setKeeper_poisoned (u : Nat) (k : Keeper) (b m : Nat) : (s.setKeeper u k).poisoned b m = s.poisoned b m := by
  unfold State.setKeeper; split <;> rfl
@[simp] theorem State.setKeeper_tile (u : Nat) (k : Keeper) (a b i : Nat) : (s.setKeeper u k).tile a b i = s.tile a b i := by
  unfold State.setKeeper; split <;> rfl
@[simp] theorem State.setKeeper_grain (u : Nat) (k : Keeper) (a b i : Nat) : (s.setKeeper u k).grain a b i = s.grain a b i := by
  unfold State.setKeeper; split <;> rfl
@[simp] theorem State.setKeeper_stage (u : Nat) (k : Keeper) (i : Nat) : (s.setKeeper u k).stage i = s.stage i := by
  unfold State.setKeeper; split <;> rfl
@[simp] theorem State.setKeeper_olink (u : Nat) (k : Keeper) (i : Nat) : (s.setKeeper u k).olink i = s.olink i := by
  unfold State.setKeeper; split <;> rfl

/-! ### `modSession` -/

@[simp] theorem State.modSession_pending (id : Nat) (k : Session → Session) : (s.modSession id k).pending = s.pending := (rfl)
@[simp] theorem State.modSession_regs (id : Nat) (k : Session → Session) : (s.modSession id k).regs = s.regs := (rfl)
@[simp] theorem State.modSession_mem (id : Nat) (k : Session → Session) : (s.modSession id k).mem = s.mem := (rfl)
@[simp] theorem State.modSession_poison (id : Nat) (k : Session → Session) : (s.modSession id k).poison = s.poison := (rfl)
@[simp] theorem State.modSession_tiles (id : Nat) (k : Session → Session) : (s.modSession id k).tiles = s.tiles := (rfl)
@[simp] theorem State.modSession_planes (id : Nat) (k : Session → Session) : (s.modSession id k).planes = s.planes := (rfl)
@[simp] theorem State.modSession_grains (id : Nat) (k : Session → Session) : (s.modSession id k).grains = s.grains := (rfl)
@[simp] theorem State.modSession_harts (id : Nat) (k : Session → Session) : (s.modSession id k).harts = s.harts := (rfl)
@[simp] theorem State.modSession_clus (id : Nat) (k : Session → Session) : (s.modSession id k).clus = s.clus := (rfl)
@[simp] theorem State.modSession_parts (id : Nat) (k : Session → Session) : (s.modSession id k).parts = s.parts := (rfl)
@[simp] theorem State.modSession_flds (id : Nat) (k : Session → Session) : (s.modSession id k).flds = s.flds := (rfl)
@[simp] theorem State.modSession_vpm (id : Nat) (k : Session → Session) : (s.modSession id k).vpm = s.vpm := (rfl)
@[simp] theorem State.modSession_flits (id : Nat) (k : Session → Session) : (s.modSession id k).flits = s.flits := (rfl)
@[simp] theorem State.modSession_pkts (id : Nat) (k : Session → Session) : (s.modSession id k).pkts = s.pkts := (rfl)
@[simp] theorem State.modSession_rbucket (id : Nat) (k : Session → Session) : (s.modSession id k).rbucket = s.rbucket := (rfl)
@[simp] theorem State.modSession_rturn (id : Nat) (k : Session → Session) : (s.modSession id k).rturn = s.rturn := (rfl)
@[simp] theorem State.modSession_net (id : Nat) (k : Session → Session) : (s.modSession id k).net = s.net := (rfl)
@[simp] theorem State.modSession_vports (id : Nat) (k : Session → Session) : (s.modSession id k).vports = s.vports := (rfl)
@[simp] theorem State.modSession_octWait (id : Nat) (k : Session → Session) : (s.modSession id k).octWait = s.octWait := (rfl)
@[simp] theorem State.modSession_dtime (id : Nat) (k : Session → Session) : (s.modSession id k).dtime = s.dtime := (rfl)
@[simp] theorem State.modSession_ev (id : Nat) (k : Session → Session) : (s.modSession id k).ev = s.ev := (rfl)
@[simp] theorem State.modSession_tim (id : Nat) (k : Session → Session) : (s.modSession id k).tim = s.tim := (rfl)
@[simp] theorem State.modSession_barn (id : Nat) (k : Session → Session) : (s.modSession id k).barn = s.barn := (rfl)
@[simp] theorem State.modSession_octIn (id : Nat) (k : Session → Session) : (s.modSession id k).octIn = s.octIn := (rfl)
@[simp] theorem State.modSession_olinks (id : Nat) (k : Session → Session) : (s.modSession id k).olinks = s.olinks := (rfl)
@[simp] theorem State.modSession_remotes (id : Nat) (k : Session → Session) : (s.modSession id k).remotes = s.remotes := (rfl)
@[simp] theorem State.modSession_boot (id : Nat) (k : Session → Session) : (s.modSession id k).boot = s.boot := (rfl)
@[simp] theorem State.modSession_free (id : Nat) (k : Session → Session) : (s.modSession id k).free = s.free := (rfl)
@[simp] theorem State.modSession_f (id : Nat) (k : Session → Session) (e : Fd) : (s.modSession id k).f e = s.f e := (rfl)
@[simp] theorem State.modSession_on (id : Nat) (k : Session → Session) (e : Fd) : (s.modSession id k).on e = s.on e := (rfl)
@[simp] theorem State.modSession_hart (id : Nat) (k : Session → Session) (g' : Nat) : (s.modSession id k).hart g' = s.hart g' := (rfl)
@[simp] theorem State.modSession_clu (id : Nat) (k : Session → Session) (i : Nat) : (s.modSession id k).clu i = s.clu i := (rfl)
@[simp] theorem State.modSession_part (id : Nat) (k : Session → Session) (i : Nat) : (s.modSession id k).part i = s.part i := (rfl)
@[simp] theorem State.modSession_fld (id : Nat) (k : Session → Session) (i : Nat) : (s.modSession id k).fld i = s.fld i := (rfl)
@[simp] theorem State.modSession_sreg (id : Nat) (k : Session → Session) (g' r : Nat) : (s.modSession id k).sreg g' r = s.sreg g' r := (rfl)
@[simp] theorem State.modSession_areg (id : Nat) (k : Session → Session) (g' r : Nat) : (s.modSession id k).areg g' r = s.areg g' r := (rfl)
@[simp] theorem State.modSession_pred (id : Nat) (k : Session → Session) (g' r : Nat) : (s.modSession id k).pred g' r = s.pred g' r := (rfl)
@[simp] theorem State.modSession_rd (id : Nat) (k : Session → Session) (b : Nat) : (s.modSession id k).rd b = s.rd b := (rfl)
@[simp] theorem State.modSession_copyU (id : Nat) (k : Session → Session) (i : Nat) : (s.modSession id k).copyU i = s.copyU i := (rfl)
@[simp] theorem State.modSession_now (id : Nat) (k : Session → Session) : (s.modSession id k).now = s.now := (rfl)
@[simp] theorem State.modSession_partOf (id : Nat) (k : Session → Session) (i : Nat) : (s.modSession id k).partOf i = s.partOf i := (rfl)
@[simp] theorem State.modSession_absent (id : Nat) (k : Session → Session) (i : Nat) : (s.modSession id k).absent i = s.absent i := (rfl)
@[simp] theorem State.modSession_poisoned (id : Nat) (k : Session → Session) (b m : Nat) : (s.modSession id k).poisoned b m = s.poisoned b m := (rfl)
@[simp] theorem State.modSession_tile (id : Nat) (k : Session → Session) (a b i : Nat) : (s.modSession id k).tile a b i = s.tile a b i := (rfl)
@[simp] theorem State.modSession_grain (id : Nat) (k : Session → Session) (a b i : Nat) : (s.modSession id k).grain a b i = s.grain a b i := (rfl)
@[simp] theorem State.modSession_stage (id : Nat) (k : Session → Session) (i : Nat) : (s.modSession id k).stage i = s.stage i := (rfl)
@[simp] theorem State.modSession_olink (id : Nat) (k : Session → Session) (i : Nat) : (s.modSession id k).olink i = s.olink i := (rfl)

/-! ### `setStage` -/

@[simp] theorem State.setStage_pending (k : Nat) (g : Stage) : (s.setStage k g).pending = s.pending := (rfl)
@[simp] theorem State.setStage_regs (k : Nat) (g : Stage) : (s.setStage k g).regs = s.regs := (rfl)
@[simp] theorem State.setStage_mem (k : Nat) (g : Stage) : (s.setStage k g).mem = s.mem := (rfl)
@[simp] theorem State.setStage_poison (k : Nat) (g : Stage) : (s.setStage k g).poison = s.poison := (rfl)
@[simp] theorem State.setStage_tiles (k : Nat) (g : Stage) : (s.setStage k g).tiles = s.tiles := (rfl)
@[simp] theorem State.setStage_planes (k : Nat) (g : Stage) : (s.setStage k g).planes = s.planes := (rfl)
@[simp] theorem State.setStage_grains (k : Nat) (g : Stage) : (s.setStage k g).grains = s.grains := (rfl)
@[simp] theorem State.setStage_harts (k : Nat) (g : Stage) : (s.setStage k g).harts = s.harts := (rfl)
@[simp] theorem State.setStage_clus (k : Nat) (g : Stage) : (s.setStage k g).clus = s.clus := (rfl)
@[simp] theorem State.setStage_parts (k : Nat) (g : Stage) : (s.setStage k g).parts = s.parts := (rfl)
@[simp] theorem State.setStage_flds (k : Nat) (g : Stage) : (s.setStage k g).flds = s.flds := (rfl)
@[simp] theorem State.setStage_vpm (k : Nat) (g : Stage) : (s.setStage k g).vpm = s.vpm := (rfl)
@[simp] theorem State.setStage_flits (k : Nat) (g : Stage) : (s.setStage k g).flits = s.flits := (rfl)
@[simp] theorem State.setStage_pkts (k : Nat) (g : Stage) : (s.setStage k g).pkts = s.pkts := (rfl)
@[simp] theorem State.setStage_rbucket (k : Nat) (g : Stage) : (s.setStage k g).rbucket = s.rbucket := (rfl)
@[simp] theorem State.setStage_rturn (k : Nat) (g : Stage) : (s.setStage k g).rturn = s.rturn := (rfl)
@[simp] theorem State.setStage_net (k : Nat) (g : Stage) : (s.setStage k g).net = s.net := (rfl)
@[simp] theorem State.setStage_vports (k : Nat) (g : Stage) : (s.setStage k g).vports = s.vports := (rfl)
@[simp] theorem State.setStage_octWait (k : Nat) (g : Stage) : (s.setStage k g).octWait = s.octWait := (rfl)
@[simp] theorem State.setStage_dtime (k : Nat) (g : Stage) : (s.setStage k g).dtime = s.dtime := (rfl)
@[simp] theorem State.setStage_tim (k : Nat) (g : Stage) : (s.setStage k g).tim = s.tim := (rfl)
@[simp] theorem State.setStage_barn (k : Nat) (g : Stage) : (s.setStage k g).barn = s.barn := (rfl)
@[simp] theorem State.setStage_olinks (k : Nat) (g : Stage) : (s.setStage k g).olinks = s.olinks := (rfl)
@[simp] theorem State.setStage_octIn (k : Nat) (g : Stage) : (s.setStage k g).octIn = s.octIn := (rfl)
@[simp] theorem State.setStage_remotes (k : Nat) (g : Stage) : (s.setStage k g).remotes = s.remotes := (rfl)
@[simp] theorem State.setStage_eth (k : Nat) (g : Stage) : (s.setStage k g).eth = s.eth := (rfl)
@[simp] theorem State.setStage_boot (k : Nat) (g : Stage) : (s.setStage k g).boot = s.boot := (rfl)
@[simp] theorem State.setStage_free (k : Nat) (g : Stage) : (s.setStage k g).free = s.free := (rfl)
@[simp] theorem State.setStage_f (k : Nat) (g : Stage) (e : Fd) : (s.setStage k g).f e = s.f e := (rfl)
@[simp] theorem State.setStage_on (k : Nat) (g : Stage) (e : Fd) : (s.setStage k g).on e = s.on e := (rfl)
@[simp] theorem State.setStage_hart (k : Nat) (g : Stage) (g' : Nat) : (s.setStage k g).hart g' = s.hart g' := (rfl)
@[simp] theorem State.setStage_clu (k : Nat) (g : Stage) (i : Nat) : (s.setStage k g).clu i = s.clu i := (rfl)
@[simp] theorem State.setStage_part (k : Nat) (g : Stage) (i : Nat) : (s.setStage k g).part i = s.part i := (rfl)
@[simp] theorem State.setStage_fld (k : Nat) (g : Stage) (i : Nat) : (s.setStage k g).fld i = s.fld i := (rfl)
@[simp] theorem State.setStage_sreg (k : Nat) (g : Stage) (g' r : Nat) : (s.setStage k g).sreg g' r = s.sreg g' r := (rfl)
@[simp] theorem State.setStage_areg (k : Nat) (g : Stage) (g' r : Nat) : (s.setStage k g).areg g' r = s.areg g' r := (rfl)
@[simp] theorem State.setStage_pred (k : Nat) (g : Stage) (g' r : Nat) : (s.setStage k g).pred g' r = s.pred g' r := (rfl)
@[simp] theorem State.setStage_rd (k : Nat) (g : Stage) (b : Nat) : (s.setStage k g).rd b = s.rd b := (rfl)
@[simp] theorem State.setStage_copyU (k : Nat) (g : Stage) (i : Nat) : (s.setStage k g).copyU i = s.copyU i := (rfl)
@[simp] theorem State.setStage_now (k : Nat) (g : Stage) : (s.setStage k g).now = s.now := (rfl)
@[simp] theorem State.setStage_partOf (k : Nat) (g : Stage) (i : Nat) : (s.setStage k g).partOf i = s.partOf i := (rfl)
@[simp] theorem State.setStage_absent (k : Nat) (g : Stage) (i : Nat) : (s.setStage k g).absent i = s.absent i := (rfl)
@[simp] theorem State.setStage_poisoned (k : Nat) (g : Stage) (b m : Nat) : (s.setStage k g).poisoned b m = s.poisoned b m := (rfl)
@[simp] theorem State.setStage_tile (k : Nat) (g : Stage) (a b i : Nat) : (s.setStage k g).tile a b i = s.tile a b i := (rfl)
@[simp] theorem State.setStage_grain (k : Nat) (g : Stage) (a b i : Nat) : (s.setStage k g).grain a b i = s.grain a b i := (rfl)
@[simp] theorem State.setStage_olink (k : Nat) (g : Stage) (i : Nat) : (s.setStage k g).olink i = s.olink i := (rfl)

/-! ### `setTile` -/

@[simp] theorem State.setTile_pending (n t o : Nat) (b : Byte) : (s.setTile n t o b).pending = s.pending := (rfl)
@[simp] theorem State.setTile_regs (n t o : Nat) (b : Byte) : (s.setTile n t o b).regs = s.regs := (rfl)
@[simp] theorem State.setTile_mem (n t o : Nat) (b : Byte) : (s.setTile n t o b).mem = s.mem := (rfl)
@[simp] theorem State.setTile_poison (n t o : Nat) (b : Byte) : (s.setTile n t o b).poison = s.poison := (rfl)
@[simp] theorem State.setTile_planes (n t o : Nat) (b : Byte) : (s.setTile n t o b).planes = s.planes := (rfl)
@[simp] theorem State.setTile_grains (n t o : Nat) (b : Byte) : (s.setTile n t o b).grains = s.grains := (rfl)
@[simp] theorem State.setTile_harts (n t o : Nat) (b : Byte) : (s.setTile n t o b).harts = s.harts := (rfl)
@[simp] theorem State.setTile_clus (n t o : Nat) (b : Byte) : (s.setTile n t o b).clus = s.clus := (rfl)
@[simp] theorem State.setTile_parts (n t o : Nat) (b : Byte) : (s.setTile n t o b).parts = s.parts := (rfl)
@[simp] theorem State.setTile_flds (n t o : Nat) (b : Byte) : (s.setTile n t o b).flds = s.flds := (rfl)
@[simp] theorem State.setTile_vpm (n t o : Nat) (b : Byte) : (s.setTile n t o b).vpm = s.vpm := (rfl)
@[simp] theorem State.setTile_flits (n t o : Nat) (b : Byte) : (s.setTile n t o b).flits = s.flits := (rfl)
@[simp] theorem State.setTile_pkts (n t o : Nat) (b : Byte) : (s.setTile n t o b).pkts = s.pkts := (rfl)
@[simp] theorem State.setTile_rbucket (n t o : Nat) (b : Byte) : (s.setTile n t o b).rbucket = s.rbucket := (rfl)
@[simp] theorem State.setTile_rturn (n t o : Nat) (b : Byte) : (s.setTile n t o b).rturn = s.rturn := (rfl)
@[simp] theorem State.setTile_net (n t o : Nat) (b : Byte) : (s.setTile n t o b).net = s.net := (rfl)
@[simp] theorem State.setTile_vports (n t o : Nat) (b : Byte) : (s.setTile n t o b).vports = s.vports := (rfl)
@[simp] theorem State.setTile_octWait (n t o : Nat) (b : Byte) : (s.setTile n t o b).octWait = s.octWait := (rfl)
@[simp] theorem State.setTile_dtime (n t o : Nat) (b : Byte) : (s.setTile n t o b).dtime = s.dtime := (rfl)
@[simp] theorem State.setTile_ev (n t o : Nat) (b : Byte) : (s.setTile n t o b).ev = s.ev := (rfl)
@[simp] theorem State.setTile_tim (n t o : Nat) (b : Byte) : (s.setTile n t o b).tim = s.tim := (rfl)
@[simp] theorem State.setTile_barn (n t o : Nat) (b : Byte) : (s.setTile n t o b).barn = s.barn := (rfl)
@[simp] theorem State.setTile_olinks (n t o : Nat) (b : Byte) : (s.setTile n t o b).olinks = s.olinks := (rfl)
@[simp] theorem State.setTile_octIn (n t o : Nat) (b : Byte) : (s.setTile n t o b).octIn = s.octIn := (rfl)
@[simp] theorem State.setTile_remotes (n t o : Nat) (b : Byte) : (s.setTile n t o b).remotes = s.remotes := (rfl)
@[simp] theorem State.setTile_eth (n t o : Nat) (b : Byte) : (s.setTile n t o b).eth = s.eth := (rfl)
@[simp] theorem State.setTile_boot (n t o : Nat) (b : Byte) : (s.setTile n t o b).boot = s.boot := (rfl)
@[simp] theorem State.setTile_free (n t o : Nat) (b : Byte) : (s.setTile n t o b).free = s.free := (rfl)
@[simp] theorem State.setTile_f (n t o : Nat) (b : Byte) (e : Fd) : (s.setTile n t o b).f e = s.f e := (rfl)
@[simp] theorem State.setTile_on (n t o : Nat) (b : Byte) (e : Fd) : (s.setTile n t o b).on e = s.on e := (rfl)
@[simp] theorem State.setTile_hart (n t o : Nat) (b : Byte) (g : Nat) : (s.setTile n t o b).hart g = s.hart g := (rfl)
@[simp] theorem State.setTile_clu (n t o : Nat) (b : Byte) (i : Nat) : (s.setTile n t o b).clu i = s.clu i := (rfl)
@[simp] theorem State.setTile_part (n t o : Nat) (b : Byte) (i : Nat) : (s.setTile n t o b).part i = s.part i := (rfl)
@[simp] theorem State.setTile_fld (n t o : Nat) (b : Byte) (i : Nat) : (s.setTile n t o b).fld i = s.fld i := (rfl)
@[simp] theorem State.setTile_sreg (n t o : Nat) (b : Byte) (g r : Nat) : (s.setTile n t o b).sreg g r = s.sreg g r := (rfl)
@[simp] theorem State.setTile_areg (n t o : Nat) (b : Byte) (g r : Nat) : (s.setTile n t o b).areg g r = s.areg g r := (rfl)
@[simp] theorem State.setTile_pred (n t o : Nat) (b : Byte) (g r : Nat) : (s.setTile n t o b).pred g r = s.pred g r := (rfl)
@[simp] theorem State.setTile_rd (n t o : Nat) (b : Byte) (b' : Nat) : (s.setTile n t o b).rd b' = s.rd b' := (rfl)
@[simp] theorem State.setTile_copyU (n t o : Nat) (b : Byte) (i : Nat) : (s.setTile n t o b).copyU i = s.copyU i := (rfl)
@[simp] theorem State.setTile_now (n t o : Nat) (b : Byte) : (s.setTile n t o b).now = s.now := (rfl)
@[simp] theorem State.setTile_partOf (n t o : Nat) (b : Byte) (i : Nat) : (s.setTile n t o b).partOf i = s.partOf i := (rfl)
@[simp] theorem State.setTile_absent (n t o : Nat) (b : Byte) (i : Nat) : (s.setTile n t o b).absent i = s.absent i := (rfl)
@[simp] theorem State.setTile_poisoned (n t o : Nat) (b : Byte) (b' m : Nat) : (s.setTile n t o b).poisoned b' m = s.poisoned b' m := (rfl)
@[simp] theorem State.setTile_grain (n t o : Nat) (b : Byte) (a b' i : Nat) : (s.setTile n t o b).grain a b' i = s.grain a b' i := (rfl)
@[simp] theorem State.setTile_stage (n t o : Nat) (b : Byte) (i : Nat) : (s.setTile n t o b).stage i = s.stage i := (rfl)
@[simp] theorem State.setTile_olink (n t o : Nat) (b : Byte) (i : Nat) : (s.setTile n t o b).olink i = s.olink i := (rfl)

/-! ### `setPlane` -/

@[simp] theorem State.setPlane_pending (n t o : Nat) (b : Byte) : (s.setPlane n t o b).pending = s.pending := (rfl)
@[simp] theorem State.setPlane_regs (n t o : Nat) (b : Byte) : (s.setPlane n t o b).regs = s.regs := (rfl)
@[simp] theorem State.setPlane_mem (n t o : Nat) (b : Byte) : (s.setPlane n t o b).mem = s.mem := (rfl)
@[simp] theorem State.setPlane_poison (n t o : Nat) (b : Byte) : (s.setPlane n t o b).poison = s.poison := (rfl)
@[simp] theorem State.setPlane_tiles (n t o : Nat) (b : Byte) : (s.setPlane n t o b).tiles = s.tiles := (rfl)
@[simp] theorem State.setPlane_grains (n t o : Nat) (b : Byte) : (s.setPlane n t o b).grains = s.grains := (rfl)
@[simp] theorem State.setPlane_harts (n t o : Nat) (b : Byte) : (s.setPlane n t o b).harts = s.harts := (rfl)
@[simp] theorem State.setPlane_clus (n t o : Nat) (b : Byte) : (s.setPlane n t o b).clus = s.clus := (rfl)
@[simp] theorem State.setPlane_parts (n t o : Nat) (b : Byte) : (s.setPlane n t o b).parts = s.parts := (rfl)
@[simp] theorem State.setPlane_flds (n t o : Nat) (b : Byte) : (s.setPlane n t o b).flds = s.flds := (rfl)
@[simp] theorem State.setPlane_vpm (n t o : Nat) (b : Byte) : (s.setPlane n t o b).vpm = s.vpm := (rfl)
@[simp] theorem State.setPlane_flits (n t o : Nat) (b : Byte) : (s.setPlane n t o b).flits = s.flits := (rfl)
@[simp] theorem State.setPlane_pkts (n t o : Nat) (b : Byte) : (s.setPlane n t o b).pkts = s.pkts := (rfl)
@[simp] theorem State.setPlane_rbucket (n t o : Nat) (b : Byte) : (s.setPlane n t o b).rbucket = s.rbucket := (rfl)
@[simp] theorem State.setPlane_rturn (n t o : Nat) (b : Byte) : (s.setPlane n t o b).rturn = s.rturn := (rfl)
@[simp] theorem State.setPlane_net (n t o : Nat) (b : Byte) : (s.setPlane n t o b).net = s.net := (rfl)
@[simp] theorem State.setPlane_vports (n t o : Nat) (b : Byte) : (s.setPlane n t o b).vports = s.vports := (rfl)
@[simp] theorem State.setPlane_octWait (n t o : Nat) (b : Byte) : (s.setPlane n t o b).octWait = s.octWait := (rfl)
@[simp] theorem State.setPlane_dtime (n t o : Nat) (b : Byte) : (s.setPlane n t o b).dtime = s.dtime := (rfl)
@[simp] theorem State.setPlane_ev (n t o : Nat) (b : Byte) : (s.setPlane n t o b).ev = s.ev := (rfl)
@[simp] theorem State.setPlane_tim (n t o : Nat) (b : Byte) : (s.setPlane n t o b).tim = s.tim := (rfl)
@[simp] theorem State.setPlane_barn (n t o : Nat) (b : Byte) : (s.setPlane n t o b).barn = s.barn := (rfl)
@[simp] theorem State.setPlane_olinks (n t o : Nat) (b : Byte) : (s.setPlane n t o b).olinks = s.olinks := (rfl)
@[simp] theorem State.setPlane_octIn (n t o : Nat) (b : Byte) : (s.setPlane n t o b).octIn = s.octIn := (rfl)
@[simp] theorem State.setPlane_remotes (n t o : Nat) (b : Byte) : (s.setPlane n t o b).remotes = s.remotes := (rfl)
@[simp] theorem State.setPlane_eth (n t o : Nat) (b : Byte) : (s.setPlane n t o b).eth = s.eth := (rfl)
@[simp] theorem State.setPlane_boot (n t o : Nat) (b : Byte) : (s.setPlane n t o b).boot = s.boot := (rfl)
@[simp] theorem State.setPlane_free (n t o : Nat) (b : Byte) : (s.setPlane n t o b).free = s.free := (rfl)
@[simp] theorem State.setPlane_f (n t o : Nat) (b : Byte) (e : Fd) : (s.setPlane n t o b).f e = s.f e := (rfl)
@[simp] theorem State.setPlane_on (n t o : Nat) (b : Byte) (e : Fd) : (s.setPlane n t o b).on e = s.on e := (rfl)
@[simp] theorem State.setPlane_hart (n t o : Nat) (b : Byte) (g : Nat) : (s.setPlane n t o b).hart g = s.hart g := (rfl)
@[simp] theorem State.setPlane_clu (n t o : Nat) (b : Byte) (i : Nat) : (s.setPlane n t o b).clu i = s.clu i := (rfl)
@[simp] theorem State.setPlane_part (n t o : Nat) (b : Byte) (i : Nat) : (s.setPlane n t o b).part i = s.part i := (rfl)
@[simp] theorem State.setPlane_fld (n t o : Nat) (b : Byte) (i : Nat) : (s.setPlane n t o b).fld i = s.fld i := (rfl)
@[simp] theorem State.setPlane_sreg (n t o : Nat) (b : Byte) (g r : Nat) : (s.setPlane n t o b).sreg g r = s.sreg g r := (rfl)
@[simp] theorem State.setPlane_areg (n t o : Nat) (b : Byte) (g r : Nat) : (s.setPlane n t o b).areg g r = s.areg g r := (rfl)
@[simp] theorem State.setPlane_pred (n t o : Nat) (b : Byte) (g r : Nat) : (s.setPlane n t o b).pred g r = s.pred g r := (rfl)
@[simp] theorem State.setPlane_rd (n t o : Nat) (b : Byte) (b' : Nat) : (s.setPlane n t o b).rd b' = s.rd b' := (rfl)
@[simp] theorem State.setPlane_copyU (n t o : Nat) (b : Byte) (i : Nat) : (s.setPlane n t o b).copyU i = s.copyU i := (rfl)
@[simp] theorem State.setPlane_now (n t o : Nat) (b : Byte) : (s.setPlane n t o b).now = s.now := (rfl)
@[simp] theorem State.setPlane_partOf (n t o : Nat) (b : Byte) (i : Nat) : (s.setPlane n t o b).partOf i = s.partOf i := (rfl)
@[simp] theorem State.setPlane_absent (n t o : Nat) (b : Byte) (i : Nat) : (s.setPlane n t o b).absent i = s.absent i := (rfl)
@[simp] theorem State.setPlane_poisoned (n t o : Nat) (b : Byte) (b' m : Nat) : (s.setPlane n t o b).poisoned b' m = s.poisoned b' m := (rfl)
@[simp] theorem State.setPlane_tile (n t o : Nat) (b : Byte) (a b' i : Nat) : (s.setPlane n t o b).tile a b' i = s.tile a b' i := (rfl)
@[simp] theorem State.setPlane_grain (n t o : Nat) (b : Byte) (a b' i : Nat) : (s.setPlane n t o b).grain a b' i = s.grain a b' i := (rfl)
@[simp] theorem State.setPlane_stage (n t o : Nat) (b : Byte) (i : Nat) : (s.setPlane n t o b).stage i = s.stage i := (rfl)
@[simp] theorem State.setPlane_olink (n t o : Nat) (b : Byte) (i : Nat) : (s.setPlane n t o b).olink i = s.olink i := (rfl)

/-! ### `setGrain` -/

@[simp] theorem State.setGrain_pending (n g i : Nat) (v : Int) : (s.setGrain n g i v).pending = s.pending := (rfl)
@[simp] theorem State.setGrain_regs (n g i : Nat) (v : Int) : (s.setGrain n g i v).regs = s.regs := (rfl)
@[simp] theorem State.setGrain_mem (n g i : Nat) (v : Int) : (s.setGrain n g i v).mem = s.mem := (rfl)
@[simp] theorem State.setGrain_poison (n g i : Nat) (v : Int) : (s.setGrain n g i v).poison = s.poison := (rfl)
@[simp] theorem State.setGrain_tiles (n g i : Nat) (v : Int) : (s.setGrain n g i v).tiles = s.tiles := (rfl)
@[simp] theorem State.setGrain_planes (n g i : Nat) (v : Int) : (s.setGrain n g i v).planes = s.planes := (rfl)
@[simp] theorem State.setGrain_harts (n g i : Nat) (v : Int) : (s.setGrain n g i v).harts = s.harts := (rfl)
@[simp] theorem State.setGrain_clus (n g i : Nat) (v : Int) : (s.setGrain n g i v).clus = s.clus := (rfl)
@[simp] theorem State.setGrain_parts (n g i : Nat) (v : Int) : (s.setGrain n g i v).parts = s.parts := (rfl)
@[simp] theorem State.setGrain_flds (n g i : Nat) (v : Int) : (s.setGrain n g i v).flds = s.flds := (rfl)
@[simp] theorem State.setGrain_vpm (n g i : Nat) (v : Int) : (s.setGrain n g i v).vpm = s.vpm := (rfl)
@[simp] theorem State.setGrain_flits (n g i : Nat) (v : Int) : (s.setGrain n g i v).flits = s.flits := (rfl)
@[simp] theorem State.setGrain_pkts (n g i : Nat) (v : Int) : (s.setGrain n g i v).pkts = s.pkts := (rfl)
@[simp] theorem State.setGrain_rbucket (n g i : Nat) (v : Int) : (s.setGrain n g i v).rbucket = s.rbucket := (rfl)
@[simp] theorem State.setGrain_rturn (n g i : Nat) (v : Int) : (s.setGrain n g i v).rturn = s.rturn := (rfl)
@[simp] theorem State.setGrain_net (n g i : Nat) (v : Int) : (s.setGrain n g i v).net = s.net := (rfl)
@[simp] theorem State.setGrain_vports (n g i : Nat) (v : Int) : (s.setGrain n g i v).vports = s.vports := (rfl)
@[simp] theorem State.setGrain_octWait (n g i : Nat) (v : Int) : (s.setGrain n g i v).octWait = s.octWait := (rfl)
@[simp] theorem State.setGrain_dtime (n g i : Nat) (v : Int) : (s.setGrain n g i v).dtime = s.dtime := (rfl)
@[simp] theorem State.setGrain_ev (n g i : Nat) (v : Int) : (s.setGrain n g i v).ev = s.ev := (rfl)
@[simp] theorem State.setGrain_tim (n g i : Nat) (v : Int) : (s.setGrain n g i v).tim = s.tim := (rfl)
@[simp] theorem State.setGrain_barn (n g i : Nat) (v : Int) : (s.setGrain n g i v).barn = s.barn := (rfl)
@[simp] theorem State.setGrain_olinks (n g i : Nat) (v : Int) : (s.setGrain n g i v).olinks = s.olinks := (rfl)
@[simp] theorem State.setGrain_octIn (n g i : Nat) (v : Int) : (s.setGrain n g i v).octIn = s.octIn := (rfl)
@[simp] theorem State.setGrain_remotes (n g i : Nat) (v : Int) : (s.setGrain n g i v).remotes = s.remotes := (rfl)
@[simp] theorem State.setGrain_eth (n g i : Nat) (v : Int) : (s.setGrain n g i v).eth = s.eth := (rfl)
@[simp] theorem State.setGrain_boot (n g i : Nat) (v : Int) : (s.setGrain n g i v).boot = s.boot := (rfl)
@[simp] theorem State.setGrain_free (n g i : Nat) (v : Int) : (s.setGrain n g i v).free = s.free := (rfl)
@[simp] theorem State.setGrain_f (n g i : Nat) (v : Int) (e : Fd) : (s.setGrain n g i v).f e = s.f e := (rfl)
@[simp] theorem State.setGrain_on (n g i : Nat) (v : Int) (e : Fd) : (s.setGrain n g i v).on e = s.on e := (rfl)
@[simp] theorem State.setGrain_hart (n g i : Nat) (v : Int) (g' : Nat) : (s.setGrain n g i v).hart g' = s.hart g' := (rfl)
@[simp] theorem State.setGrain_clu (n g i : Nat) (v : Int) (i' : Nat) : (s.setGrain n g i v).clu i' = s.clu i' := (rfl)
@[simp] theorem State.setGrain_part (n g i : Nat) (v : Int) (i' : Nat) : (s.setGrain n g i v).part i' = s.part i' := (rfl)
@[simp] theorem State.setGrain_fld (n g i : Nat) (v : Int) (i' : Nat) : (s.setGrain n g i v).fld i' = s.fld i' := (rfl)
@[simp] theorem State.setGrain_sreg (n g i : Nat) (v : Int) (g' r : Nat) : (s.setGrain n g i v).sreg g' r = s.sreg g' r := (rfl)
@[simp] theorem State.setGrain_areg (n g i : Nat) (v : Int) (g' r : Nat) : (s.setGrain n g i v).areg g' r = s.areg g' r := (rfl)
@[simp] theorem State.setGrain_pred (n g i : Nat) (v : Int) (g' r : Nat) : (s.setGrain n g i v).pred g' r = s.pred g' r := (rfl)
@[simp] theorem State.setGrain_rd (n g i : Nat) (v : Int) (b : Nat) : (s.setGrain n g i v).rd b = s.rd b := (rfl)
@[simp] theorem State.setGrain_copyU (n g i : Nat) (v : Int) (i' : Nat) : (s.setGrain n g i v).copyU i' = s.copyU i' := (rfl)
@[simp] theorem State.setGrain_now (n g i : Nat) (v : Int) : (s.setGrain n g i v).now = s.now := (rfl)
@[simp] theorem State.setGrain_partOf (n g i : Nat) (v : Int) (i' : Nat) : (s.setGrain n g i v).partOf i' = s.partOf i' := (rfl)
@[simp] theorem State.setGrain_absent (n g i : Nat) (v : Int) (i' : Nat) : (s.setGrain n g i v).absent i' = s.absent i' := (rfl)
@[simp] theorem State.setGrain_poisoned (n g i : Nat) (v : Int) (b m : Nat) : (s.setGrain n g i v).poisoned b m = s.poisoned b m := (rfl)
@[simp] theorem State.setGrain_tile (n g i : Nat) (v : Int) (a b i' : Nat) : (s.setGrain n g i v).tile a b i' = s.tile a b i' := (rfl)
@[simp] theorem State.setGrain_stage (n g i : Nat) (v : Int) (i' : Nat) : (s.setGrain n g i v).stage i' = s.stage i' := (rfl)
@[simp] theorem State.setGrain_olink (n g i : Nat) (v : Int) (i' : Nat) : (s.setGrain n g i v).olink i' = s.olink i' := (rfl)

/-! ### `wr` -/

@[simp] theorem State.wr_pending (a : Nat) (b : Byte) : (s.wr a b).pending = s.pending := (rfl)
@[simp] theorem State.wr_regs (a : Nat) (b : Byte) : (s.wr a b).regs = s.regs := (rfl)
@[simp] theorem State.wr_poison (a : Nat) (b : Byte) : (s.wr a b).poison = s.poison := (rfl)
@[simp] theorem State.wr_tiles (a : Nat) (b : Byte) : (s.wr a b).tiles = s.tiles := (rfl)
@[simp] theorem State.wr_planes (a : Nat) (b : Byte) : (s.wr a b).planes = s.planes := (rfl)
@[simp] theorem State.wr_grains (a : Nat) (b : Byte) : (s.wr a b).grains = s.grains := (rfl)
@[simp] theorem State.wr_harts (a : Nat) (b : Byte) : (s.wr a b).harts = s.harts := (rfl)
@[simp] theorem State.wr_clus (a : Nat) (b : Byte) : (s.wr a b).clus = s.clus := (rfl)
@[simp] theorem State.wr_parts (a : Nat) (b : Byte) : (s.wr a b).parts = s.parts := (rfl)
@[simp] theorem State.wr_flds (a : Nat) (b : Byte) : (s.wr a b).flds = s.flds := (rfl)
@[simp] theorem State.wr_vpm (a : Nat) (b : Byte) : (s.wr a b).vpm = s.vpm := (rfl)
@[simp] theorem State.wr_flits (a : Nat) (b : Byte) : (s.wr a b).flits = s.flits := (rfl)
@[simp] theorem State.wr_pkts (a : Nat) (b : Byte) : (s.wr a b).pkts = s.pkts := (rfl)
@[simp] theorem State.wr_rbucket (a : Nat) (b : Byte) : (s.wr a b).rbucket = s.rbucket := (rfl)
@[simp] theorem State.wr_rturn (a : Nat) (b : Byte) : (s.wr a b).rturn = s.rturn := (rfl)
@[simp] theorem State.wr_net (a : Nat) (b : Byte) : (s.wr a b).net = s.net := (rfl)
@[simp] theorem State.wr_vports (a : Nat) (b : Byte) : (s.wr a b).vports = s.vports := (rfl)
@[simp] theorem State.wr_octWait (a : Nat) (b : Byte) : (s.wr a b).octWait = s.octWait := (rfl)
@[simp] theorem State.wr_dtime (a : Nat) (b : Byte) : (s.wr a b).dtime = s.dtime := (rfl)
@[simp] theorem State.wr_ev (a : Nat) (b : Byte) : (s.wr a b).ev = s.ev := (rfl)
@[simp] theorem State.wr_tim (a : Nat) (b : Byte) : (s.wr a b).tim = s.tim := (rfl)
@[simp] theorem State.wr_barn (a : Nat) (b : Byte) : (s.wr a b).barn = s.barn := (rfl)
@[simp] theorem State.wr_olinks (a : Nat) (b : Byte) : (s.wr a b).olinks = s.olinks := (rfl)
@[simp] theorem State.wr_octIn (a : Nat) (b : Byte) : (s.wr a b).octIn = s.octIn := (rfl)
@[simp] theorem State.wr_remotes (a : Nat) (b : Byte) : (s.wr a b).remotes = s.remotes := (rfl)
@[simp] theorem State.wr_eth (a : Nat) (b : Byte) : (s.wr a b).eth = s.eth := (rfl)
@[simp] theorem State.wr_boot (a : Nat) (b : Byte) : (s.wr a b).boot = s.boot := (rfl)
@[simp] theorem State.wr_free (a : Nat) (b : Byte) : (s.wr a b).free = s.free := (rfl)
@[simp] theorem State.wr_f (a : Nat) (b : Byte) (e : Fd) : (s.wr a b).f e = s.f e := (rfl)
@[simp] theorem State.wr_on (a : Nat) (b : Byte) (e : Fd) : (s.wr a b).on e = s.on e := (rfl)
@[simp] theorem State.wr_hart (a : Nat) (b : Byte) (g : Nat) : (s.wr a b).hart g = s.hart g := (rfl)
@[simp] theorem State.wr_clu (a : Nat) (b : Byte) (i : Nat) : (s.wr a b).clu i = s.clu i := (rfl)
@[simp] theorem State.wr_part (a : Nat) (b : Byte) (i : Nat) : (s.wr a b).part i = s.part i := (rfl)
@[simp] theorem State.wr_fld (a : Nat) (b : Byte) (i : Nat) : (s.wr a b).fld i = s.fld i := (rfl)
@[simp] theorem State.wr_sreg (a : Nat) (b : Byte) (g r : Nat) : (s.wr a b).sreg g r = s.sreg g r := (rfl)
@[simp] theorem State.wr_areg (a : Nat) (b : Byte) (g r : Nat) : (s.wr a b).areg g r = s.areg g r := (rfl)
@[simp] theorem State.wr_pred (a : Nat) (b : Byte) (g r : Nat) : (s.wr a b).pred g r = s.pred g r := (rfl)
@[simp] theorem State.wr_copyU (a : Nat) (b : Byte) (i : Nat) : (s.wr a b).copyU i = s.copyU i := (rfl)
@[simp] theorem State.wr_now (a : Nat) (b : Byte) : (s.wr a b).now = s.now := (rfl)
@[simp] theorem State.wr_partOf (a : Nat) (b : Byte) (i : Nat) : (s.wr a b).partOf i = s.partOf i := (rfl)
@[simp] theorem State.wr_absent (a : Nat) (b : Byte) (i : Nat) : (s.wr a b).absent i = s.absent i := (rfl)
@[simp] theorem State.wr_poisoned (a : Nat) (b : Byte) (b' m : Nat) : (s.wr a b).poisoned b' m = s.poisoned b' m := (rfl)
@[simp] theorem State.wr_tile (a : Nat) (b : Byte) (a' b' i : Nat) : (s.wr a b).tile a' b' i = s.tile a' b' i := (rfl)
@[simp] theorem State.wr_grain (a : Nat) (b : Byte) (a' b' i : Nat) : (s.wr a b).grain a' b' i = s.grain a' b' i := (rfl)
@[simp] theorem State.wr_stage (a : Nat) (b : Byte) (i : Nat) : (s.wr a b).stage i = s.stage i := (rfl)
@[simp] theorem State.wr_olink (a : Nat) (b : Byte) (i : Nat) : (s.wr a b).olink i = s.olink i := (rfl)

/-! ### What each update writes -/

/-- A field reads no more than its width holds. -/
theorem State.f_lt (d : Fd) : s.f d < 2 ^ d.wid := Nat.mod_lt _ (Nat.two_pow_pos _)
@[simp] theorem State.f_setF_self (d : Fd) (v : Nat) : (s.setF d v).f d = v % 2 ^ d.wid := by
  simp [State.f, State.setF]
theorem State.f_setF_ne (d e : Fd) (v : Nat) (h : e.key ≠ d.key) : (s.setF d v).f e = s.f e := by
  simp [State.f, State.setF, Store.get_set_other _ _ _ _ _ _ h]
theorem State.f_bump_self (d : Fd) (n : Nat) : (s.bump d n).f d = min (s.f d + n) (2 ^ d.wid - 1) := by
  simp only [State.bump, State.f_setF_self]
  have : 0 < 2 ^ d.wid := Nat.two_pow_pos _
  exact Nat.mod_eq_of_lt (by omega)
theorem State.f_bump_ne (d e : Fd) (n : Nat) (h : e.key ≠ d.key) : (s.bump d n).f e = s.f e := State.f_setF_ne s d e _ h

@[simp] theorem State.hart_setHart_self (h : Nat) (x : Hart) : (s.setHart h x).hart h = x := by simp [State.hart, State.setHart]
theorem State.hart_setHart_ne (h g : Nat) (x : Hart) (hg : g ≠ h) : (s.setHart h x).hart g = s.hart g := by
  simp [State.hart, State.setHart, Store.get_set, hg]
@[simp] theorem State.hart_modHart_self (h : Nat) (k : Hart → Hart) : (s.modHart h k).hart h = k (s.hart h) := by simp [State.modHart]
theorem State.hart_modHart_ne (h g : Nat) (k : Hart → Hart) (hg : g ≠ h) : (s.modHart h k).hart g = s.hart g :=
  State.hart_setHart_ne s h g _ hg
@[simp] theorem State.clu_modClu_self (c : Nat) (k : Clu → Clu) : (s.modClu c k).clu c = k (s.clu c) := by
  simp [State.clu, State.modClu, State.setClu]
theorem State.clu_modClu_ne (c i : Nat) (k : Clu → Clu) (h : i ≠ c) : (s.modClu c k).clu i = s.clu i := by
  simp [State.clu, State.modClu, State.setClu, Store.get_set, h]
@[simp] theorem State.part_modPart_self (p : Nat) (k : Part → Part) : (s.modPart p k).part p = k (s.part p) := by
  simp [State.part, State.modPart, State.setPart]
theorem State.part_modPart_ne (p i : Nat) (k : Part → Part) (h : i ≠ p) : (s.modPart p k).part i = s.part i := by
  simp [State.part, State.modPart, State.setPart, Store.get_set, h]
@[simp] theorem State.fld_modFld_self (f : Nat) (k : Fld → Fld) : (s.modFld f k).fld f = k (s.fld f) := by
  simp [State.fld, State.modFld, State.setFld]
@[simp] theorem State.olink_modLink_self (l : Nat) (k : OLink → OLink) : (s.modLink l k).olink l = k (s.olink l) := by
  simp [State.olink, State.modLink]
@[simp] theorem State.remote_setRemote_self (c k : Nat) (r : Option Remote) : (s.setRemote c k r).remote c k = r := by
  simp [State.remote, State.setRemote]
@[simp] theorem State.stage_setStage_self (k : Nat) (g : Stage) : (s.setStage k g).stage k = g := by simp [State.stage, State.setStage]
theorem State.stage_setStage_ne (k j : Nat) (g : Stage) (h : j ≠ k) : (s.setStage k g).stage j = s.stage j := by
  simp [State.stage, State.setStage, Store.get_set, h]

/-- S0 reads 0 and discards writes; another scalar register reads what was written. -/
theorem State.sreg_setS (h g r q : Nat) (v : Word) :
    (s.setS h r v).sreg g q = if g = h ∧ q = r ∧ r ≠ 0 then v else s.sreg g q := by
  unfold State.setS State.sreg
  by_cases h0 : q = 0 <;> by_cases h1 : r = 0 <;> by_cases h2 : g = h <;> simp_all [State.hart_modHart_ne, Store.get_set]
  · omega
/-- P0 reads 1 and discards writes. -/
theorem State.pred_zero (h : Nat) : s.pred h 0 = true := (rfl)
theorem State.areg_setA (h g r q : Nat) (v : Off48) : (s.setA h r v).areg g q = if g = h ∧ q = r then v else s.areg g q := by
  unfold State.setA State.areg
  by_cases h2 : g = h <;> simp_all [State.hart_modHart_ne, Store.get_set]

@[simp] theorem State.vport_setVport_self (pl : Nat) (v : VPort) : (s.setVport pl v).vport pl = v := by simp [State.vport, State.setVport]
theorem State.vport_setVport_ne (pl q : Nat) (v : VPort) (h : q ≠ pl) : (s.setVport pl v).vport q = s.vport q := by
  simp [State.vport, State.setVport, Store.get_set, h]
@[simp] theorem State.keeper_setKeeper_self (u : Nat) (k : Keeper) : (s.setKeeper u k).keeper u = k := by
  unfold State.setKeeper State.keeper; split <;> simp_all [State.modKeep, State.modTim]

@[simp] theorem State.advanceTo_dtime (t : Nat) : (s.advanceTo t).dtime = max s.dtime t := (rfl)
theorem State.le_advanceTo (t : Nat) : t ≤ (s.advanceTo t).dtime := Nat.le_max_right ..

end Sys2Proof.Machine
end

