-- ==== Sys2Proof/Laws/FrameMem.lean ====
section
/-!
SUPPORT. Operations that leave the memory of the device address space as it was: one lemma per operation.
-/

namespace Sys2Proof.Machine

theorem mem_foldl {α : Type} (g : State → α → State) (h : ∀ t a, (g t a).mem = t.mem) (l : List α) (s : State) :
    (l.foldl g s).mem = s.mem := by
  induction l generalizing s with
  | nil => rfl
  | cons a l ih => rw [List.foldl_cons, ih, h]
theorem mem_foldl1 {α β : Type} (g : State × β → α → State × β) (h : ∀ t a, (g t a).1.mem = t.1.mem) (l : List α) (x : State × β) :
    (l.foldl g x).1.mem = x.1.mem := by
  induction l generalizing x with
  | nil => rfl
  | cons a l ih => rw [List.foldl_cons, ih, h]
theorem mem_ite (c : Prop) [Decidable c] (a b : State) : (if c then a else b).mem = if c then a.mem else b.mem := by split <;> rfl

@[simp] theorem State.advanceCopy_mem (s : State) (c t : Nat) :
    (State.advanceCopy s c t).mem = s.mem := by simp [State.advanceCopy]

@[simp] theorem State.takeFree_mem (s : State) :
    (State.takeFree s).2.mem = s.mem := by simp [State.takeFree]

@[simp] theorem State.alarmIn_mem (s : State) (e : EvRec) :
    (State.alarmIn s e).mem = s.mem := by simp [State.alarmIn, mem_ite]

@[simp] theorem State.raise_mem (s : State) (cls code part kind unit data : Nat) :
    (State.raise s cls code part kind unit data).mem = s.mem := by simp [State.raise, mem_ite]

@[simp] theorem State.raiseCore_mem (s : State) (cls code n data : Nat) :
    (State.raiseCore s cls code n data).mem = s.mem := by simp [State.raiseCore]

@[simp] theorem State.raiseClu_mem (s : State) (cls code c data : Nat) :
    (State.raiseClu s cls code c data).mem = s.mem := by simp [State.raiseClu]

@[simp] theorem State.raiseHart_mem (s : State) (cls code h data : Nat) :
    (State.raiseHart s cls code h data).mem = s.mem := by simp [State.raiseHart, mem_ite]

@[simp] theorem State.raiseMemUe_mem (s : State) (a : Nat) :
    (State.raiseMemUe s a).mem = s.mem := by
  unfold State.raiseMemUe; split <;> simp

@[simp] theorem State.ledgerFix_mem (s : State) (p t : Nat) :
    (State.ledgerFix s p t).mem = s.mem := by
  unfold State.ledgerFix; dsimp only; (repeat' (first | rfl | (apply mem_foldl; intros) | (rw [mem_ite]) | split | simp [mem_ite, mem_foldl]))

@[simp] theorem State.ledgerAdd_mem (s : State) (p t n : Nat) :
    (State.ledgerAdd s p t n).mem = s.mem := by simp [State.ledgerAdd, mem_ite]

@[simp] theorem State.setRate_mem (s : State) (r : Int) :
    (State.setRate s r).mem = s.mem := by simp [State.setRate]

@[simp] theorem State.wrapNow_mem (s : State) :
    (State.wrapNow s).mem = s.mem := by simp [State.wrapNow]

@[simp] theorem State.wrapSoon_mem (s : State) :
    (State.wrapSoon s).mem = s.mem := by simp [State.wrapSoon, mem_ite]

@[simp] theorem State.count_mem (s : State) :
    (State.count s).mem = s.mem := by simp [State.count, mem_ite]

@[simp] theorem State.toMultiple_mem (s : State) (ns : Nat) :
    (State.toMultiple s ns).mem = s.mem := by simp [State.toMultiple]

@[simp] theorem State.loadCopy_mem (s : State) (c : Nat) :
    (State.loadCopy s c).mem = s.mem := by simp [State.loadCopy]

@[simp] theorem State.reSource_mem (s : State) :
    (State.reSource s).mem = s.mem := by simp [State.reSource, mem_ite]

@[simp] theorem State.timeStart_mem (s : State) :
    (State.timeStart s).mem = s.mem := by simp [State.timeStart]

@[simp] theorem State.trim_mem (s : State) (e : Int) (lim : Nat) :
    (State.trim s e lim).mem = s.mem := by simp [State.trim]

@[simp] theorem State.setEpoch_mem (s : State) (ns : Nat) :
    (State.setEpoch s ns).mem = s.mem := by simp [State.setEpoch]

@[simp] theorem State.emit_mem (s : State) (cls : Nat) (l : List Nat) :
    (State.emit s cls l).mem = s.mem := by simp [State.emit, mem_ite]

@[simp] theorem State.hostAbsent_mem (s : State) :
    (State.hostAbsent s).mem = s.mem := by simp [State.hostAbsent]

@[simp] theorem State.sendFrame_mem (s : State) :
    (State.sendFrame s).mem = s.mem := by
  unfold State.sendFrame; (repeat' split) <;> simp

@[simp] theorem State.sendBefore_mem (s : State) (fuel : Nat) :
    (State.sendBefore s fuel).mem = s.mem := by
  induction fuel generalizing s with
  | zero => rfl
  | succ k ih => unfold State.sendBefore; split <;> simp [ih]

@[simp] theorem State.caddySend_mem (s : State) (id typ : Nat) (d : List Byte) :
    (State.caddySend s id typ d).mem = s.mem := by
  unfold State.caddySend; split <;> simp [mem_foldl]

@[simp] theorem State.orRegionFlags_mem (s : State) (n i : Nat) (g : Flags) :
    (State.orRegionFlags s n i g).mem = s.mem := by simp [State.orRegionFlags, mem_ite]

@[simp] theorem State.openClear_mem (s : State) (n i : Nat) (scale : Int) (hb : Nat) :
    (State.openClear s n i scale hb).mem = s.mem := by simp [State.openClear]

@[simp] theorem State.fsumStatus_mem (s : State) (h : Nat) (st : Status) :
    (State.fsumStatus s h st).mem = s.mem := by
  unfold State.fsumStatus; split <;> simp

@[simp] theorem State.setTileLe_mem (s : State) (n t o v : Nat) (k : Nat) :
    (State.setTileLe s n t o v k).mem = s.mem := by
  induction k generalizing s o v with
  | zero => rfl
  | succ k ih => simp [State.setTileLe, ih]

@[simp] theorem State.setElem_mem (s : State) (f : Fmt) (n t i v : Nat) :
    (State.setElem s f n t i v).mem = s.mem := by simp [State.setElem, mem_ite]

@[simp] theorem State.setRunBits_mem (s : State) (f : Fmt) (n t0 j v : Nat) :
    (State.setRunBits s f n t0 j v).mem = s.mem := by simp [State.setRunBits]

@[simp] theorem State.setGrainPlane_mem (s : State) (n t : Nat) (e : Int) (g : Flags) :
    (State.setGrainPlane s n t e g).mem = s.mem := by simp [State.setGrainPlane, mem_ite]

@[simp] theorem State.clearRegion_mem (s : State) (n g : Nat) :
    (State.clearRegion s n g).mem = s.mem := by simp [State.clearRegion]

@[simp] theorem State.meshCycle_mem (s : State) :
    (State.meshCycle s).mem = s.mem := by simp [State.meshCycle]

@[simp] theorem State.meshWhile_mem (s : State) (p : Net → Bool) (fuel : Nat) :
    (State.meshWhile s p fuel).mem = s.mem := by
  induction fuel generalizing s with
  | zero => rfl
  | succ k ih => unfold State.meshWhile; split <;> simp [ih]

@[simp] theorem State.meshFor_mem (s : State) (num dp : Nat) :
    (State.meshFor s num dp).mem = s.mem := by simp [State.meshFor]

@[simp] theorem State.sendAt_mem (s : State) (p : Pkt) (sp dp : Nat) :
    (State.sendAt s p sp dp).mem = s.mem := by simp [State.sendAt]

@[simp] theorem State.send_mem (s : State) (p : Pkt) :
    (State.send s p).mem = s.mem := by simp [State.send]

@[simp] theorem State.sendAll_mem (s : State) (l : List Pkt) :
    (State.sendAll s l).mem = s.mem := by simp [State.sendAll, mem_foldl]

@[simp] theorem State.sendTree_mem (s : State) (l : List Pkt) :
    (State.sendTree s l).mem = s.mem := by
  unfold State.sendTree; split <;> simp

@[simp] theorem State.launch_mem (s : State) (sp : Nat) (fl : Flit) :
    (State.launch s sp fl).mem = s.mem := by simp [State.launch]

@[simp] theorem State.launchBus_mem (s : State) (c : Nat) (fl : Flit) :
    (State.launchBus s c fl).mem = s.mem := by simp [State.launchBus]

@[simp] theorem State.purge_mem (s : State) (pk : Pkt → Bool) (fl : Flit → Bool) :
    (State.purge s pk fl).mem = s.mem := by simp [State.purge]

theorem State.arrival_mem {s t : State} {i typ : Nat} {p : Pkt} (h : s.arrival i typ = some (p, t)) : t.mem = s.mem := by
  unfold State.arrival at h
  split at h
  · split at h
    · dsimp only at h; split at h
      · simp at h
      · injection h with h; injection h with _ h; subst h; simp
    · simp at h
  · simp at h

@[simp] theorem State.respond_mem (s : State) (p : Pkt) (typ : Nat) (st : Status) (d : List Byte) :
    (State.respond s p typ st d).mem = s.mem := by simp [State.respond]

@[simp] theorem State.launchPaid_mem (s : State) (pl : Nat) (fl : Flit) :
    (State.launchPaid s pl fl).mem = s.mem := by simp [State.launchPaid]

@[simp] theorem State.injectAt_mem (s : State) (pl : Nat) (fl : Flit) :
    (State.injectAt s pl fl).mem = s.mem := by simp [State.injectAt, mem_ite]

@[simp] theorem State.drainRouter_mem (s : State) (node : Nat) (fuel : Nat) :
    (State.drainRouter s node fuel).mem = s.mem := by
  induction fuel generalizing s with
  | zero => rfl
  | succ k ih => unfold State.drainRouter; dsimp only; (repeat' split) <;> simp [ih]

@[simp] theorem State.inject_mem (s : State) (h : Nat) (fl : Flit) :
    (State.inject s h fl).mem = s.mem := by simp [State.inject, mem_ite]

@[simp] theorem State.modCmd_mem (s : State) (h id : Nat) (g : Cmd → Cmd) :
    (State.modCmd s h id g).mem = s.mem := by simp [State.modCmd]

@[simp] theorem State.dropCmd_mem (s : State) (h id : Nat) :
    (State.dropCmd s h id).mem = s.mem := by simp [State.dropCmd]

@[simp] theorem State.addCredit_mem (s : State) (h n amt part : Nat) :
    (State.addCredit s h n amt part).mem = s.mem := by simp [State.addCredit, mem_ite]

@[simp] theorem State.wallEvent_mem (s : State) (h : Nat) (k : Cmd) (a len : Nat) :
    (State.wallEvent s h k a len).mem = s.mem := by simp [State.wallEvent, mem_ite]

@[simp] theorem State.sendCredit_mem (s : State) (h core cn amt : Nat) (bus : Bool) :
    (State.sendCredit s h core cn amt bus).mem = s.mem := by simp [State.sendCredit, mem_ite]

@[simp] theorem State.zeroReserved_mem (s : State) (h : Nat) (k : Cmd) :
    (State.zeroReserved s h k).mem = s.mem := by simp [State.zeroReserved, mem_ite, mem_foldl]

@[simp] theorem State.statusEvents_mem (s : State) (h : Nat) (k : Cmd) :
    (State.statusEvents s h k).mem = s.mem := by simp [State.statusEvents, mem_ite]

@[simp] theorem State.voidSheaf_mem (s : State) (h : Nat) (k : Cmd) :
    (State.voidSheaf s h k).mem = s.mem := by
  unfold State.voidSheaf; dsimp only; (repeat' (first | rfl | (apply mem_foldl; intros) | (rw [mem_ite]) | split | simp))

@[simp] theorem State.complete_mem (s : State) (h id : Nat) :
    (State.complete s h id).mem = s.mem := by
  unfold State.complete; split <;> simp [mem_ite]

@[simp] theorem State.stopCmds_mem (s : State) (h id : Nat) (sts : List Status) :
    (State.stopCmds s h id sts).mem = s.mem := by
  unfold State.stopCmds; split <;> simp

@[simp] theorem State.stopCmd_mem (s : State) (h id : Nat) (st : Status) :
    (State.stopCmd s h id st).mem = s.mem := by simp [State.stopCmd]

@[simp] theorem State.endNow_mem (s : State) (h : Nat) (k : Cmd) (sts : List Status) :
    (State.endNow s h k sts).mem = s.mem := by simp [State.endNow, mem_ite]

@[simp] theorem State.planned_mem (s : State) (h n written refused cancelled : Nat) :
    (State.planned s h n written refused cancelled).mem = s.mem := by simp [State.planned]

@[simp] theorem State.fixStream_mem (s : State) (h id : Nat) (sts : List Status) :
    (State.fixStream s h id sts).mem = s.mem := by simp [State.fixStream]

@[simp] theorem State.settle_mem (s : State) (h q : Nat) (fuel : Nat) :
    (State.settle s h q fuel).mem = s.mem := by
  induction fuel generalizing s with
  | zero => rfl
  | succ k ih =>
    unfold State.settle; split
    · rfl
    · dsimp only
      split
      · rfl
      · split <;> rw [ih] <;> simp [mem_ite, mem_foldl]

@[simp] theorem State.settleAll_mem (s : State) (h : Nat) :
    (State.settleAll s h).mem = s.mem := by simp [State.settleAll, mem_ite]

@[simp] theorem State.markIssued_mem (s : State) (h : Nat) (k : Cmd) :
    (State.markIssued s h k).mem = s.mem := by simp [State.markIssued]

@[simp] theorem State.ranCmd_mem (s : State) (h id : Nat) (sts : List Status) (g : Flags) (result : Nat) :
    (State.ranCmd s h id sts g result).mem = s.mem := by simp [State.ranCmd]

@[simp] theorem State.countUe_mem (s : State) (w : Nat) :
    (State.countUe s w).mem = s.mem := by
  unfold State.countUe; split <;> simp

@[simp] theorem State.countCe_mem (s : State) (w : Nat) :
    (State.countCe s w).mem = s.mem := by
  unfold State.countCe; split <;> simp

@[simp] theorem State.readDev_mem (s : State) (a len : Nat) :
    (State.readDev s a len).2.2.mem = s.mem := by simp [State.readDev, mem_foldl]

@[simp] theorem State.absorbPkt_mem (s : State) (p : Pkt) :
    (State.absorbPkt s p).mem = s.mem := by simp [State.absorbPkt, mem_ite]

theorem State.portStops_mem {s t : State} {p : Pkt} {resp : Nat} (h : s.portStops p resp = some t) : t.mem = s.mem := by
  unfold State.portStops at h
  (repeat' split at h) <;> first | (injection h with h; subst h; simp) | simp at h

@[simp] theorem State.settleTxns_mem (s : State) (h id : Nat) :
    (State.settleTxns s h id).mem = s.mem := by
  unfold State.settleTxns; split <;> simp [mem_ite]

@[simp] theorem State.groupSet_mem (s : State) (p gid src : Nat) (ms : List (List Word)) :
    (State.groupSet s p gid src ms).mem = s.mem := by simp [State.groupSet]

@[simp] theorem State.arm_mem (s : State) (c i : Nat) (cmd : Option Nat) :
    (State.arm s c i cmd).mem = s.mem := by simp [State.arm, mem_ite]

@[simp] theorem State.shClose_mem (s : State) (c i : Nat) (st : Status) :
    (State.shClose s c i st).mem = s.mem := by simp [State.shClose]

@[simp] theorem State.shCancel_mem (s : State) (c i : Nat) :
    (State.shCancel s c i).mem = s.mem := by
  unfold State.shCancel; (repeat' split) <;> simp

@[simp] theorem State.shOpen_mem (s : State) (c i : Nat) :
    (State.shOpen s c i).mem = s.mem := by
  unfold State.shOpen; (repeat' split) <;> simp

@[simp] theorem State.shCredit_mem (s : State) (c i : Nat) :
    (State.shCredit s c i).1.mem = s.mem := by unfold State.shCredit; dsimp only; split <;> (try split) <;> simp

@[simp] theorem State.shEnd_mem (s : State) (c i : Nat) (x : Sheaf) (st : Status) (good : Bool) :
    (State.shEnd s c i x st good).mem = s.mem := by simp [State.shEnd, mem_ite, mem_foldl]

@[simp] theorem State.shWritten_mem (s : State) (c i : Nat) (sts : List Status) :
    (State.shWritten s c i sts).mem = s.mem := by
  unfold State.shWritten; split <;> simp

@[simp] theorem State.shCloseAll_mem (s : State) (p : Nat) :
    (State.shCloseAll s p).mem = s.mem := by simp [State.shCloseAll, mem_foldl]

@[simp] theorem State.landCredit_mem (s : State) (p : Pkt) (m : List Word) :
    (State.landCredit s p m).mem = s.mem := by simp [State.landCredit, mem_ite]

@[simp] theorem State.setLanding_mem (s : State) (p : Pkt) (e : Landing) (fin : Bool) :
    (State.setLanding s p e fin).mem = s.mem := by simp [State.setLanding]

@[simp] theorem State.landDrop_mem (s : State) (p : Pkt) (sts : List Status) :
    (State.landDrop s p sts).mem = s.mem := by simp [State.landDrop, mem_ite]

@[simp] theorem State.landed_mem (s : State) (p : Pkt) (sts : List Status) :
    (State.landed s p sts).mem = s.mem := by simp [State.landed, mem_ite]

@[simp] theorem State.heldDone_mem (s : State) (w : HeldWrite) (sts : List Status) :
    (State.heldDone s w sts).mem = s.mem := by
  unfold State.heldDone; split <;> simp

@[simp] theorem State.readClear_mem (s : State) (l : List Fd) :
    (State.readClear s l).mem = s.mem := by simp [State.readClear, mem_ite, mem_foldl]

@[simp] theorem State.csrRead_mem (s : State) (off : Nat) :
    (State.csrRead s off).2.mem = s.mem := by
  unfold State.csrRead; split <;> simp [mem_ite]

@[simp] theorem State.writeField_mem (s : State) (o : Nat) (w : Word) (d : Fd) :
    (State.writeField s o w d).mem = s.mem := by
  unfold State.writeField; dsimp only; (repeat' (first | rfl | (apply mem_foldl; intros) | (rw [mem_ite]) | split | simp [mem_ite, mem_foldl]))

@[simp] theorem State.csrStore_mem (s : State) (off : Nat) (w : Word) :
    (State.csrStore s off w).mem = s.mem := by
  unfold State.csrStore; split <;> simp [mem_foldl]

@[simp] theorem State.walkWall_mem (s : State) (h : Nat) (k : Cmd) (l : List Level) :
    (State.walkWall s h k l).mem = s.mem := by simp [State.walkWall, mem_ite]

@[simp] theorem State.tileBytes_mem (s : State) (h : Nat) (pl : Bool) (b : Nat) (d : List Byte) :
    (State.tileBytes s h pl b d).mem = s.mem := by simp [State.tileBytes, mem_ite, mem_foldl]

@[simp] theorem State.carry_mem (s : State) (h : Nat) (l : List (Nat × Nat)) :
    (State.carry s h l).mem = s.mem := by simp [State.carry, mem_foldl]

@[simp] theorem State.touch_mem (s : State) (c : Nat) :
    (State.touch s c).mem = s.mem := by simp [State.touch]

@[simp] theorem State.wdogLoad_mem (s : State) (h : Nat) :
    (State.wdogLoad s h).mem = s.mem := by simp [State.wdogLoad]

@[simp] theorem State.wdogStop_mem (s : State) (h : Nat) :
    (State.wdogStop s h).mem = s.mem := by simp [State.wdogStop]

@[simp] theorem State.wdogHold_mem (s : State) (c : Nat) :
    (State.wdogHold s c).mem = s.mem := by simp [State.wdogHold, mem_ite, mem_foldl]

@[simp] theorem State.wdogGo_mem (s : State) (c : Nat) :
    (State.wdogGo s c).mem = s.mem := by simp [State.wdogGo, mem_foldl]

@[simp] theorem State.clkInt_mem (s : State) (h : Nat) :
    (State.clkInt s h).mem = s.mem := by simp [State.clkInt, mem_ite]

@[simp] theorem State.freeTile_mem (s : State) (n t : Nat) :
    (State.freeTile s n t).mem = s.mem := by simp [State.freeTile, mem_foldl]

@[simp] theorem State.freeFlag_mem (s : State) (d : Fd) :
    (State.freeFlag s d).mem = s.mem := by simp [State.freeFlag]

@[simp] theorem State.freeRegion_mem (s : State) (n g : Nat) :
    (State.freeRegion s n g).mem = s.mem := by simp [State.freeRegion, mem_foldl]

@[simp] theorem State.freeRows_mem (s : State) (n t0 m : Nat) (f : Fmt) :
    (State.freeRows s n t0 m f).mem = s.mem := by simp [State.freeRows, mem_ite, mem_foldl]

@[simp] theorem State.freeUnit_mem (s : State) (n u : Nat) :
    (State.freeUnit s n u).mem = s.mem := by simp [State.freeUnit, mem_ite]

@[simp] theorem State.streamOut_mem (s : State) (h : Nat) (k : Cmd) :
    (State.streamOut s h k).mem = s.mem := by simp [State.streamOut]

@[simp] theorem State.dropEntries_mem (s : State) (h : Nat) (k : Cmd) :
    (State.dropEntries s h k).mem = s.mem := by simp [State.dropEntries, mem_ite]

@[simp] theorem State.streamCancel_mem (s : State) (h m : Nat) :
    (State.streamCancel s h m).mem = s.mem := by
  unfold State.streamCancel; split <;> simp [mem_ite, mem_foldl]

@[simp] theorem State.gleanCut_mem (s : State) (n : Nat) :
    (State.gleanCut s n).mem = s.mem := by simp [State.gleanCut, mem_ite]

@[simp] theorem State.startHart_mem (s : State) (h pc : Nat) :
    (State.startHart s h pc).mem = s.mem := by simp [State.startHart, mem_ite]

@[simp] theorem State.barrierCredits_mem (s : State) (c b : Nat) :
    (State.barrierCredits s c b).mem = s.mem := by simp [State.barrierCredits, mem_ite, mem_foldl]

@[simp] theorem State.barrier_mem (s : State) (c b : Nat) :
    (State.barrier s c b).mem = s.mem := by simp [State.barrier, mem_ite]

@[simp] theorem State.inboxRefuse_mem (s : State) (part c : Nat) (w : Word) :
    (State.inboxRefuse s part c w).mem = s.mem := by simp [State.inboxRefuse]

@[simp] theorem State.knote_mem (s : State) (c : Nat) (t d : Nat) :
    (State.knote s c t d).mem = s.mem := by simp [State.knote, mem_ite]

@[simp] theorem State.barnCount_mem (s : State) :
    (State.barnCount s).mem = s.mem := by simp [State.barnCount, mem_foldl]

@[simp] theorem State.journal_mem (s : State) :
    (State.journal s).mem = s.mem := by simp [State.journal]

@[simp] theorem State.modBale_mem (s : State) (id : Nat) (g : Bale → Bale) :
    (State.modBale s id g).mem = s.mem := by simp [State.modBale]

@[simp] theorem State.modBlock_mem (s : State) (ch tgt blk : Nat) (g : Block → Block) :
    (State.modBlock s ch tgt blk g).mem = s.mem := by simp [State.modBlock]

@[simp] theorem State.dropBale_mem (s : State) (id : Nat) :
    (State.dropBale s id).mem = s.mem := by simp [State.dropBale]

@[simp] theorem State.takeBlocks_mem (s : State) (ch id : Nat) (k : Nat) :
    (State.takeBlocks s ch id k).mem = s.mem := by
  induction k generalizing s with
  | zero => rfl
  | succ k ih => unfold State.takeBlocks; split <;> simp [ih, State.modBlock]

@[simp] theorem State.moveData_mem (s : State) (b : Block) (term : Nat) :
    (State.moveData s b term).mem = s.mem := by simp [State.moveData]

@[simp] theorem State.wearTarget_mem (s : State) (ch tgt : Nat) :
    (State.wearTarget s ch tgt).mem = s.mem := by
  unfold State.wearTarget; dsimp only; split
  · rfl
  · split <;> simp [State.modBlock]

@[simp] theorem State.wear_mem (s : State) :
    (State.wear s).mem = s.mem := by unfold State.wear; exact mem_foldl _ (fun t a => by simp) _ _

@[simp] theorem State.devCredit_mem (s : State) (p core cn amt : Nat) :
    (State.devCredit s p core cn amt).mem = s.mem := by simp [State.devCredit, mem_ite]

@[simp] theorem State.autopost_mem (s : State) (l : List (List Word)) :
    (State.autopost s l).mem = s.mem := by
  induction l generalizing s with
  | nil => rfl
  | cons e r ih => unfold State.autopost; split <;> simp [ih, mem_foldl]

@[simp] theorem State.barnDone_mem (s : State) (o : BarnOp) (st : Status) :
    (State.barnDone s o st).mem = s.mem := by simp [State.barnDone, mem_ite]

@[simp] theorem State.barnPost_mem (s : State) (host : Bool) (c k : Nat) :
    (State.barnPost s host c k).mem = s.mem := by simp [State.barnPost, mem_ite]

@[simp] theorem State.barnDetach_mem (s : State) (p : Nat) :
    (State.barnDetach s p).mem = s.mem := by simp [State.barnDetach, mem_foldl]

@[simp] theorem State.barnDetachHost_mem (s : State) :
    (State.barnDetachHost s).mem = s.mem := by simp [State.barnDetachHost, mem_foldl]

@[simp] theorem State.barnFail_mem (s : State) :
    (State.barnFail s).mem = s.mem := by simp [State.barnFail]

@[simp] theorem State.setChans_mem (s : State) (l : List ChanFound) :
    (State.setChans s l).mem = s.mem := by simp [State.setChans, mem_foldl]

@[simp] theorem State.keepAges_mem (s : State) :
    (State.keepAges s).mem = s.mem := by simp [State.keepAges, mem_ite]

@[simp] theorem State.mountAges_mem (s : State) :
    (State.mountAges s).mem = s.mem := by simp [State.mountAges]

@[simp] theorem State.barnMount_mem (s : State) (l : List ChanFound) :
    (State.barnMount s l).mem = s.mem := by simp [State.barnMount, mem_ite, mem_foldl]

@[simp] theorem State.codewordUe_mem (s : State) (ch u : Nat) :
    (State.codewordUe s ch u).mem = s.mem := by simp [State.codewordUe]

@[simp] theorem State.blockBad_mem (s : State) (ch tgt blk : Nat) :
    (State.blockBad s ch tgt blk).mem = s.mem := by
  unfold State.blockBad; split <;> simp [mem_ite]

@[simp] theorem State.barnStore_mem (s : State) (o : BarnOp) (fails : List (Nat × Nat × Nat)) :
    (State.barnStore s o fails).mem = s.mem := by simp [State.barnStore, mem_foldl]

@[simp] theorem State.barnCreate_mem (s : State) (o : BarnOp) :
    (State.barnCreate s o).mem = s.mem := by simp [State.barnCreate, mem_foldl]

@[simp] theorem State.barnSeal_mem (s : State) (o : BarnOp) (b : Bale) :
    (State.barnSeal s o b).mem = s.mem := by simp [State.barnSeal, mem_ite]

@[simp] theorem State.nandTimeout_mem (s : State) (host : Bool) (c k ch : Nat) :
    (State.nandTimeout s host c k ch).mem = s.mem := by
  unfold State.nandTimeout; split <;> simp [mem_ite]

@[simp] theorem State.targetHot_mem (s : State) (ch tgt temp : Nat) :
    (State.targetHot s ch tgt temp).mem = s.mem := by simp [State.targetHot]

@[simp] theorem State.scrub_mem (s : State) (ch tgt blk temp : Nat) (soft reloc : Bool) :
    (State.scrub s ch tgt blk temp soft reloc).mem = s.mem := by
  unfold State.scrub; split <;> simp [mem_ite]

@[simp] theorem State.eraseEnd_mem (s : State) (ch tgt blk : Nat) (ok : Bool) :
    (State.eraseEnd s ch tgt blk ok).mem = s.mem := by
  unfold State.eraseEnd; split <;> simp [mem_ite]

@[simp] theorem State.rebuild_mem (s : State) :
    (State.rebuild s).mem = s.mem := by simp [State.rebuild, mem_ite]

@[simp] theorem State.format_mem (s : State) (l : List (Nat × Nat × Nat × Bool)) :
    (State.format s l).mem = s.mem := by simp [State.format, mem_foldl]

@[simp] theorem State.setWidth_mem (s : State) (l w : Nat) :
    (State.setWidth s l w).mem = s.mem := by simp [State.setWidth]

@[simp] theorem State.octBlock_mem (s : State) (l : Nat) :
    (State.octBlock s l).mem = s.mem := by simp [State.octBlock, mem_ite]

@[simp] theorem State.octGo_mem (s : State) (l : Nat) :
    (State.octGo s l).mem = s.mem := by simp [State.octGo, mem_ite]

@[simp] theorem State.oxPost_mem (s : State) (c k : Nat) :
    (State.oxPost s c k).mem = s.mem := by simp [State.oxPost, mem_ite]

@[simp] theorem State.oxDone_mem (s : State) (c k : Nat) (st : Status) :
    (State.oxDone s c k st).mem = s.mem := by simp [State.oxDone, mem_ite]

@[simp] theorem State.octMgmt_mem (s : State) (l : Nat) (p : OPkt) (part a : Nat) (d : List Byte) :
    (State.octMgmt s l p part a d).mem = s.mem := by simp [State.octMgmt]

@[simp] theorem State.octMgmtEnd_mem (s : State) (q : Pkt) :
    (State.octMgmtEnd s q).mem = s.mem := by
  unfold State.octMgmtEnd; split <;> simp

@[simp] theorem State.octAbsorb_mem (s : State) (l : Nat) (p : OPkt) :
    (State.octAbsorb s l p).mem = s.mem := by simp [State.octAbsorb, mem_ite]

@[simp] theorem State.octCredit_mem (s : State) (p : OPkt) :
    (State.octCredit s p).mem = s.mem := by simp [State.octCredit, mem_ite]

@[simp] theorem State.octSheaf_mem (s : State) (l : Nat) (p : OPkt) :
    (State.octSheaf s l p).mem = s.mem := by
  unfold State.octSheaf; dsimp only; (repeat' (first | rfl | (apply mem_foldl; intros) | (rw [mem_ite]) | split | simp))

@[simp] theorem State.oxAbort_mem (s : State) (p : Nat) :
    (State.oxAbort s p).mem = s.mem := by simp [State.oxAbort, mem_ite, mem_foldl]

@[simp] theorem State.retrain_mem (s : State) (l : Nat) :
    (State.retrain s l).mem = s.mem := by simp [State.retrain]

@[simp] theorem State.abortOpen_mem (s : State) (h : Nat) (k : Cmd) :
    (State.abortOpen s h k).mem = s.mem := by simp [State.abortOpen, mem_ite, mem_foldl]

@[simp] theorem State.abortArray_mem (s : State) (h : Nat) :
    (State.abortArray s h).mem = s.mem := by simp [State.abortArray, mem_ite, mem_foldl]

@[simp] theorem State.unclear_mem (s : State) (c : Nat) (k : Cmd) :
    (State.unclear s c k).mem = s.mem := by simp [State.unclear, mem_ite]

@[simp] theorem State.auditRead_mem (s : State) (p : Nat) :
    (State.auditRead s p).mem = s.mem := by simp [State.auditRead, mem_foldl]

@[simp] theorem State.auditStart_mem (s : State) (p : Nat) :
    (State.auditStart s p).mem = s.mem := by simp [State.auditStart, mem_ite]

@[simp] theorem State.devAuditStart_mem (s : State) :
    (State.devAuditStart s).mem = s.mem := by simp [State.devAuditStart]

@[simp] theorem State.writeOff_mem (s : State) (p : Nat) :
    (State.writeOff s p).mem = s.mem := by simp [State.writeOff, mem_ite, mem_foldl]

@[simp] theorem State.reclaim_mem (s : State) (p : Nat) :
    (State.reclaim s p).mem = s.mem := by simp [State.reclaim, mem_foldl]

@[simp] theorem State.setVt_mem (s : State) (c v10 : Nat) :
    (State.setVt s c v10).mem = s.mem := by simp [State.setVt]

@[simp] theorem State.showCeil_mem (s : State) (c : Nat) :
    (State.showCeil s c).mem = s.mem := by simp [State.showCeil]

@[simp] theorem State.showIssue_mem (s : State) (c : Nat) :
    (State.showIssue s c).mem = s.mem := by simp [State.showIssue]

@[simp] theorem State.cancelRaise_mem (s : State) (c : Nat) :
    (State.cancelRaise s c).mem = s.mem := by simp [State.cancelRaise, mem_ite]

@[simp] theorem State.enterSteep_mem (s : State) (c : Nat) :
    (State.enterSteep s c).mem = s.mem := by simp [State.enterSteep]

@[simp] theorem State.enterRest_mem (s : State) (c : Nat) :
    (State.enterRest s c).mem = s.mem := by simp [State.enterRest, mem_ite]

@[simp] theorem State.wakeSteep_mem (s : State) (c : Nat) :
    (State.wakeSteep s c).mem = s.mem := by simp [State.wakeSteep]

@[simp] theorem State.grant_mem (s : State) (c : Nat) :
    (State.grant s c).mem = s.mem := by simp [State.grant]

@[simp] theorem State.throttle_mem (s : State) (c : Nat) :
    (State.throttle s c).mem = s.mem := by simp [State.throttle, mem_ite]

@[simp] theorem State.ticket_mem (s : State) (c : Nat) :
    (State.ticket s c).mem = s.mem := by simp [State.ticket, mem_ite]

@[simp] theorem State.gleanWake_mem (s : State) (c : Nat) :
    (State.gleanWake s c).mem = s.mem := by simp [State.gleanWake, mem_ite, mem_foldl]

@[simp] theorem State.wakeClu_mem (s : State) (c : Nat) :
    (State.wakeClu s c).mem = s.mem := by simp [State.wakeClu, mem_ite]

@[simp] theorem State.leaveOff_mem (s : State) (c : Nat) :
    (State.leaveOff s c).mem = s.mem := by simp [State.leaveOff, mem_ite]

@[simp] theorem State.zeroHart_mem (s : State) (h : Nat) :
    (State.zeroHart s h).mem = s.mem := by simp [State.zeroHart, mem_ite]

@[simp] theorem State.zeroClu_mem (s : State) (c : Nat) :
    (State.zeroClu s c).mem = s.mem := by simp [State.zeroClu, mem_foldl]

@[simp] theorem State.startSeq_mem (s : State) (c : Nat) :
    (State.startSeq s c).mem = s.mem := by simp [State.startSeq]

@[simp] theorem State.cluAlert_mem (s : State) (c : Nat) :
    (State.cluAlert s c).mem = s.mem := by simp [State.cluAlert, mem_ite]

@[simp] theorem State.wakeReady_mem (s : State) (c : Nat) :
    (State.wakeReady s c).mem = s.mem := by simp [State.wakeReady, mem_ite, mem_foldl]

@[simp] theorem State.enterOff_mem (s : State) (c cause : Nat) :
    (State.enterOff s c cause).mem = s.mem := by simp [State.enterOff]

@[simp] theorem State.coreAway_mem (s : State) (n : Nat) :
    (State.coreAway s n).mem = s.mem := by simp [State.coreAway]

@[simp] theorem State.arrayCols_mem (s : State) (n key : Nat) :
    (State.arrayCols s n key).mem = s.mem := by simp [State.arrayCols]

@[simp] theorem State.goDark_mem (s : State) (c sl : Nat) :
    (State.goDark s c sl).mem = s.mem := by simp [State.goDark, mem_ite, mem_foldl]

@[simp] theorem State.sliceFail_mem (s : State) (c sl : Nat) (ctrl : Bool) :
    (State.sliceFail s c sl ctrl).mem = s.mem := by simp [State.sliceFail, mem_ite]

@[simp] theorem State.alertOn_mem (s : State) (i : Nat) :
    (State.alertOn s i).mem = s.mem := by simp [State.alertOn, mem_ite, mem_foldl]

@[simp] theorem State.alertOff_mem (s : State) (i : Nat) :
    (State.alertOff s i).mem = s.mem := by simp [State.alertOff]

@[simp] theorem State.cluUnalert_mem (s : State) (c : Nat) :
    (State.cluUnalert s c).mem = s.mem := by simp [State.cluUnalert, mem_ite]

@[simp] theorem State.keepRegs_mem (s : State) (p : Nat → Bool) :
    (State.keepRegs s p).mem = s.mem := by simp [State.keepRegs]

@[simp] theorem State.flushEvents_mem (s : State) :
    (State.flushEvents s).mem = s.mem := by simp [State.flushEvents]

@[simp] theorem State.fieldSr_mem (s : State) (f : Nat) (b : Bool) :
    (State.fieldSr s f b).mem = s.mem := by simp [State.fieldSr, mem_ite, mem_foldl]

@[simp] theorem State.stacksSr_mem (s : State) (b : Bool) :
    (State.stacksSr s b).mem = s.mem := by simp [State.stacksSr, mem_foldl]

@[simp] theorem State.pathsChange_mem (s : State) (f : Nat) :
    (State.pathsChange s f).mem = s.mem := by simp [State.pathsChange]

@[simp] theorem State.fieldRestore_mem (s : State) (f : Nat) :
    (State.fieldRestore s f).mem = s.mem := by simp [State.fieldRestore, mem_ite]

@[simp] theorem State.glide_mem (s : State) (c f : Nat) :
    (State.glide s c f).mem = s.mem := by simp [State.glide]

@[simp] theorem State.freqEval_mem (s : State) (c m : Nat) :
    (State.freqEval s c m).mem = s.mem := by simp [State.freqEval, mem_ite]

@[simp] theorem State.vin_mem (s : State) (v : Nat) :
    (State.vin s v).mem = s.mem := by simp [State.vin]

@[simp] theorem State.iin_mem (s : State) (i : Nat) :
    (State.iin s i).mem = s.mem := by simp [State.iin]

@[simp] theorem State.showFeed_mem (s : State) (f : Nat) :
    (State.showFeed s f).mem = s.mem := by simp [State.showFeed]

@[simp] theorem State.sense_mem (s : State) (f : Nat) (w e v : Int) :
    (State.sense s f w e v).mem = s.mem := by simp [State.sense, mem_ite]

@[simp] theorem State.ocTrip_mem (s : State) (c amps : Nat) :
    (State.ocTrip s c amps).mem = s.mem := by simp [State.ocTrip, mem_ite]

@[simp] theorem State.ocResume_mem (s : State) (c : Nat) :
    (State.ocResume s c).mem = s.mem := by simp [State.ocResume, mem_ite]

@[simp] theorem State.ocRelease_mem (s : State) (c : Nat) :
    (State.ocRelease s c).mem = s.mem := by simp [State.ocRelease, mem_ite]

@[simp] theorem State.rampStart_mem (s : State) (n : Nat) :
    (State.rampStart s n).mem = s.mem := by simp [State.rampStart]

@[simp] theorem State.rampEnd_mem (s : State) (n : Nat) :
    (State.rampEnd s n).mem = s.mem := by simp [State.rampEnd]

@[simp] theorem State.warmArray_mem (s : State) (n : Nat) :
    (State.warmArray s n).mem = s.mem := by simp [State.warmArray, mem_ite]

@[simp] theorem State.seedCore_mem (s : State) (p n : Nat) :
    (State.seedCore s p n).mem = s.mem := by simp [State.seedCore]

@[simp] theorem State.seedPart_mem (s : State) (p : Nat) :
    (State.seedPart s p).mem = s.mem := by simp [State.seedPart, mem_foldl]

@[simp] theorem State.wnPend_mem (s : State) (n : Nat) (up : Bool) :
    (State.wnPend s n up).mem = s.mem := by simp [State.wnPend]

@[simp] theorem State.capture_mem (s : State) (n : Nat) (x : Sample) :
    (State.capture s n x).mem = s.mem := by
  unfold State.capture; (repeat' split) <;> simp

@[simp] theorem State.freeSample_mem (s : State) (w : Nat) :
    (State.freeSample s w).mem = s.mem := by
  unfold State.freeSample; dsimp only; (repeat' (first | rfl | (apply mem_foldl; intros) | (rw [mem_ite]) | split | simp [mem_ite, mem_foldl]))

@[simp] theorem State.retire_mem (s : State) (n : Nat) :
    (State.retire s n).mem = s.mem := by simp [State.retire, mem_ite]

@[simp] theorem State.remapStart_mem (s : State) (n : Nat) :
    (State.remapStart s n).mem = s.mem := by simp [State.remapStart, mem_ite]

@[simp] theorem State.showCharges_mem (s : State) (n : Nat) :
    (State.showCharges s n).mem = s.mem := by simp [State.showCharges]

@[simp] theorem State.charge_mem (s : State) (n : Nat) :
    (State.charge s n).1.mem = s.mem := by unfold State.charge; dsimp only; split <;> simp

@[simp] theorem State.verdict_mem (s : State) (w : Nat) (row : Nat) :
    (State.verdict s w row).mem = s.mem := by
  unfold State.verdict; split
  · rfl
  · dsimp only; (repeat' split) <;> simp [mem_foldl1]

@[simp] theorem State.wnFlush_mem (s : State) :
    (State.wnFlush s).mem = s.mem := by simp [State.wnFlush, mem_ite, mem_foldl]

@[simp] theorem State.wantDone_mem (s : State) (c : Nat) :
    (State.wantDone s c).mem = s.mem := by simp [State.wantDone, mem_ite]

@[simp] theorem State.restEntry_mem (s : State) (c : Nat) :
    (State.restEntry s c).mem = s.mem := by simp [State.restEntry, mem_ite]

@[simp] theorem State.pstRest_mem (s : State) (c : Nat) :
    (State.pstRest s c).mem = s.mem := by simp [State.pstRest, mem_ite]

@[simp] theorem State.pstOff_mem (s : State) (c : Nat) :
    (State.pstOff s c).mem = s.mem := by simp [State.pstOff, mem_ite]

@[simp] theorem State.pstOn_mem (s : State) (c : Nat) :
    (State.pstOn s c).mem = s.mem := by simp [State.pstOn, mem_ite]

@[simp] theorem State.wakeAlarm_mem (s : State) (c : Nat) :
    (State.wakeAlarm s c).mem = s.mem := by
  unfold State.wakeAlarm; split <;> simp [mem_ite]

@[simp] theorem State.cutMemory_mem (s : State) :
    (State.cutMemory s).mem = s.mem := by simp [State.cutMemory, mem_ite]

@[simp] theorem State.uncut_mem (s : State) (spare : Nat) :
    (State.uncut s spare).mem = s.mem := by
  unfold State.uncut; (repeat' split) <;> simp [mem_ite, mem_foldl]

@[simp] theorem State.showCap_mem (s : State) :
    (State.showCap s).mem = s.mem := by simp [State.showCap]

@[simp] theorem State.addRows_mem (s : State) (n g hb : Nat) (cells : List Cell) :
    (State.addRows s n g hb cells).1.mem = s.mem := by
  unfold State.addRows; rw [mem_foldl1]; rintro t ⟨a, b⟩; simp

@[simp] theorem State.passRegion_mem (s : State) (n g : Nat) (f : MqF) (cells : List Cell) :
    (State.passRegion s n g f cells).1.mem = s.mem := by simp [State.passRegion, mem_ite]

@[simp] theorem State.winnowUnit_mem (s : State) (n : Nat) (k : Cmd) (g : Geom) (w : WeightSet) (u : Nat) (cells : List Cell) (ue : Bool) :
    (State.winnowUnit s n k g w u cells ue).mem = s.mem := by simp [State.winnowUnit, mem_ite]

@[simp] theorem State.passRegions_mem (s : State) (n : Nat) (k : Cmd) (g : Geom) (w : WeightSet) (ue : Bool) :
    (State.passRegions s n k g w ue).1.mem = s.mem := by
  unfold State.passRegions; dsimp only; rw [mem_foldl1]; intro t a; dsimp only; split <;> simp

@[simp] theorem State.plusOut_mem (s : State) (n : Nat) (k : Cmd) (f : Fmt) (x : Ext) (i : Nat) :
    (State.plusOut s n k f x i).1.mem = s.mem := by simp [State.plusOut]

@[simp] theorem State.passTiles_mem (s : State) (n : Nat) (k : Cmd) (g : Geom) (w : WeightSet) :
    (State.passTiles s n k g w).1.mem = s.mem := by
  unfold State.passTiles; dsimp only; (repeat' (first | rfl | (apply mem_foldl; rintro t a) | (apply mem_foldl1; rintro t ⟨a, b⟩) | (rw [mem_ite]) | split | simp [mem_foldl]))

@[simp] theorem State.runPass_mem (s : State) (n op bub : Nat) (ue : Bool) :
    (State.runPass s n op bub ue).mem = s.mem := by
  unfold State.runPass; (repeat' split) <;> simp

@[simp] theorem State.retireWrite_mem (s : State) (n : Nat) :
    (State.retireWrite s n).mem = s.mem := by simp [State.retireWrite, mem_ite]

@[simp] theorem State.gleanFail_mem (s : State) (n kern : Nat) (twice : Bool) :
    (State.gleanFail s n kern twice).mem = s.mem := by simp [State.gleanFail, mem_ite]

@[simp] theorem State.setVec_mem (s : State) (n t0 r : Nat) (w : Word) :
    (State.setVec s n t0 r w).mem = s.mem := by simp [State.setVec]

@[simp] theorem State.freeBytes_mem (s : State) (n t0 len : Nat) :
    (State.freeBytes s n t0 len).mem = s.mem := by simp [State.freeBytes, mem_foldl]

@[simp] theorem State.freeScales_mem (s : State) (n : Nat) (f : VqF) :
    (State.freeScales s n f).mem = s.mem := by simp [State.freeScales, mem_ite, mem_foldl]

@[simp] theorem State.freeOuts_mem (s : State) (n : Nat) (k : Cmd) :
    (State.freeOuts s n k).mem = s.mem := by
  unfold State.freeOuts; (repeat' split) <;> simp

@[simp] theorem State.vecRan_mem (s : State) (n : Nat) (k : Cmd) (fl : Flags) (ue : Bool) :
    (State.vecRan s n k fl ue).mem = s.mem := by simp [State.vecRan, mem_ite]

theorem State.vecStop_mem {s t : State} {n op : Nat} {bad : VqF → Bool} (h : s.vecStop n op bad = some t) : t.mem = s.mem := by
  unfold State.vecStop at h
  (repeat' split at h) <;> first | (injection h with h; subst h; simp) | simp at h

@[simp] theorem State.redPred_mem (s : State) (n : Nat) (f : VqF) (b : Bool) :
    (State.redPred s n f b).mem = s.mem := by simp [State.redPred, mem_ite]

@[simp] theorem State.redF_mem (s : State) (n : Nat) (k : Cmd) (w : Word) :
    (State.redF s n k w).mem = s.mem := by simp [State.redF]

@[simp] theorem State.redPair_mem (s : State) (n : Nat) (k : Cmd) (lo hi : Word) :
    (State.redPair s n k lo hi).mem = s.mem := by simp [State.redPair]

@[simp] theorem State.redExt_mem (s : State) (n : Nat) (big : Bool) (k : Cmd) :
    (State.redExt s n big k).1.mem = s.mem := by simp [State.redExt]

@[simp] theorem State.firstStart_mem (s : State) (p : Nat) :
    (State.firstStart s p).mem = s.mem := by simp [State.firstStart, mem_ite]

@[simp] theorem State.seqCtlStart_mem (s : State) (c : Nat) :
    (State.seqCtlStart s c).mem = s.mem := by simp [State.seqCtlStart, mem_ite]

@[simp] theorem State.resume_mem (s : State) :
    (State.resume s).mem = s.mem := by simp [State.resume, mem_ite, mem_foldl]

@[simp] theorem State.ringCheck_mem (s : State) (b p : Nat) :
    (State.ringCheck s b p).mem = s.mem := by simp [State.ringCheck, mem_ite]

@[simp] theorem State.shfCtl_mem (s : State) (c i : Nat) (w : Word) :
    (State.shfCtl s c i w).mem = s.mem := by
  unfold State.shfCtl; split <;> simp [mem_ite]

@[simp] theorem State.pstCtl_mem (s : State) (c : Nat) (w : Word) :
    (State.pstCtl s c w).mem = s.mem := by simp [State.pstCtl, mem_ite]

@[simp] theorem State.txHead_mem (s : State) (c : Nat) :
    (State.txHead s c).mem = s.mem := by simp [State.txHead]

@[simp] theorem State.cluFx_mem (s : State) (c r : Nat) (w : Word) :
    (State.cluFx s c r w).mem = s.mem := by simp [State.cluFx, mem_ite]

@[simp] theorem State.stallOn_mem (s : State) (h : Nat) (i : Instr) :
    (State.stallOn s h i).mem = s.mem := by simp [State.stallOn]

@[simp] theorem State.retired_mem (s : State) (h pc : Nat) :
    (State.retired s h pc).mem = s.mem := by simp [State.retired]

@[simp] theorem State.takeRec_mem (s : State) (h d : Nat) (r : Rec) :
    (State.takeRec s h d r).mem = s.mem := by simp [State.takeRec, mem_ite]

@[simp] theorem State.toPll_mem (s : State) (c : Nat) :
    (State.toPll s c).mem = s.mem := by simp [State.toPll, mem_ite]

@[simp] theorem State.endAtIssue_mem (s : State) (h : Nat) (k : Cmd) (sts : List Status) :
    (State.endAtIssue s h k sts).mem = s.mem := by simp [State.endAtIssue, mem_ite]

@[simp] theorem State.appendWall_mem (s : State) (h : Nat) (k : Cmd) :
    (State.appendWall s h k).mem = s.mem := by simp [State.appendWall, mem_ite]

@[simp] theorem State.issueWall_mem (s : State) (h : Nat) (k : Cmd) :
    (State.issueWall s h k).mem = s.mem := by
  unfold State.issueWall; (repeat' split) <;> simp

@[simp] theorem State.gclrIssue_mem (s : State) (h : Nat) (k : Cmd) :
    (State.gclrIssue s h k).mem = s.mem := by simp [State.gclrIssue, mem_ite]

@[simp] theorem State.issue_mem (s : State) (h : Nat) (k : Cmd) :
    (State.issue s h k).mem = s.mem := by simp [State.issue, mem_ite]

@[simp] theorem State.streamsIdle_mem (s : State) (h : Nat) :
    (State.streamsIdle s h).mem = s.mem := by simp [State.streamsIdle, mem_ite, mem_foldl]

@[simp] theorem State.addPoison_mem (s : State) (bad : List Nat) :
    (State.addPoison s bad).mem = s.mem := by simp [State.addPoison, mem_ite, mem_foldl]

@[simp] theorem State.wakeAccess_mem (s : State) (a : Nat) :
    (State.wakeAccess s a).mem = s.mem := by
  unfold State.wakeAccess; split <;> simp

@[simp] theorem State.mvBytes_mem (s : State) (h m n : Nat) :
    (State.mvBytes s h m n).mem = s.mem := by simp [State.mvBytes, mem_ite]

@[simp] theorem State.entryWall_mem (s : State) (h : Nat) (k : Cmd) (x : AqEntry) :
    (State.entryWall s h k x).mem = s.mem := by simp [State.entryWall, mem_ite]

@[simp] theorem State.refuseEntry_mem (s : State) (h m : Nat) (k : Cmd) (x : AqEntry) (sts : List Status) :
    (State.refuseEntry s h m k x sts).mem = s.mem := by simp [State.refuseEntry, mem_ite]

@[simp] theorem State.commit_mem (s : State) (h m : Nat) :
    (State.commit s h m).mem = s.mem := by
  unfold State.commit; dsimp only; (repeat' (first | rfl | (apply mem_foldl; intros) | (rw [mem_ite]) | split | simp [mem_ite, mem_foldl]))

@[simp] theorem State.nqSent_mem (s : State) (n : Nat) (k : Cmd) (sts : List Status) :
    (State.nqSent s n k sts).mem = s.mem := by simp [State.nqSent]

@[simp] theorem State.sheafSend_mem (s : State) (n : Nat) (ue : Bool) :
    (State.sheafSend s n ue).mem = s.mem := by
  unfold State.sheafSend; dsimp only; (repeat' (first | rfl | (apply mem_foldl; intros) | (rw [mem_ite]) | split | simp))

@[simp] theorem State.replay_mem (s : State) (f side : Nat) :
    (State.replay s f side).mem = s.mem := by simp [State.replay]

@[simp] theorem State.resetHart_mem (s : State) (h : Nat) :
    (State.resetHart s h).mem = s.mem := by simp [State.resetHart]

@[simp] theorem State.resetEnd_mem (s : State) (p : Nat) :
    (State.resetEnd s p).mem = s.mem := by simp [State.resetEnd, mem_ite, mem_foldl]

@[simp] theorem State.switchTables_mem (s : State) (t : Option Nat) :
    (State.switchTables s t).mem = s.mem := by simp [State.switchTables]

@[simp] theorem State.seqRan_mem (s : State) (c : Nat) (k : Cmd) (sts : List Status) (result : Nat) :
    (State.seqRan s c k sts result).mem = s.mem := by simp [State.seqRan]

@[simp] theorem State.absorbFlit_mem (s : State) (c : Nat) (fl : Flit) :
    (State.absorbFlit s c fl).mem = s.mem := by
  unfold State.absorbFlit; split <;> simp [mem_ite]

@[simp] theorem State.keepBeat_mem (s : State) (u : Nat) (valid : Bool) (e : Int) :
    (State.keepBeat s u valid e).mem = s.mem := by simp [State.keepBeat]

@[simp] theorem State.beatClu_mem (s : State) (c n : Nat) (e : Int) :
    (State.beatClu s c n e).mem = s.mem := by simp [State.beatClu, mem_ite]

@[simp] theorem State.beatDie_mem (s : State) (p n : Nat) (e : Int) :
    (State.beatDie s p n e).mem = s.mem := by simp [State.beatDie]

@[simp] theorem State.showOfs_mem (s : State) (e : Int) :
    (State.showOfs s e).mem = s.mem := by simp [State.showOfs]

@[simp] theorem State.ptpApply_mem (s : State) (t1 : Int) (t2 : Nat) :
    (State.ptpApply s t1 t2).mem = s.mem := by simp [State.ptpApply, mem_ite]

@[simp] theorem State.stepTime_mem (s : State) (d : Int) :
    (State.stepTime s d).mem = s.mem := by simp [State.stepTime, mem_foldl]

@[simp] theorem State.followParent_mem (s : State) (d : Int) :
    (State.followParent s d).mem = s.mem := by simp [State.followParent, mem_ite]

@[simp] theorem State.elect_mem (s : State) :
    (State.elect s).mem = s.mem := by
  unfold State.elect; dsimp only; (repeat' (first | rfl | (apply mem_foldl; intros) | (rw [mem_ite]) | split | simp))

@[simp] theorem State.recentre_mem (s : State) (f x : Nat) :
    (State.recentre s f x).mem = s.mem := by simp [State.recentre]

@[simp] theorem State.caddyEvent_mem (s : State) (e : EvRec) :
    (State.caddyEvent s e).mem = s.mem := by simp [State.caddyEvent, mem_foldl]

@[simp] theorem State.merge_mem (s : State) (k : Nat) (e : EvRec) :
    (State.merge s k e).mem = s.mem := by simp [State.merge, mem_ite]

@[simp] theorem State.vaonPut_mem (s : State) (e : EvRec) :
    (State.vaonPut s e).mem = s.mem := by simp [State.vaonPut]

@[simp] theorem State.mapCores_mem (s : State) (c : Nat) (bad : Nat → Bool) (cols : Nat → List Nat) (seqOk : Bool) :
    (State.mapCores s c bad cols seqOk).mem = s.mem := by
  unfold State.mapCores; dsimp only; (repeat' (first | rfl | (apply mem_foldl; intros) | (rw [mem_ite]) | split | simp [mem_ite, mem_foldl]))

@[simp] theorem State.mapSlices_mem (s : State) (c : Nat) (bad : Nat → Bool) :
    (State.mapSlices s c bad).mem = s.mem := by simp [State.mapSlices, mem_foldl]

@[simp] theorem State.showOwners_mem (s : State) :
    (State.showOwners s).mem = s.mem := by simp [State.showOwners, mem_foldl]

@[simp] theorem State.bootAlarm_mem (s : State) (fail : Nat) :
    (State.bootAlarm s fail).mem = s.mem := by simp [State.bootAlarm]

@[simp] theorem State.noMaster_mem (s : State) :
    (State.noMaster s).mem = s.mem := by simp [State.noMaster]

@[simp] theorem State.coldBegin_mem (s : State) (rom : List Nat) (ref : Bool) :
    (State.coldBegin s rom ref).mem = s.mem := by simp [State.coldBegin, mem_foldl]

@[simp] theorem State.fuseRead_mem (s : State) :
    (State.fuseRead s).mem = s.mem := by simp [State.fuseRead, mem_ite]

@[simp] theorem State.bareEth_mem (s : State) :
    (State.bareEth s).mem = s.mem := by simp [State.bareEth]

@[simp] theorem State.fuseMaps_mem (s : State) :
    (State.fuseMaps s).mem = s.mem := by simp [State.fuseMaps, mem_foldl]

@[simp] theorem State.master_mem (s : State) (p : Nat) :
    (State.master s p).mem = s.mem := by simp [State.master, mem_foldl]

@[simp] theorem State.holdDie_mem (s : State) (p : Nat) :
    (State.holdDie s p).mem = s.mem := by simp [State.holdDie]

@[simp] theorem State.plimit_mem (s : State) (w : Nat) :
    (State.plimit s w).mem = s.mem := by simp [State.plimit, mem_ite]

@[simp] theorem State.meshWeights_mem (s : State) (w : Word) :
    (State.meshWeights s w).mem = s.mem := by simp [State.meshWeights]

@[simp] theorem State.setSystem_mem (s : State) (m : Store Byte) :
    (State.setSystem s m).mem = s.mem := by simp [State.setSystem, mem_foldl]

@[simp] theorem State.setEther_mem (s : State) (m : Store Byte) :
    (State.setEther s m).mem = s.mem := by
  unfold State.setEther; split <;> simp

@[simp] theorem State.handOver_mem (s : State) :
    (State.handOver s).mem = s.mem := by
  unfold State.handOver; split <;> simp

@[simp] theorem State.holdOld_mem (s : State) (m : Store Byte) :
    (State.holdOld s m).mem = s.mem := by simp [State.holdOld, mem_ite, mem_foldl]

@[simp] theorem State.showImage_mem (s : State) (m : Store Byte) (r : Nat × Nat) :
    (State.showImage s m r).mem = s.mem := by simp [State.showImage, mem_ite, mem_foldl]

@[simp] theorem State.enrolStep_mem (s : State) (m : Store Byte) (rb : List Bool) :
    (State.enrolStep s m rb).2.mem = s.mem := by unfold State.enrolStep; dsimp only; split <;> (try split) <;> simp

@[simp] theorem State.usePack_mem (s : State) (m : Store Byte) :
    (State.usePack s m).mem = s.mem := by simp [State.usePack]

@[simp] theorem State.linkQual_mem (s : State) (wires : List (Nat × Nat × Nat)) (ucie : List (Nat × Nat)) :
    (State.linkQual s wires ucie).mem = s.mem := by simp [State.linkQual, mem_ite, mem_foldl]

@[simp] theorem State.testClu_mem (s : State) (x : Found) (l : List Word) (c : Nat) :
    (State.testClu s x l c).mem = s.mem := by simp [State.testClu, mem_ite, mem_foldl]

@[simp] theorem State.testsEnd_mem (s : State) (x : Found) :
    (State.testsEnd s x).mem = s.mem := by simp [State.testsEnd, mem_foldl]

@[simp] theorem State.ethUpdate_mem (s : State) :
    (State.ethUpdate s).mem = s.mem := by simp [State.ethUpdate]

@[simp] theorem State.octWidths_mem (s : State) (l : List Nat) :
    (State.octWidths s l).mem = s.mem := by simp [State.octWidths, mem_ite, mem_foldl]

@[simp] theorem State.octRetrain_mem (s : State) :
    (State.octRetrain s).mem = s.mem := by simp [State.octRetrain, mem_ite, mem_foldl]

@[simp] theorem State.setStacks_mem (s : State) (l : List Word) (ok : List Nat) :
    (State.setStacks s l ok).mem = s.mem := by simp [State.setStacks, mem_foldl]

@[simp] theorem State.setPaths_mem (s : State) (d : List Nat) :
    (State.setPaths s d).mem = s.mem := by simp [State.setPaths, mem_foldl]

@[simp] theorem State.clustersUp_mem (s : State) :
    (State.clustersUp s).mem = s.mem := by simp [State.clustersUp, mem_ite, mem_foldl]

@[simp] theorem State.serve_mem (s : State) (warm : Bool) :
    (State.serve s warm).mem = s.mem := by simp [State.serve, mem_ite, mem_foldl]

@[simp] theorem State.undark_mem (s : State) :
    (State.undark s).mem = s.mem := by simp [State.undark, mem_foldl]

@[simp] theorem State.manEntry_mem (s : State) (e : List Word) :
    (State.manEntry s e).1.mem = s.mem := by unfold State.manEntry; dsimp only; split <;> (try split) <;> simp

@[simp] theorem State.echo_mem (s : State) :
    (State.echo s).mem = s.mem := by simp [State.echo, mem_ite]

@[simp] theorem State.cnp_mem (s : State) (q : Nat) (ecn : Bool) :
    (State.cnp s q ecn).mem = s.mem := by simp [State.cnp, mem_ite]

@[simp] theorem State.countSessions_mem (s : State) :
    (State.countSessions s).mem = s.mem := by simp [State.countSessions]

@[simp] theorem State.xferClose_mem (s : State) :
    (State.xferClose s).mem = s.mem := by simp [State.xferClose]

@[simp] theorem State.closeSession_mem (s : State) (id : Nat) :
    (State.closeSession s id).mem = s.mem := by simp [State.closeSession, mem_ite]

@[simp] theorem State.openSession_mem (s : State) (m : OpenMsg) (n : Nat) :
    (State.openSession s m n).mem = s.mem := by simp [State.openSession]

@[simp] theorem State.openRefused_mem (s : State) :
    (State.openRefused s).mem = s.mem := by simp [State.openRefused]

@[simp] theorem State.sendRsp_mem (s : State) (id : Nat) (rsp : List Nat) :
    (State.sendRsp s id rsp).mem = s.mem := by simp [State.sendRsp]

@[simp] theorem State.opPlimit_mem (s : State) (w : Nat) :
    (State.opPlimit s w).2.2.mem = s.mem := by simp [State.opPlimit]

@[simp] theorem State.opSubscribe_mem (s : State) (id cls : Nat) (tel : Bool) :
    (State.opSubscribe s id cls tel).2.2.mem = s.mem := by
  unfold State.opSubscribe; split <;> simp

@[simp] theorem State.opTimeofday_mem (s : State) (sec ns : Nat) :
    (State.opTimeofday s sec ns).2.2.mem = s.mem := by
  unfold State.opTimeofday; split <;> simp

@[simp] theorem State.opQp_mem (s : State) (sub qpn mtu : Nat) :
    (State.opQp s sub qpn mtu).2.2.mem = s.mem := by
  unfold State.opQp; dsimp only; (repeat' (first | rfl | (apply mem_foldl; intros) | (rw [mem_ite]) | split | simp [mem_ite, mem_foldl]))

@[simp] theorem State.opRegion_mem (s : State) (reg : Bool) (base len : Nat) (rd wr : Bool) :
    (State.opRegion s reg base len rd wr).2.2.mem = s.mem := by
  unfold State.opRegion; (repeat' split) <;> simp

@[simp] theorem State.packIn_mem (s : State) (d : List Byte) :
    (State.packIn s d).2.2.mem = s.mem := by
  unfold State.packIn; dsimp only; (repeat' (first | rfl | (apply mem_foldl; intros) | (rw [mem_ite]) | split | simp [mem_ite, mem_foldl]))

@[simp] theorem State.opGlean_mem (s : State) (off : Nat) (d : List Byte) :
    (State.opGlean s off d).2.2.mem = s.mem := by
  unfold State.opGlean; dsimp only; (repeat' (first | rfl | (apply mem_foldl; intros) | (rw [mem_ite]) | split | simp))

@[simp] theorem State.xferOpen_mem (s : State) (id st len : Nat) :
    (State.xferOpen s id st len).mem = s.mem := by simp [State.xferOpen]

@[simp] theorem State.opFlashBegin_mem (s : State) (id len : Nat) :
    (State.opFlashBegin s id len).2.2.mem = s.mem := by
  unfold State.opFlashBegin; (repeat' split) <;> simp

@[simp] theorem State.opData_mem (s : State) (id off : Nat) (d : List Byte) :
    (State.opData s id off d).2.2.mem = s.mem := by
  unfold State.opData; dsimp only; (repeat' (first | rfl | (apply mem_foldl; intros) | (rw [mem_ite]) | split | simp [mem_ite, mem_foldl]))

@[simp] theorem State.opFlashEnd_mem (s : State) (id : Nat) :
    (State.opFlashEnd s id).2.2.mem = s.mem := by
  unfold State.opFlashEnd; split <;> simp

@[simp] theorem State.opCancel_mem (s : State) (id : Nat) :
    (State.opCancel s id).2.2.mem = s.mem := by
  unfold State.opCancel; split <;> simp

@[simp] theorem State.opQuote_mem (s : State) (nonce : List Nat) :
    (State.opQuote s nonce).2.2.mem = s.mem := by
  unfold State.opQuote; dsimp only; (repeat' (first | rfl | (apply mem_foldl; intros) | (rw [mem_ite]) | split | simp [mem_ite, mem_foldl]))

@[simp] theorem State.freeBytesList_mem (s : State) (k : Nat) : (State.freeBytesList s k).2.mem = s.mem := by
  simp [State.freeBytesList]

@[simp] theorem State.devGet_mem (s : State) (b k : Nat) : (State.devGet s b k).2.2.mem = s.mem := by
  unfold State.devGet; dsimp only; (repeat' split) <;> simp

@[simp] theorem State.epGet_mem (s : State) (n : Nat) (e : Endpoint) (pl : Bool) (off : Int) (len : Nat) :
    (State.epGet s n e pl off len).2.2.mem = s.mem := by
  unfold State.epGet; dsimp only; split <;> simp

@[simp] theorem State.sendNext_mem (s : State) (n : Nat) (k : Cmd) : (State.sendNext s n k).mem = s.mem := by
  unfold State.sendNext
  extract_lets p e base x csr r s1 l
  have h : s1.mem = s.mem := by
    show (if _ then _ else _ : List Byte × Bool × State).2.2.mem = _
    split <;> simp
  clear_value s1 l
  split <;> simp [h]

@[simp] theorem State.grantTxns_mem (s : State) (h fuel : Nat) : (State.grantTxns s h fuel).mem = s.mem := by
  induction fuel generalizing s with
  | zero => rfl
  | succ fuel ih =>
    unfold State.grantTxns
    split
    · rfl
    · dsimp only
      (repeat' split) <;> simp [ih]

@[simp] theorem State.portSend_mem (s : State) (n : Nat) (k : Cmd) (bad : List Nat) (ue : Bool) :
    (State.portSend s n k bad ue).mem = s.mem := by
  unfold State.portSend; dsimp only; (repeat' split) <;> simp

@[simp] theorem State.put_mem (s : State) (n : Nat) (bad : List Nat) (ue : Bool) : (State.put s n bad ue).mem = s.mem := by
  unfold State.put; split <;> simp

@[simp] theorem State.get_mem (s : State) (n : Nat) : (State.get s n).mem = s.mem := by
  unfold State.get; split <;> simp

@[simp] theorem State.mcast_mem (s : State) (n : Nat) (bad : List Nat) (ue : Bool) : (State.mcast s n bad ue).mem = s.mem := by
  unfold State.mcast; (repeat' split) <;> simp

@[simp] theorem State.portsGo_mem (s : State) : (State.portsGo s).mem = s.mem := by
  unfold State.portsGo
  rw [mem_foldl]
  intro t a; split <;> simp

@[simp] theorem State.oxSend_mem (s : State) (c k op : Nat) : (State.oxSend s c k op).mem = s.mem := by
  unfold State.oxSend
  extract_lets d
  split
  · rfl
  split
  · simp
  rename_i p m id mk r s1 cuts ps s2 s3 _ _ _
  have h : s1.mem = s.mem := by
    show (if _ then _ else _ : List Byte × Bool × State).2.2.mem = _
    (repeat' split) <;> simp
  have h2 : s2.mem = s.mem := by simp [s2, h]
  clear_value s2
  have h3 : s3.mem = s.mem := by
    show (if _ then _ else _ : State).mem = _
    split <;> simp [h2]
  rw [mem_foldl, h3]
  intro t a; simp

end Sys2Proof.Machine
end

