-- ==== Sys2Proof/Laws/FramePending.lean ====
section
/-!
SUPPORT. Operations that leave the queue of waiting commands as it was: one lemma per operation.
-/

namespace Sys2Proof.Machine

theorem pending_foldl {α : Type} (g : State → α → State) (h : ∀ t a, (g t a).pending = t.pending) (l : List α) (s : State) :
    (l.foldl g s).pending = s.pending := by
  induction l generalizing s with
  | nil => rfl
  | cons a l ih => rw [List.foldl_cons, ih, h]
theorem pending_foldl1 {α β : Type} (g : State × β → α → State × β) (h : ∀ t a, (g t a).1.pending = t.1.pending) (l : List α) (x : State × β) :
    (l.foldl g x).1.pending = x.1.pending := by
  induction l generalizing x with
  | nil => rfl
  | cons a l ih => rw [List.foldl_cons, ih, h]
theorem pending_ite (c : Prop) [Decidable c] (a b : State) : (if c then a else b).pending = if c then a.pending else b.pending := by split <;> rfl

@[simp] theorem State.advanceCopy_pending (s : State) (c t : Nat) :
    (State.advanceCopy s c t).pending = s.pending := by simp [State.advanceCopy]

@[simp] theorem State.takeFree_pending (s : State) :
    (State.takeFree s).2.pending = s.pending := by simp [State.takeFree]

@[simp] theorem State.wr32_pending (s : State) (a : Nat) (v : Word) :
    (State.wr32 s a v).pending = s.pending := (rfl)

@[simp] theorem State.store_pending (s : State) (a : Nat) (d : List Byte) :
    (State.store s a d).1.pending = s.pending := by simp [State.store, pending_ite, pending_foldl]

@[simp] theorem State.alarmIn_pending (s : State) (e : EvRec) :
    (State.alarmIn s e).pending = s.pending := by simp [State.alarmIn, pending_ite]

@[simp] theorem State.raise_pending (s : State) (cls code part kind unit data : Nat) :
    (State.raise s cls code part kind unit data).pending = s.pending := by simp [State.raise, pending_ite]

@[simp] theorem State.raiseCore_pending (s : State) (cls code n data : Nat) :
    (State.raiseCore s cls code n data).pending = s.pending := by simp [State.raiseCore]

@[simp] theorem State.raiseClu_pending (s : State) (cls code c data : Nat) :
    (State.raiseClu s cls code c data).pending = s.pending := by simp [State.raiseClu]

@[simp] theorem State.raiseHart_pending (s : State) (cls code h data : Nat) :
    (State.raiseHart s cls code h data).pending = s.pending := by simp [State.raiseHart, pending_ite]

@[simp] theorem State.raiseMemUe_pending (s : State) (a : Nat) :
    (State.raiseMemUe s a).pending = s.pending := by
  unfold State.raiseMemUe; split <;> simp

@[simp] theorem State.ledgerFix_pending (s : State) (p t : Nat) :
    (State.ledgerFix s p t).pending = s.pending := by
  unfold State.ledgerFix; dsimp only; (repeat' (first | rfl | (apply pending_foldl; intros) | (rw [pending_ite]) | split | simp [pending_ite, pending_foldl]))

@[simp] theorem State.ledgerAdd_pending (s : State) (p t n : Nat) :
    (State.ledgerAdd s p t n).pending = s.pending := by simp [State.ledgerAdd, pending_ite]

@[simp] theorem State.setRate_pending (s : State) (r : Int) :
    (State.setRate s r).pending = s.pending := by simp [State.setRate]

@[simp] theorem State.wrapNow_pending (s : State) :
    (State.wrapNow s).pending = s.pending := by simp [State.wrapNow]

@[simp] theorem State.wrapSoon_pending (s : State) :
    (State.wrapSoon s).pending = s.pending := by simp [State.wrapSoon, pending_ite]

@[simp] theorem State.count_pending (s : State) :
    (State.count s).pending = s.pending := by simp [State.count, pending_ite]

@[simp] theorem State.toMultiple_pending (s : State) (ns : Nat) :
    (State.toMultiple s ns).pending = s.pending := by simp [State.toMultiple]

@[simp] theorem State.loadCopy_pending (s : State) (c : Nat) :
    (State.loadCopy s c).pending = s.pending := by simp [State.loadCopy]

@[simp] theorem State.reSource_pending (s : State) :
    (State.reSource s).pending = s.pending := by simp [State.reSource, pending_ite]

@[simp] theorem State.timeStart_pending (s : State) :
    (State.timeStart s).pending = s.pending := by simp [State.timeStart]

@[simp] theorem State.trim_pending (s : State) (e : Int) (lim : Nat) :
    (State.trim s e lim).pending = s.pending := by simp [State.trim]

@[simp] theorem State.setEpoch_pending (s : State) (ns : Nat) :
    (State.setEpoch s ns).pending = s.pending := by simp [State.setEpoch]

@[simp] theorem State.emit_pending (s : State) (cls : Nat) (l : List Nat) :
    (State.emit s cls l).pending = s.pending := by simp [State.emit, pending_ite]

@[simp] theorem State.hostAbsent_pending (s : State) :
    (State.hostAbsent s).pending = s.pending := by simp [State.hostAbsent]

@[simp] theorem State.sendFrame_pending (s : State) :
    (State.sendFrame s).pending = s.pending := by
  unfold State.sendFrame; (repeat' split) <;> simp

@[simp] theorem State.sendBefore_pending (s : State) (fuel : Nat) :
    (State.sendBefore s fuel).pending = s.pending := by
  induction fuel generalizing s with
  | zero => rfl
  | succ k ih => unfold State.sendBefore; split <;> simp [ih]

@[simp] theorem State.caddySend_pending (s : State) (id typ : Nat) (d : List Byte) :
    (State.caddySend s id typ d).pending = s.pending := by
  unfold State.caddySend; split <;> simp [pending_foldl]

@[simp] theorem State.orRegionFlags_pending (s : State) (n i : Nat) (g : Flags) :
    (State.orRegionFlags s n i g).pending = s.pending := by simp [State.orRegionFlags, pending_ite]

@[simp] theorem State.openClear_pending (s : State) (n i : Nat) (scale : Int) (hb : Nat) :
    (State.openClear s n i scale hb).pending = s.pending := by simp [State.openClear]

@[simp] theorem State.fsumStatus_pending (s : State) (h : Nat) (st : Status) :
    (State.fsumStatus s h st).pending = s.pending := by
  unfold State.fsumStatus; split <;> simp

@[simp] theorem State.setTileLe_pending (s : State) (n t o v : Nat) (k : Nat) :
    (State.setTileLe s n t o v k).pending = s.pending := by
  induction k generalizing s o v with
  | zero => rfl
  | succ k ih => simp [State.setTileLe, ih]

@[simp] theorem State.setElem_pending (s : State) (f : Fmt) (n t i v : Nat) :
    (State.setElem s f n t i v).pending = s.pending := by simp [State.setElem, pending_ite]

@[simp] theorem State.setRunBits_pending (s : State) (f : Fmt) (n t0 j v : Nat) :
    (State.setRunBits s f n t0 j v).pending = s.pending := by simp [State.setRunBits]

@[simp] theorem State.setGrainPlane_pending (s : State) (n t : Nat) (e : Int) (g : Flags) :
    (State.setGrainPlane s n t e g).pending = s.pending := by simp [State.setGrainPlane, pending_ite]

@[simp] theorem State.clearRegion_pending (s : State) (n g : Nat) :
    (State.clearRegion s n g).pending = s.pending := by simp [State.clearRegion]

@[simp] theorem State.meshCycle_pending (s : State) :
    (State.meshCycle s).pending = s.pending := by simp [State.meshCycle]

@[simp] theorem State.meshWhile_pending (s : State) (p : Net → Bool) (fuel : Nat) :
    (State.meshWhile s p fuel).pending = s.pending := by
  induction fuel generalizing s with
  | zero => rfl
  | succ k ih => unfold State.meshWhile; split <;> simp [ih]

@[simp] theorem State.meshFor_pending (s : State) (num dp : Nat) :
    (State.meshFor s num dp).pending = s.pending := by simp [State.meshFor]

@[simp] theorem State.sendAt_pending (s : State) (p : Pkt) (sp dp : Nat) :
    (State.sendAt s p sp dp).pending = s.pending := by simp [State.sendAt]

@[simp] theorem State.send_pending (s : State) (p : Pkt) :
    (State.send s p).pending = s.pending := by simp [State.send]

@[simp] theorem State.sendAll_pending (s : State) (l : List Pkt) :
    (State.sendAll s l).pending = s.pending := by simp [State.sendAll, pending_foldl]

@[simp] theorem State.sendTree_pending (s : State) (l : List Pkt) :
    (State.sendTree s l).pending = s.pending := by
  unfold State.sendTree; split <;> simp

@[simp] theorem State.launch_pending (s : State) (sp : Nat) (fl : Flit) :
    (State.launch s sp fl).pending = s.pending := by simp [State.launch]

@[simp] theorem State.launchBus_pending (s : State) (c : Nat) (fl : Flit) :
    (State.launchBus s c fl).pending = s.pending := by simp [State.launchBus]

@[simp] theorem State.purge_pending (s : State) (pk : Pkt → Bool) (fl : Flit → Bool) :
    (State.purge s pk fl).pending = s.pending := by simp [State.purge]

theorem State.arrival_pending {s t : State} {i typ : Nat} {p : Pkt} (h : s.arrival i typ = some (p, t)) : t.pending = s.pending := by
  unfold State.arrival at h
  split at h
  · split at h
    · dsimp only at h; split at h
      · simp at h
      · injection h with h; injection h with _ h; subst h; simp
    · simp at h
  · simp at h

@[simp] theorem State.respond_pending (s : State) (p : Pkt) (typ : Nat) (st : Status) (d : List Byte) :
    (State.respond s p typ st d).pending = s.pending := by simp [State.respond]

@[simp] theorem State.launchPaid_pending (s : State) (pl : Nat) (fl : Flit) :
    (State.launchPaid s pl fl).pending = s.pending := by simp [State.launchPaid]

@[simp] theorem State.injectAt_pending (s : State) (pl : Nat) (fl : Flit) :
    (State.injectAt s pl fl).pending = s.pending := by simp [State.injectAt, pending_ite]

@[simp] theorem State.drainRouter_pending (s : State) (node : Nat) (fuel : Nat) :
    (State.drainRouter s node fuel).pending = s.pending := by
  induction fuel generalizing s with
  | zero => rfl
  | succ k ih => unfold State.drainRouter; dsimp only; (repeat' split) <;> simp [ih]

@[simp] theorem State.inject_pending (s : State) (h : Nat) (fl : Flit) :
    (State.inject s h fl).pending = s.pending := by simp [State.inject, pending_ite]

@[simp] theorem State.modCmd_pending (s : State) (h id : Nat) (g : Cmd → Cmd) :
    (State.modCmd s h id g).pending = s.pending := by simp [State.modCmd]

@[simp] theorem State.dropCmd_pending (s : State) (h id : Nat) :
    (State.dropCmd s h id).pending = s.pending := by simp [State.dropCmd]

@[simp] theorem State.addCredit_pending (s : State) (h n amt part : Nat) :
    (State.addCredit s h n amt part).pending = s.pending := by simp [State.addCredit, pending_ite]

@[simp] theorem State.wallEvent_pending (s : State) (h : Nat) (k : Cmd) (a len : Nat) :
    (State.wallEvent s h k a len).pending = s.pending := by simp [State.wallEvent, pending_ite]

@[simp] theorem State.sendCredit_pending (s : State) (h core cn amt : Nat) (bus : Bool) :
    (State.sendCredit s h core cn amt bus).pending = s.pending := by simp [State.sendCredit, pending_ite]

@[simp] theorem State.zeroReserved_pending (s : State) (h : Nat) (k : Cmd) :
    (State.zeroReserved s h k).pending = s.pending := by simp [State.zeroReserved, pending_ite, pending_foldl]

@[simp] theorem State.statusEvents_pending (s : State) (h : Nat) (k : Cmd) :
    (State.statusEvents s h k).pending = s.pending := by simp [State.statusEvents, pending_ite]

@[simp] theorem State.voidSheaf_pending (s : State) (h : Nat) (k : Cmd) :
    (State.voidSheaf s h k).pending = s.pending := by
  unfold State.voidSheaf; dsimp only; (repeat' (first | rfl | (apply pending_foldl; intros) | (rw [pending_ite]) | split | simp))

@[simp] theorem State.complete_pending (s : State) (h id : Nat) :
    (State.complete s h id).pending = s.pending := by
  unfold State.complete; split <;> simp [pending_ite]

@[simp] theorem State.stopCmds_pending (s : State) (h id : Nat) (sts : List Status) :
    (State.stopCmds s h id sts).pending = s.pending := by
  unfold State.stopCmds; split <;> simp

@[simp] theorem State.stopCmd_pending (s : State) (h id : Nat) (st : Status) :
    (State.stopCmd s h id st).pending = s.pending := by simp [State.stopCmd]

@[simp] theorem State.endNow_pending (s : State) (h : Nat) (k : Cmd) (sts : List Status) :
    (State.endNow s h k sts).pending = s.pending := by simp [State.endNow, pending_ite]

@[simp] theorem State.planned_pending (s : State) (h n written refused cancelled : Nat) :
    (State.planned s h n written refused cancelled).pending = s.pending := by simp [State.planned]

@[simp] theorem State.fixStream_pending (s : State) (h id : Nat) (sts : List Status) :
    (State.fixStream s h id sts).pending = s.pending := by simp [State.fixStream]

@[simp] theorem State.settle_pending (s : State) (h q : Nat) (fuel : Nat) :
    (State.settle s h q fuel).pending = s.pending := by
  induction fuel generalizing s with
  | zero => rfl
  | succ k ih =>
    unfold State.settle; split
    · rfl
    · dsimp only
      split
      · rfl
      · split <;> rw [ih] <;> simp [pending_ite, pending_foldl]

@[simp] theorem State.settleAll_pending (s : State) (h : Nat) :
    (State.settleAll s h).pending = s.pending := by simp [State.settleAll, pending_ite]

@[simp] theorem State.markIssued_pending (s : State) (h : Nat) (k : Cmd) :
    (State.markIssued s h k).pending = s.pending := by simp [State.markIssued]

@[simp] theorem State.ranCmd_pending (s : State) (h id : Nat) (sts : List Status) (g : Flags) (result : Nat) :
    (State.ranCmd s h id sts g result).pending = s.pending := by simp [State.ranCmd]

@[simp] theorem State.countUe_pending (s : State) (w : Nat) :
    (State.countUe s w).pending = s.pending := by
  unfold State.countUe; split <;> simp

@[simp] theorem State.countCe_pending (s : State) (w : Nat) :
    (State.countCe s w).pending = s.pending := by
  unfold State.countCe; split <;> simp

@[simp] theorem State.readDev_pending (s : State) (a len : Nat) :
    (State.readDev s a len).2.2.pending = s.pending := by simp [State.readDev, pending_foldl]

@[simp] theorem State.storeDev_pending (s : State) (a : Nat) (d : List Byte) :
    (State.storeDev s a d).1.pending = s.pending := by simp [State.storeDev, pending_foldl]

@[simp] theorem State.writeDev_pending (s : State) (w : HeldBy) (a : Nat) (d : List Byte) :
    (State.writeDev s w a d).1.pending = s.pending := by
  unfold State.writeDev; (repeat' split) <;> simp

@[simp] theorem State.absorbPkt_pending (s : State) (p : Pkt) :
    (State.absorbPkt s p).pending = s.pending := by simp [State.absorbPkt, pending_ite]

theorem State.portStops_pending {s t : State} {p : Pkt} {resp : Nat} (h : s.portStops p resp = some t) : t.pending = s.pending := by
  unfold State.portStops at h
  (repeat' split at h) <;> first | (injection h with h; subst h; simp) | simp at h

@[simp] theorem State.settleTxns_pending (s : State) (h id : Nat) :
    (State.settleTxns s h id).pending = s.pending := by
  unfold State.settleTxns; split <;> simp [pending_ite]

@[simp] theorem State.groupSet_pending (s : State) (p gid src : Nat) (ms : List (List Word)) :
    (State.groupSet s p gid src ms).pending = s.pending := by simp [State.groupSet]

@[simp] theorem State.arm_pending (s : State) (c i : Nat) (cmd : Option Nat) :
    (State.arm s c i cmd).pending = s.pending := by simp [State.arm, pending_ite]

@[simp] theorem State.shClose_pending (s : State) (c i : Nat) (st : Status) :
    (State.shClose s c i st).pending = s.pending := by simp [State.shClose]

@[simp] theorem State.shCancel_pending (s : State) (c i : Nat) :
    (State.shCancel s c i).pending = s.pending := by
  unfold State.shCancel; (repeat' split) <;> simp

@[simp] theorem State.shOpen_pending (s : State) (c i : Nat) :
    (State.shOpen s c i).pending = s.pending := by
  unfold State.shOpen; (repeat' split) <;> simp

@[simp] theorem State.shCredit_pending (s : State) (c i : Nat) :
    (State.shCredit s c i).1.pending = s.pending := by unfold State.shCredit; dsimp only; split <;> (try split) <;> simp

@[simp] theorem State.shWrite_pending (s : State) (c i : Nat) (x : Sheaf) :
    (State.shWrite s c i x).1.pending = s.pending := by
  unfold State.shWrite; dsimp only; (repeat' (first | rfl | (apply pending_foldl; intros) | (rw [pending_ite]) | split | simp))

@[simp] theorem State.shEnd_pending (s : State) (c i : Nat) (x : Sheaf) (st : Status) (good : Bool) :
    (State.shEnd s c i x st good).pending = s.pending := by simp [State.shEnd, pending_ite, pending_foldl]

@[simp] theorem State.shWritten_pending (s : State) (c i : Nat) (sts : List Status) :
    (State.shWritten s c i sts).pending = s.pending := by
  unfold State.shWritten; split <;> simp

@[simp] theorem State.shComplete_pending (s : State) (c i : Nat) (forced : Option Status) :
    (State.shComplete s c i forced).pending = s.pending := by
  unfold State.shComplete; (repeat' split) <;> simp [pending_ite]

@[simp] theorem State.shArrive_pending (s : State) (c : Nat) (p : Pkt) :
    (State.shArrive s c p).pending = s.pending := by
  unfold State.shArrive; split <;> simp [pending_ite]

@[simp] theorem State.shCloseAll_pending (s : State) (p : Nat) :
    (State.shCloseAll s p).pending = s.pending := by simp [State.shCloseAll, pending_foldl]

@[simp] theorem State.landCredit_pending (s : State) (p : Pkt) (m : List Word) :
    (State.landCredit s p m).pending = s.pending := by simp [State.landCredit, pending_ite]

@[simp] theorem State.setLanding_pending (s : State) (p : Pkt) (e : Landing) (fin : Bool) :
    (State.setLanding s p e fin).pending = s.pending := by simp [State.setLanding]

@[simp] theorem State.landDrop_pending (s : State) (p : Pkt) (sts : List Status) :
    (State.landDrop s p sts).pending = s.pending := by simp [State.landDrop, pending_ite]

@[simp] theorem State.landed_pending (s : State) (p : Pkt) (sts : List Status) :
    (State.landed s p sts).pending = s.pending := by simp [State.landed, pending_ite]

@[simp] theorem State.heldDone_pending (s : State) (w : HeldWrite) (sts : List Status) :
    (State.heldDone s w sts).pending = s.pending := by
  unfold State.heldDone; split <;> simp

@[simp] theorem State.heldOut_pending (s : State) (l : List HeldWrite) (discard : Bool) :
    (State.heldOut s l discard).pending = s.pending := by
  unfold State.heldOut; dsimp only; (repeat' (first | rfl | (apply pending_foldl; rintro t a) | (apply pending_foldl1; rintro t ⟨a, b⟩) | (rw [pending_ite]) | split | simp))

@[simp] theorem State.landHeld_pending (s : State) (h : Nat) :
    (State.landHeld s h).pending = s.pending := by simp [State.landHeld, pending_ite]

@[simp] theorem State.readClear_pending (s : State) (l : List Fd) :
    (State.readClear s l).pending = s.pending := by simp [State.readClear, pending_ite, pending_foldl]

@[simp] theorem State.csrRead_pending (s : State) (off : Nat) :
    (State.csrRead s off).2.pending = s.pending := by
  unfold State.csrRead; split <;> simp [pending_ite]

@[simp] theorem State.writeField_pending (s : State) (o : Nat) (w : Word) (d : Fd) :
    (State.writeField s o w d).pending = s.pending := by
  unfold State.writeField; dsimp only; (repeat' (first | rfl | (apply pending_foldl; intros) | (rw [pending_ite]) | split | simp [pending_ite, pending_foldl]))

@[simp] theorem State.csrStore_pending (s : State) (off : Nat) (w : Word) :
    (State.csrStore s off w).pending = s.pending := by
  unfold State.csrStore; split <;> simp [pending_foldl]

@[simp] theorem State.walkWall_pending (s : State) (h : Nat) (k : Cmd) (l : List Level) :
    (State.walkWall s h k l).pending = s.pending := by simp [State.walkWall, pending_ite]

@[simp] theorem State.tileBytes_pending (s : State) (h : Nat) (pl : Bool) (b : Nat) (d : List Byte) :
    (State.tileBytes s h pl b d).pending = s.pending := by simp [State.tileBytes, pending_ite, pending_foldl]

@[simp] theorem State.carry_pending (s : State) (h : Nat) (l : List (Nat × Nat)) :
    (State.carry s h l).pending = s.pending := by simp [State.carry, pending_foldl]

@[simp] theorem State.cutCopy_pending (s : State) (h : Nat) (k : Cmd) (e2 : Endpoint) (l : List (Int × Int)) :
    (State.cutCopy s h k e2 l).1.pending = s.pending := by
  unfold State.cutCopy; dsimp only; (repeat' (first | rfl | (apply pending_foldl; rintro t a) | (apply pending_foldl1; rintro t ⟨a, b⟩) | (rw [pending_ite]) | split | simp))

@[simp] theorem State.cutMove_pending (s : State) (h : Nat) (k : Cmd) :
    (State.cutMove s h k).pending = s.pending := by
  unfold State.cutMove; (repeat' split) <;> simp

@[simp] theorem State.touch_pending (s : State) (c : Nat) :
    (State.touch s c).pending = s.pending := by simp [State.touch]

@[simp] theorem State.wdogLoad_pending (s : State) (h : Nat) :
    (State.wdogLoad s h).pending = s.pending := by simp [State.wdogLoad]

@[simp] theorem State.wdogStop_pending (s : State) (h : Nat) :
    (State.wdogStop s h).pending = s.pending := by simp [State.wdogStop]

@[simp] theorem State.wdogHold_pending (s : State) (c : Nat) :
    (State.wdogHold s c).pending = s.pending := by simp [State.wdogHold, pending_ite, pending_foldl]

@[simp] theorem State.wdogGo_pending (s : State) (c : Nat) :
    (State.wdogGo s c).pending = s.pending := by simp [State.wdogGo, pending_foldl]

@[simp] theorem State.clkInt_pending (s : State) (h : Nat) :
    (State.clkInt s h).pending = s.pending := by simp [State.clkInt, pending_ite]

@[simp] theorem State.freeTile_pending (s : State) (n t : Nat) :
    (State.freeTile s n t).pending = s.pending := by simp [State.freeTile, pending_foldl]

@[simp] theorem State.freeFlag_pending (s : State) (d : Fd) :
    (State.freeFlag s d).pending = s.pending := by simp [State.freeFlag]

@[simp] theorem State.freeRegion_pending (s : State) (n g : Nat) :
    (State.freeRegion s n g).pending = s.pending := by simp [State.freeRegion, pending_foldl]

@[simp] theorem State.freeRows_pending (s : State) (n t0 m : Nat) (f : Fmt) :
    (State.freeRows s n t0 m f).pending = s.pending := by simp [State.freeRows, pending_ite, pending_foldl]

@[simp] theorem State.freeMem_pending (s : State) (a len : Nat) :
    (State.freeMem s a len).pending = s.pending := by simp [State.freeMem, pending_foldl]

@[simp] theorem State.freeUnit_pending (s : State) (n u : Nat) :
    (State.freeUnit s n u).pending = s.pending := by simp [State.freeUnit, pending_ite]

@[simp] theorem State.streamOut_pending (s : State) (h : Nat) (k : Cmd) :
    (State.streamOut s h k).pending = s.pending := by simp [State.streamOut]

@[simp] theorem State.dropEntries_pending (s : State) (h : Nat) (k : Cmd) :
    (State.dropEntries s h k).pending = s.pending := by simp [State.dropEntries, pending_ite]

@[simp] theorem State.streamCancel_pending (s : State) (h m : Nat) :
    (State.streamCancel s h m).pending = s.pending := by
  unfold State.streamCancel; split <;> simp [pending_ite, pending_foldl]

@[simp] theorem State.leaveRun_pending (s : State) (h : Nat) :
    (State.leaveRun s h).pending = s.pending := by simp [State.leaveRun, pending_foldl]

@[simp] theorem State.gleanCut_pending (s : State) (n : Nat) :
    (State.gleanCut s n).pending = s.pending := by simp [State.gleanCut, pending_ite]

@[simp] theorem State.startHart_pending (s : State) (h pc : Nat) :
    (State.startHart s h pc).pending = s.pending := by simp [State.startHart, pending_ite]

@[simp] theorem State.exc_pending (s : State) (h cause a : Nat) :
    (State.exc s h cause a).pending = s.pending := by simp [State.exc, pending_ite]

@[simp] theorem State.excMem_pending (s : State) (h cause a m : Nat) :
    (State.excMem s h cause a m).pending = s.pending := by simp [State.excMem]

@[simp] theorem State.haltHart_pending (s : State) (h code : Nat) :
    (State.haltHart s h code).pending = s.pending := by simp [State.haltHart, pending_ite]

@[simp] theorem State.barrierCredits_pending (s : State) (c b : Nat) :
    (State.barrierCredits s c b).pending = s.pending := by simp [State.barrierCredits, pending_ite, pending_foldl]

@[simp] theorem State.barrier_pending (s : State) (c b : Nat) :
    (State.barrier s c b).pending = s.pending := by simp [State.barrier, pending_ite]

@[simp] theorem State.inboxRefuse_pending (s : State) (part c : Nat) (w : Word) :
    (State.inboxRefuse s part c w).pending = s.pending := by simp [State.inboxRefuse]

@[simp] theorem State.knote_pending (s : State) (c : Nat) (t d : Nat) :
    (State.knote s c t d).pending = s.pending := by simp [State.knote, pending_ite]

@[simp] theorem State.barnCount_pending (s : State) :
    (State.barnCount s).pending = s.pending := by simp [State.barnCount, pending_foldl]

@[simp] theorem State.journal_pending (s : State) :
    (State.journal s).pending = s.pending := by simp [State.journal]

@[simp] theorem State.modBale_pending (s : State) (id : Nat) (g : Bale → Bale) :
    (State.modBale s id g).pending = s.pending := by simp [State.modBale]

@[simp] theorem State.modBlock_pending (s : State) (ch tgt blk : Nat) (g : Block → Block) :
    (State.modBlock s ch tgt blk g).pending = s.pending := by simp [State.modBlock]

@[simp] theorem State.dropBale_pending (s : State) (id : Nat) :
    (State.dropBale s id).pending = s.pending := by simp [State.dropBale]

@[simp] theorem State.takeBlocks_pending (s : State) (ch id : Nat) (k : Nat) :
    (State.takeBlocks s ch id k).pending = s.pending := by
  induction k generalizing s with
  | zero => rfl
  | succ k ih => unfold State.takeBlocks; split <;> simp [ih, State.modBlock]

@[simp] theorem State.moveData_pending (s : State) (b : Block) (term : Nat) :
    (State.moveData s b term).pending = s.pending := by simp [State.moveData]

@[simp] theorem State.wearTarget_pending (s : State) (ch tgt : Nat) :
    (State.wearTarget s ch tgt).pending = s.pending := by
  unfold State.wearTarget; dsimp only; split
  · rfl
  · split <;> simp [State.modBlock]

@[simp] theorem State.wear_pending (s : State) :
    (State.wear s).pending = s.pending := by unfold State.wear; exact pending_foldl _ (fun t a => by simp) _ _

@[simp] theorem State.devCredit_pending (s : State) (p core cn amt : Nat) :
    (State.devCredit s p core cn amt).pending = s.pending := by simp [State.devCredit, pending_ite]

@[simp] theorem State.autopost_pending (s : State) (l : List (List Word)) :
    (State.autopost s l).pending = s.pending := by
  induction l generalizing s with
  | nil => rfl
  | cons e r ih => unfold State.autopost; split <;> simp [ih, pending_foldl]

@[simp] theorem State.barnDone_pending (s : State) (o : BarnOp) (st : Status) :
    (State.barnDone s o st).pending = s.pending := by simp [State.barnDone, pending_ite]

@[simp] theorem State.barnPost_pending (s : State) (host : Bool) (c k : Nat) :
    (State.barnPost s host c k).pending = s.pending := by simp [State.barnPost, pending_ite]

@[simp] theorem State.barnDetach_pending (s : State) (p : Nat) :
    (State.barnDetach s p).pending = s.pending := by simp [State.barnDetach, pending_foldl]

@[simp] theorem State.barnDetachHost_pending (s : State) :
    (State.barnDetachHost s).pending = s.pending := by simp [State.barnDetachHost, pending_foldl]

@[simp] theorem State.barnFail_pending (s : State) :
    (State.barnFail s).pending = s.pending := by simp [State.barnFail]

@[simp] theorem State.setChans_pending (s : State) (l : List ChanFound) :
    (State.setChans s l).pending = s.pending := by simp [State.setChans, pending_foldl]

@[simp] theorem State.keepAges_pending (s : State) :
    (State.keepAges s).pending = s.pending := by simp [State.keepAges, pending_ite]

@[simp] theorem State.mountAges_pending (s : State) :
    (State.mountAges s).pending = s.pending := by simp [State.mountAges]

@[simp] theorem State.barnMount_pending (s : State) (l : List ChanFound) :
    (State.barnMount s l).pending = s.pending := by simp [State.barnMount, pending_ite, pending_foldl]

@[simp] theorem State.codewordUe_pending (s : State) (ch u : Nat) :
    (State.codewordUe s ch u).pending = s.pending := by simp [State.codewordUe]

@[simp] theorem State.blockBad_pending (s : State) (ch tgt blk : Nat) :
    (State.blockBad s ch tgt blk).pending = s.pending := by
  unfold State.blockBad; split <;> simp [pending_ite]

@[simp] theorem State.barnStore_pending (s : State) (o : BarnOp) (fails : List (Nat × Nat × Nat)) :
    (State.barnStore s o fails).pending = s.pending := by simp [State.barnStore, pending_foldl]

@[simp] theorem State.barnCreate_pending (s : State) (o : BarnOp) :
    (State.barnCreate s o).pending = s.pending := by simp [State.barnCreate, pending_foldl]

@[simp] theorem State.barnSeal_pending (s : State) (o : BarnOp) (b : Bale) :
    (State.barnSeal s o b).pending = s.pending := by simp [State.barnSeal, pending_ite]

@[simp] theorem State.nandTimeout_pending (s : State) (host : Bool) (c k ch : Nat) :
    (State.nandTimeout s host c k ch).pending = s.pending := by
  unfold State.nandTimeout; split <;> simp [pending_ite]

@[simp] theorem State.targetHot_pending (s : State) (ch tgt temp : Nat) :
    (State.targetHot s ch tgt temp).pending = s.pending := by simp [State.targetHot]

@[simp] theorem State.scrub_pending (s : State) (ch tgt blk temp : Nat) (soft reloc : Bool) :
    (State.scrub s ch tgt blk temp soft reloc).pending = s.pending := by
  unfold State.scrub; split <;> simp [pending_ite]

@[simp] theorem State.eraseEnd_pending (s : State) (ch tgt blk : Nat) (ok : Bool) :
    (State.eraseEnd s ch tgt blk ok).pending = s.pending := by
  unfold State.eraseEnd; split <;> simp [pending_ite]

@[simp] theorem State.rebuild_pending (s : State) :
    (State.rebuild s).pending = s.pending := by simp [State.rebuild, pending_ite]

@[simp] theorem State.format_pending (s : State) (l : List (Nat × Nat × Nat × Bool)) :
    (State.format s l).pending = s.pending := by simp [State.format, pending_foldl]

@[simp] theorem State.setWidth_pending (s : State) (l w : Nat) :
    (State.setWidth s l w).pending = s.pending := by simp [State.setWidth]

@[simp] theorem State.octBlock_pending (s : State) (l : Nat) :
    (State.octBlock s l).pending = s.pending := by simp [State.octBlock, pending_ite]

@[simp] theorem State.octGo_pending (s : State) (l : Nat) :
    (State.octGo s l).pending = s.pending := by simp [State.octGo, pending_ite]

@[simp] theorem State.oxPost_pending (s : State) (c k : Nat) :
    (State.oxPost s c k).pending = s.pending := by simp [State.oxPost, pending_ite]

@[simp] theorem State.oxDone_pending (s : State) (c k : Nat) (st : Status) :
    (State.oxDone s c k st).pending = s.pending := by simp [State.oxDone, pending_ite]

@[simp] theorem State.octMgmt_pending (s : State) (l : Nat) (p : OPkt) (part a : Nat) (d : List Byte) :
    (State.octMgmt s l p part a d).pending = s.pending := by simp [State.octMgmt]

@[simp] theorem State.octMgmtEnd_pending (s : State) (q : Pkt) :
    (State.octMgmtEnd s q).pending = s.pending := by
  unfold State.octMgmtEnd; split <;> simp

@[simp] theorem State.octAbsorb_pending (s : State) (l : Nat) (p : OPkt) :
    (State.octAbsorb s l p).pending = s.pending := by simp [State.octAbsorb, pending_ite]

@[simp] theorem State.octCredit_pending (s : State) (p : OPkt) :
    (State.octCredit s p).pending = s.pending := by simp [State.octCredit, pending_ite]

@[simp] theorem State.octSheaf_pending (s : State) (l : Nat) (p : OPkt) :
    (State.octSheaf s l p).pending = s.pending := by
  unfold State.octSheaf; dsimp only; (repeat' (first | rfl | (apply pending_foldl; intros) | (rw [pending_ite]) | split | simp))

@[simp] theorem State.oxAbort_pending (s : State) (p : Nat) :
    (State.oxAbort s p).pending = s.pending := by simp [State.oxAbort, pending_ite, pending_foldl]

@[simp] theorem State.retrain_pending (s : State) (l : Nat) :
    (State.retrain s l).pending = s.pending := by simp [State.retrain]

@[simp] theorem State.abortWrites_pending (s : State) (h : Nat) (k : Cmd) :
    (State.abortWrites s h k).pending = s.pending := by simp [State.abortWrites, pending_ite, pending_foldl]

@[simp] theorem State.abortOpen_pending (s : State) (h : Nat) (k : Cmd) :
    (State.abortOpen s h k).pending = s.pending := by simp [State.abortOpen, pending_ite, pending_foldl]

@[simp] theorem State.abortCmd_pending (s : State) (h : Nat) (k : Cmd) :
    (State.abortCmd s h k).pending = s.pending := by simp [State.abortCmd, pending_ite]

@[simp] theorem State.abortPtr_pending (s : State) (h m a : Nat) :
    (State.abortPtr s h m a).pending = s.pending := by simp [State.abortPtr, pending_ite]

@[simp] theorem State.abortArray_pending (s : State) (h : Nat) :
    (State.abortArray s h).pending = s.pending := by simp [State.abortArray, pending_ite, pending_foldl]

@[simp] theorem State.abortCore_pending (s : State) (n : Nat) :
    (State.abortCore s n).pending = s.pending := by simp [State.abortCore, pending_ite, pending_foldl]

@[simp] theorem State.unclear_pending (s : State) (c : Nat) (k : Cmd) :
    (State.unclear s c k).pending = s.pending := by simp [State.unclear, pending_ite]

@[simp] theorem State.abortSeq_pending (s : State) (c : Nat) :
    (State.abortSeq s c).pending = s.pending := by simp [State.abortSeq, pending_foldl]

@[simp] theorem State.abortClu_pending (s : State) (c : Nat) :
    (State.abortClu s c).pending = s.pending := by simp [State.abortClu, pending_foldl]

@[simp] theorem State.abort_pending (s : State) (p : Nat) :
    (State.abort s p).pending = s.pending := by simp [State.abort, pending_ite, pending_foldl]

@[simp] theorem State.abortOf_pending (s : State) (c : Nat) :
    (State.abortOf s c).pending = s.pending := by simp [State.abortOf, pending_ite]

@[simp] theorem State.deviceAbort_pending (s : State) :
    (State.deviceAbort s).pending = s.pending := by simp [State.deviceAbort, pending_foldl]

@[simp] theorem State.auditRead_pending (s : State) (p : Nat) :
    (State.auditRead s p).pending = s.pending := by simp [State.auditRead, pending_foldl]

@[simp] theorem State.auditFail_pending (s : State) (p item : Nat) :
    (State.auditFail s p item).pending = s.pending := by simp [State.auditFail]

@[simp] theorem State.auditStart_pending (s : State) (p : Nat) :
    (State.auditStart s p).pending = s.pending := by simp [State.auditStart, pending_ite]

@[simp] theorem State.devAuditStart_pending (s : State) :
    (State.devAuditStart s).pending = s.pending := by simp [State.devAuditStart]

@[simp] theorem State.writeOff_pending (s : State) (p : Nat) :
    (State.writeOff s p).pending = s.pending := by simp [State.writeOff, pending_ite, pending_foldl]

@[simp] theorem State.reclaim_pending (s : State) (p : Nat) :
    (State.reclaim s p).pending = s.pending := by simp [State.reclaim, pending_foldl]

@[simp] theorem State.setVt_pending (s : State) (c v10 : Nat) :
    (State.setVt s c v10).pending = s.pending := by simp [State.setVt]

@[simp] theorem State.showCeil_pending (s : State) (c : Nat) :
    (State.showCeil s c).pending = s.pending := by simp [State.showCeil]

@[simp] theorem State.showIssue_pending (s : State) (c : Nat) :
    (State.showIssue s c).pending = s.pending := by simp [State.showIssue]

@[simp] theorem State.cancelRaise_pending (s : State) (c : Nat) :
    (State.cancelRaise s c).pending = s.pending := by simp [State.cancelRaise, pending_ite]

@[simp] theorem State.enterSteep_pending (s : State) (c : Nat) :
    (State.enterSteep s c).pending = s.pending := by simp [State.enterSteep]

@[simp] theorem State.enterRest_pending (s : State) (c : Nat) :
    (State.enterRest s c).pending = s.pending := by simp [State.enterRest, pending_ite]

@[simp] theorem State.wakeSteep_pending (s : State) (c : Nat) :
    (State.wakeSteep s c).pending = s.pending := by simp [State.wakeSteep]

@[simp] theorem State.grant_pending (s : State) (c : Nat) :
    (State.grant s c).pending = s.pending := by simp [State.grant]

@[simp] theorem State.throttle_pending (s : State) (c : Nat) :
    (State.throttle s c).pending = s.pending := by simp [State.throttle, pending_ite]

@[simp] theorem State.ticket_pending (s : State) (c : Nat) :
    (State.ticket s c).pending = s.pending := by simp [State.ticket, pending_ite]

@[simp] theorem State.gleanWake_pending (s : State) (c : Nat) :
    (State.gleanWake s c).pending = s.pending := by simp [State.gleanWake, pending_ite, pending_foldl]

@[simp] theorem State.wakeClu_pending (s : State) (c : Nat) :
    (State.wakeClu s c).pending = s.pending := by simp [State.wakeClu, pending_ite]

@[simp] theorem State.leaveOff_pending (s : State) (c : Nat) :
    (State.leaveOff s c).pending = s.pending := by simp [State.leaveOff, pending_ite]

@[simp] theorem State.zeroHart_pending (s : State) (h : Nat) :
    (State.zeroHart s h).pending = s.pending := by simp [State.zeroHart, pending_ite]

@[simp] theorem State.zeroClu_pending (s : State) (c : Nat) :
    (State.zeroClu s c).pending = s.pending := by simp [State.zeroClu, pending_foldl]

@[simp] theorem State.startSeq_pending (s : State) (c : Nat) :
    (State.startSeq s c).pending = s.pending := by simp [State.startSeq]

@[simp] theorem State.cluAlert_pending (s : State) (c : Nat) :
    (State.cluAlert s c).pending = s.pending := by simp [State.cluAlert, pending_ite]

@[simp] theorem State.wakeReady_pending (s : State) (c : Nat) :
    (State.wakeReady s c).pending = s.pending := by simp [State.wakeReady, pending_ite, pending_foldl]

@[simp] theorem State.enterOff_pending (s : State) (c cause : Nat) :
    (State.enterOff s c cause).pending = s.pending := by simp [State.enterOff]

@[simp] theorem State.park_pending (s : State) (c cause : Nat) :
    (State.park s c cause).pending = s.pending := by simp [State.park, pending_ite]

@[simp] theorem State.coreAway_pending (s : State) (n : Nat) :
    (State.coreAway s n).pending = s.pending := by simp [State.coreAway]

@[simp] theorem State.arrayCols_pending (s : State) (n key : Nat) :
    (State.arrayCols s n key).pending = s.pending := by simp [State.arrayCols]

@[simp] theorem State.goDark_pending (s : State) (c sl : Nat) :
    (State.goDark s c sl).pending = s.pending := by simp [State.goDark, pending_ite, pending_foldl]

@[simp] theorem State.sliceFail_pending (s : State) (c sl : Nat) (ctrl : Bool) :
    (State.sliceFail s c sl ctrl).pending = s.pending := by simp [State.sliceFail, pending_ite]

@[simp] theorem State.alertOn_pending (s : State) (i : Nat) :
    (State.alertOn s i).pending = s.pending := by simp [State.alertOn, pending_ite, pending_foldl]

@[simp] theorem State.alertOff_pending (s : State) (i : Nat) :
    (State.alertOff s i).pending = s.pending := by simp [State.alertOff]

@[simp] theorem State.cluUnalert_pending (s : State) (c : Nat) :
    (State.cluUnalert s c).pending = s.pending := by simp [State.cluUnalert, pending_ite]

@[simp] theorem State.keepRegs_pending (s : State) (p : Nat → Bool) :
    (State.keepRegs s p).pending = s.pending := by simp [State.keepRegs]

@[simp] theorem State.medium_pending (s : State) :
    (State.medium s).pending = s.pending := by simp [State.medium]

@[simp] theorem State.railsOff_pending (s : State) :
    (State.railsOff s).pending = s.pending := by simp [State.railsOff]

@[simp] theorem State.vaonOff_pending (s : State) :
    (State.vaonOff s).pending = s.pending := by simp [State.vaonOff]

@[simp] theorem State.flushEvents_pending (s : State) :
    (State.flushEvents s).pending = s.pending := by simp [State.flushEvents]

@[simp] theorem State.warmRails_pending (s : State) :
    (State.warmRails s).pending = s.pending := by simp [State.warmRails, pending_foldl]

@[simp] theorem State.fieldSr_pending (s : State) (f : Nat) (b : Bool) :
    (State.fieldSr s f b).pending = s.pending := by simp [State.fieldSr, pending_ite, pending_foldl]

@[simp] theorem State.stacksSr_pending (s : State) (b : Bool) :
    (State.stacksSr s b).pending = s.pending := by simp [State.stacksSr, pending_foldl]

@[simp] theorem State.kwEnter_pending (s : State) (cause : Nat) :
    (State.kwEnter s cause).pending = s.pending := by simp [State.kwEnter, pending_ite]

@[simp] theorem State.kwFinish_pending (s : State) :
    (State.kwFinish s).pending = s.pending := by simp [State.kwFinish, pending_ite]

@[simp] theorem State.startFail_pending (s : State) (fail cause : Nat) :
    (State.startFail s fail cause).pending = s.pending := by simp [State.startFail]

@[simp] theorem State.restartBegin_pending (s : State) :
    (State.restartBegin s).pending = s.pending := by simp [State.restartBegin]

@[simp] theorem State.pathsChange_pending (s : State) (f : Nat) :
    (State.pathsChange s f).pending = s.pending := by simp [State.pathsChange]

@[simp] theorem State.fieldTrip_pending (s : State) (f : Nat) :
    (State.fieldTrip s f).pending = s.pending := by simp [State.fieldTrip, pending_ite]

@[simp] theorem State.fieldRestore_pending (s : State) (f : Nat) :
    (State.fieldRestore s f).pending = s.pending := by simp [State.fieldRestore, pending_ite]

@[simp] theorem State.glide_pending (s : State) (c f : Nat) :
    (State.glide s c f).pending = s.pending := by simp [State.glide]

@[simp] theorem State.freqEval_pending (s : State) (c m : Nat) :
    (State.freqEval s c m).pending = s.pending := by simp [State.freqEval, pending_ite]

@[simp] theorem State.vin_pending (s : State) (v : Nat) :
    (State.vin s v).pending = s.pending := by simp [State.vin]

@[simp] theorem State.iin_pending (s : State) (i : Nat) :
    (State.iin s i).pending = s.pending := by simp [State.iin]

@[simp] theorem State.showFeed_pending (s : State) (f : Nat) :
    (State.showFeed s f).pending = s.pending := by simp [State.showFeed]

@[simp] theorem State.sense_pending (s : State) (f : Nat) (w e v : Int) :
    (State.sense s f w e v).pending = s.pending := by simp [State.sense, pending_ite]

@[simp] theorem State.ocTrip_pending (s : State) (c amps : Nat) :
    (State.ocTrip s c amps).pending = s.pending := by simp [State.ocTrip, pending_ite]

@[simp] theorem State.ocResume_pending (s : State) (c : Nat) :
    (State.ocResume s c).pending = s.pending := by simp [State.ocResume, pending_ite]

@[simp] theorem State.ocRelease_pending (s : State) (c : Nat) :
    (State.ocRelease s c).pending = s.pending := by simp [State.ocRelease, pending_ite]

@[simp] theorem State.telRing_pending (s : State) (ws : List Nat) :
    (State.telRing s ws).pending = s.pending := by simp [State.telRing, pending_ite]

@[simp] theorem State.telDeliver_pending (s : State) (ws : List Nat) :
    (State.telDeliver s ws).pending = s.pending := by simp [State.telDeliver, pending_foldl]

@[simp] theorem State.rampStart_pending (s : State) (n : Nat) :
    (State.rampStart s n).pending = s.pending := by simp [State.rampStart]

@[simp] theorem State.rampEnd_pending (s : State) (n : Nat) :
    (State.rampEnd s n).pending = s.pending := by simp [State.rampEnd]

@[simp] theorem State.warmArray_pending (s : State) (n : Nat) :
    (State.warmArray s n).pending = s.pending := by simp [State.warmArray, pending_ite]

@[simp] theorem State.seedCore_pending (s : State) (p n : Nat) :
    (State.seedCore s p n).pending = s.pending := by simp [State.seedCore]

@[simp] theorem State.seedPart_pending (s : State) (p : Nat) :
    (State.seedPart s p).pending = s.pending := by simp [State.seedPart, pending_foldl]

@[simp] theorem State.wnPend_pending (s : State) (n : Nat) (up : Bool) :
    (State.wnPend s n up).pending = s.pending := by simp [State.wnPend]

@[simp] theorem State.capture_pending (s : State) (n : Nat) (x : Sample) :
    (State.capture s n x).pending = s.pending := by
  unfold State.capture; (repeat' split) <;> simp

@[simp] theorem State.freeSample_pending (s : State) (w : Nat) :
    (State.freeSample s w).pending = s.pending := by
  unfold State.freeSample; dsimp only; (repeat' (first | rfl | (apply pending_foldl; intros) | (rw [pending_ite]) | split | simp [pending_ite, pending_foldl]))

@[simp] theorem State.retire_pending (s : State) (n : Nat) :
    (State.retire s n).pending = s.pending := by simp [State.retire, pending_ite]

@[simp] theorem State.remapStart_pending (s : State) (n : Nat) :
    (State.remapStart s n).pending = s.pending := by simp [State.remapStart, pending_ite]

@[simp] theorem State.remapFinish_pending (s : State) (n : Nat) :
    (State.remapFinish s n).pending = s.pending := by
  unfold State.remapFinish; dsimp only; (repeat' (first | rfl | (rw [pending_foldl]; rintro t a) | (rw [pending_foldl1]; rintro t ⟨a, b⟩) | split | simp [pending_foldl]))

@[simp] theorem State.showCharges_pending (s : State) (n : Nat) :
    (State.showCharges s n).pending = s.pending := by simp [State.showCharges]

@[simp] theorem State.charge_pending (s : State) (n : Nat) :
    (State.charge s n).1.pending = s.pending := by unfold State.charge; dsimp only; split <;> simp

@[simp] theorem State.verdict_pending (s : State) (w : Nat) (row : Nat) :
    (State.verdict s w row).pending = s.pending := by
  unfold State.verdict; split
  · rfl
  · dsimp only; (repeat' split) <;> simp [pending_foldl1]

@[simp] theorem State.wnFlush_pending (s : State) :
    (State.wnFlush s).pending = s.pending := by simp [State.wnFlush, pending_ite, pending_foldl]

@[simp] theorem State.wantDone_pending (s : State) (c : Nat) :
    (State.wantDone s c).pending = s.pending := by simp [State.wantDone, pending_ite]

@[simp] theorem State.restEntry_pending (s : State) (c : Nat) :
    (State.restEntry s c).pending = s.pending := by simp [State.restEntry, pending_ite]

@[simp] theorem State.pstRest_pending (s : State) (c : Nat) :
    (State.pstRest s c).pending = s.pending := by simp [State.pstRest, pending_ite]

@[simp] theorem State.pstOff_pending (s : State) (c : Nat) :
    (State.pstOff s c).pending = s.pending := by simp [State.pstOff, pending_ite]

@[simp] theorem State.pstOn_pending (s : State) (c : Nat) :
    (State.pstOn s c).pending = s.pending := by simp [State.pstOn, pending_ite]

@[simp] theorem State.wakeAlarm_pending (s : State) (c : Nat) :
    (State.wakeAlarm s c).pending = s.pending := by
  unfold State.wakeAlarm; split <;> simp [pending_ite]

@[simp] theorem State.cutCompute_pending (s : State) :
    (State.cutCompute s).pending = s.pending := by
  unfold State.cutCompute; dsimp only; (repeat' (first | rfl | (apply pending_foldl; intros) | (rw [pending_ite]) | split | simp))

@[simp] theorem State.cutMemory_pending (s : State) :
    (State.cutMemory s).pending = s.pending := by simp [State.cutMemory, pending_ite]

@[simp] theorem State.uncut_pending (s : State) (spare : Nat) :
    (State.uncut s spare).pending = s.pending := by
  unfold State.uncut; (repeat' split) <;> simp [pending_ite, pending_foldl]

@[simp] theorem State.showCap_pending (s : State) :
    (State.showCap s).pending = s.pending := by simp [State.showCap]

@[simp] theorem State.capEval_pending (s : State) (link mem cmp : Nat) (clu : List Nat) :
    (State.capEval s link mem cmp clu).pending = s.pending := by simp [State.capEval, pending_ite, pending_foldl]

@[simp] theorem State.heatClu_pending (s : State) (c temp : Nat) :
    (State.heatClu s c temp).pending = s.pending := by simp [State.heatClu, pending_ite]

@[simp] theorem State.heatField_pending (s : State) (f temp : Nat) :
    (State.heatField s f temp).pending = s.pending := by simp [State.heatField, pending_ite]

@[simp] theorem State.addRows_pending (s : State) (n g hb : Nat) (cells : List Cell) :
    (State.addRows s n g hb cells).1.pending = s.pending := by
  unfold State.addRows; rw [pending_foldl1]; rintro t ⟨a, b⟩; simp

@[simp] theorem State.passRegion_pending (s : State) (n g : Nat) (f : MqF) (cells : List Cell) :
    (State.passRegion s n g f cells).1.pending = s.pending := by simp [State.passRegion, pending_ite]

@[simp] theorem State.winnowUnit_pending (s : State) (n : Nat) (k : Cmd) (g : Geom) (w : WeightSet) (u : Nat) (cells : List Cell) (ue : Bool) :
    (State.winnowUnit s n k g w u cells ue).pending = s.pending := by simp [State.winnowUnit, pending_ite]

@[simp] theorem State.passRegions_pending (s : State) (n : Nat) (k : Cmd) (g : Geom) (w : WeightSet) (ue : Bool) :
    (State.passRegions s n k g w ue).1.pending = s.pending := by
  unfold State.passRegions; dsimp only; rw [pending_foldl1]; intro t a; dsimp only; split <;> simp

@[simp] theorem State.plusOut_pending (s : State) (n : Nat) (k : Cmd) (f : Fmt) (x : Ext) (i : Nat) :
    (State.plusOut s n k f x i).1.pending = s.pending := by simp [State.plusOut]

@[simp] theorem State.passTiles_pending (s : State) (n : Nat) (k : Cmd) (g : Geom) (w : WeightSet) :
    (State.passTiles s n k g w).1.pending = s.pending := by
  unfold State.passTiles; dsimp only; (repeat' (first | rfl | (apply pending_foldl; rintro t a) | (apply pending_foldl1; rintro t ⟨a, b⟩) | (rw [pending_ite]) | split | simp [pending_foldl]))

@[simp] theorem State.runPass_pending (s : State) (n op bub : Nat) (ue : Bool) :
    (State.runPass s n op bub ue).pending = s.pending := by
  unfold State.runPass; (repeat' split) <;> simp

@[simp] theorem State.retireWrite_pending (s : State) (n : Nat) :
    (State.retireWrite s n).pending = s.pending := by simp [State.retireWrite, pending_ite]

@[simp] theorem State.gleanFail_pending (s : State) (n kern : Nat) (twice : Bool) :
    (State.gleanFail s n kern twice).pending = s.pending := by simp [State.gleanFail, pending_ite]

@[simp] theorem State.setVec_pending (s : State) (n t0 r : Nat) (w : Word) :
    (State.setVec s n t0 r w).pending = s.pending := by simp [State.setVec]

@[simp] theorem State.freeBytes_pending (s : State) (n t0 len : Nat) :
    (State.freeBytes s n t0 len).pending = s.pending := by simp [State.freeBytes, pending_foldl]

@[simp] theorem State.freeScales_pending (s : State) (n : Nat) (f : VqF) :
    (State.freeScales s n f).pending = s.pending := by simp [State.freeScales, pending_ite, pending_foldl]

@[simp] theorem State.freeOuts_pending (s : State) (n : Nat) (k : Cmd) :
    (State.freeOuts s n k).pending = s.pending := by
  unfold State.freeOuts; (repeat' split) <;> simp

@[simp] theorem State.vecRan_pending (s : State) (n : Nat) (k : Cmd) (fl : Flags) (ue : Bool) :
    (State.vecRan s n k fl ue).pending = s.pending := by simp [State.vecRan, pending_ite]

theorem State.vecStop_pending {s t : State} {n op : Nat} {bad : VqF → Bool} (h : s.vecStop n op bad = some t) : t.pending = s.pending := by
  unfold State.vecStop at h
  (repeat' split at h) <;> first | (injection h with h; subst h; simp) | simp at h

@[simp] theorem State.redPred_pending (s : State) (n : Nat) (f : VqF) (b : Bool) :
    (State.redPred s n f b).pending = s.pending := by simp [State.redPred, pending_ite]

@[simp] theorem State.redF_pending (s : State) (n : Nat) (k : Cmd) (w : Word) :
    (State.redF s n k w).pending = s.pending := by simp [State.redF]

@[simp] theorem State.redPair_pending (s : State) (n : Nat) (k : Cmd) (lo hi : Word) :
    (State.redPair s n k lo hi).pending = s.pending := by simp [State.redPair]

@[simp] theorem State.redExt_pending (s : State) (n : Nat) (big : Bool) (k : Cmd) :
    (State.redExt s n big k).1.pending = s.pending := by simp [State.redExt]

@[simp] theorem State.firstStart_pending (s : State) (p : Nat) :
    (State.firstStart s p).pending = s.pending := by simp [State.firstStart, pending_ite]

@[simp] theorem State.seqCtlStart_pending (s : State) (c : Nat) :
    (State.seqCtlStart s c).pending = s.pending := by simp [State.seqCtlStart, pending_ite]

@[simp] theorem State.resume_pending (s : State) :
    (State.resume s).pending = s.pending := by simp [State.resume, pending_ite, pending_foldl]

@[simp] theorem State.ringCheck_pending (s : State) (b p : Nat) :
    (State.ringCheck s b p).pending = s.pending := by simp [State.ringCheck, pending_ite]

@[simp] theorem State.shfCtl_pending (s : State) (c i : Nat) (w : Word) :
    (State.shfCtl s c i w).pending = s.pending := by
  unfold State.shfCtl; split <;> simp [pending_ite]

@[simp] theorem State.pstCtl_pending (s : State) (c : Nat) (w : Word) :
    (State.pstCtl s c w).pending = s.pending := by simp [State.pstCtl, pending_ite]

@[simp] theorem State.txHead_pending (s : State) (c : Nat) :
    (State.txHead s c).pending = s.pending := by simp [State.txHead]

@[simp] theorem State.cluFx_pending (s : State) (c r : Nat) (w : Word) :
    (State.cluFx s c r w).pending = s.pending := by simp [State.cluFx, pending_ite]

@[simp] theorem State.partFx_pending (s : State) (p r : Nat) (w : Word) :
    (State.partFx s p r w).pending = s.pending := by simp [State.partFx, pending_ite]

@[simp] theorem State.devFx_pending (s : State) (o : Nat) (w : Word) :
    (State.devFx s o w).pending = s.pending := by simp [State.devFx, pending_ite]

@[simp] theorem State.csrWrite_pending (s : State) (off : Nat) (w : Word) :
    (State.csrWrite s off w).pending = s.pending := by
  unfold State.csrWrite; split <;> simp [pending_ite]

@[simp] theorem State.stallOn_pending (s : State) (h : Nat) (i : Instr) :
    (State.stallOn s h i).pending = s.pending := by simp [State.stallOn]

@[simp] theorem State.retired_pending (s : State) (h pc : Nat) :
    (State.retired s h pc).pending = s.pending := by simp [State.retired]

@[simp] theorem State.takeRec_pending (s : State) (h d : Nat) (r : Rec) :
    (State.takeRec s h d r).pending = s.pending := by simp [State.takeRec, pending_ite]

@[simp] theorem State.toPll_pending (s : State) (c : Nat) :
    (State.toPll s c).pending = s.pending := by simp [State.toPll, pending_ite]

@[simp] theorem State.endAtIssue_pending (s : State) (h : Nat) (k : Cmd) (sts : List Status) :
    (State.endAtIssue s h k sts).pending = s.pending := by simp [State.endAtIssue, pending_ite]

@[simp] theorem State.appendWall_pending (s : State) (h : Nat) (k : Cmd) :
    (State.appendWall s h k).pending = s.pending := by simp [State.appendWall, pending_ite]

@[simp] theorem State.issueWall_pending (s : State) (h : Nat) (k : Cmd) :
    (State.issueWall s h k).pending = s.pending := by
  unfold State.issueWall; (repeat' split) <;> simp

@[simp] theorem State.gclrIssue_pending (s : State) (h : Nat) (k : Cmd) :
    (State.gclrIssue s h k).pending = s.pending := by simp [State.gclrIssue, pending_ite]

@[simp] theorem State.issue_pending (s : State) (h : Nat) (k : Cmd) :
    (State.issue s h k).pending = s.pending := by simp [State.issue, pending_ite]

@[simp] theorem State.streamsIdle_pending (s : State) (h : Nat) :
    (State.streamsIdle s h).pending = s.pending := by simp [State.streamsIdle, pending_ite, pending_foldl]

@[simp] theorem State.addPoison_pending (s : State) (bad : List Nat) :
    (State.addPoison s bad).pending = s.pending := by simp [State.addPoison, pending_ite, pending_foldl]

@[simp] theorem State.wakeAccess_pending (s : State) (a : Nat) :
    (State.wakeAccess s a).pending = s.pending := by
  unfold State.wakeAccess; split <;> simp

@[simp] theorem State.devPut_pending (s : State) (owner : HeldBy) (a : Nat) (d : List Byte) :
    (State.devPut s owner a d).1.pending = s.pending := by
  unfold State.devPut; split <;> simp

@[simp] theorem State.epPut_pending (s : State) (h id : Nat) (e : Endpoint) (pl : Bool) (off : Int) (d : List Byte) :
    (State.epPut s h id e pl off d).1.pending = s.pending := by
  unfold State.epPut; split <;> simp

@[simp] theorem State.mvBytes_pending (s : State) (h m n : Nat) :
    (State.mvBytes s h m n).pending = s.pending := by simp [State.mvBytes, pending_ite]

@[simp] theorem State.entryWall_pending (s : State) (h : Nat) (k : Cmd) (x : AqEntry) :
    (State.entryWall s h k x).pending = s.pending := by simp [State.entryWall, pending_ite]

@[simp] theorem State.refuseEntry_pending (s : State) (h m : Nat) (k : Cmd) (x : AqEntry) (sts : List Status) :
    (State.refuseEntry s h m k x sts).pending = s.pending := by simp [State.refuseEntry, pending_ite]

@[simp] theorem State.commit_pending (s : State) (h m : Nat) :
    (State.commit s h m).pending = s.pending := by
  unfold State.commit; dsimp only; (repeat' (first | rfl | (apply pending_foldl; intros) | (rw [pending_ite]) | split | simp [pending_ite, pending_foldl]))

@[simp] theorem State.nqSent_pending (s : State) (n : Nat) (k : Cmd) (sts : List Status) :
    (State.nqSent s n k sts).pending = s.pending := by simp [State.nqSent]

@[simp] theorem State.sheafSend_pending (s : State) (n : Nat) (ue : Bool) :
    (State.sheafSend s n ue).pending = s.pending := by
  unfold State.sheafSend; dsimp only; (repeat' (first | rfl | (apply pending_foldl; intros) | (rw [pending_ite]) | split | simp))

@[simp] theorem State.writeAt_pending (s : State) (p : Pkt) (resp : Nat) :
    (State.writeAt s p resp).pending = s.pending := by simp [State.writeAt, pending_ite]

@[simp] theorem State.mcastLand_pending (s : State) (p : Pkt) (m : List Word) (bad : List Nat) :
    (State.mcastLand s p m bad).pending = s.pending := by simp [State.mcastLand, pending_ite]

@[simp] theorem State.replay_pending (s : State) (f side : Nat) :
    (State.replay s f side).pending = s.pending := by simp [State.replay]

@[simp] theorem State.resetHart_pending (s : State) (h : Nat) :
    (State.resetHart s h).pending = s.pending := by simp [State.resetHart]

@[simp] theorem State.resetBegin_pending (s : State) (p : Nat) :
    (State.resetBegin s p).pending = s.pending := by simp [State.resetBegin]

@[simp] theorem State.resetEnd_pending (s : State) (p : Nat) :
    (State.resetEnd s p).pending = s.pending := by simp [State.resetEnd, pending_ite, pending_foldl]

@[simp] theorem State.switchTables_pending (s : State) (t : Option Nat) :
    (State.switchTables s t).pending = s.pending := by simp [State.switchTables]

@[simp] theorem State.seqRan_pending (s : State) (c : Nat) (k : Cmd) (sts : List Status) (result : Nat) :
    (State.seqRan s c k sts result).pending = s.pending := by simp [State.seqRan]

@[simp] theorem State.absorbFlit_pending (s : State) (c : Nat) (fl : Flit) :
    (State.absorbFlit s c fl).pending = s.pending := by
  unfold State.absorbFlit; split <;> simp [pending_ite]

@[simp] theorem State.keepBeat_pending (s : State) (u : Nat) (valid : Bool) (e : Int) :
    (State.keepBeat s u valid e).pending = s.pending := by simp [State.keepBeat]

@[simp] theorem State.beatClu_pending (s : State) (c n : Nat) (e : Int) :
    (State.beatClu s c n e).pending = s.pending := by simp [State.beatClu, pending_ite]

@[simp] theorem State.beatDie_pending (s : State) (p n : Nat) (e : Int) :
    (State.beatDie s p n e).pending = s.pending := by simp [State.beatDie]

@[simp] theorem State.showOfs_pending (s : State) (e : Int) :
    (State.showOfs s e).pending = s.pending := by simp [State.showOfs]

@[simp] theorem State.ptpApply_pending (s : State) (t1 : Int) (t2 : Nat) :
    (State.ptpApply s t1 t2).pending = s.pending := by simp [State.ptpApply, pending_ite]

@[simp] theorem State.stepTime_pending (s : State) (d : Int) :
    (State.stepTime s d).pending = s.pending := by simp [State.stepTime, pending_foldl]

@[simp] theorem State.followParent_pending (s : State) (d : Int) :
    (State.followParent s d).pending = s.pending := by simp [State.followParent, pending_ite]

@[simp] theorem State.elect_pending (s : State) :
    (State.elect s).pending = s.pending := by
  unfold State.elect; dsimp only; (repeat' (first | rfl | (apply pending_foldl; intros) | (rw [pending_ite]) | split | simp))

@[simp] theorem State.recentre_pending (s : State) (f x : Nat) :
    (State.recentre s f x).pending = s.pending := by simp [State.recentre]

@[simp] theorem State.ringPut_pending (s : State) (b : Nat) (e : EvRec) :
    (State.ringPut s b e).pending = s.pending := by simp [State.ringPut, pending_ite]

@[simp] theorem State.caddyEvent_pending (s : State) (e : EvRec) :
    (State.caddyEvent s e).pending = s.pending := by simp [State.caddyEvent, pending_foldl]

@[simp] theorem State.merge_pending (s : State) (k : Nat) (e : EvRec) :
    (State.merge s k e).pending = s.pending := by simp [State.merge, pending_ite]

@[simp] theorem State.vaonPut_pending (s : State) (e : EvRec) :
    (State.vaonPut s e).pending = s.pending := by simp [State.vaonPut]

@[simp] theorem State.deliver_pending (s : State) (e : EvRec) :
    (State.deliver s e).pending = s.pending := by simp [State.deliver, pending_ite]

@[simp] theorem State.vaonOut_pending (s : State) :
    (State.vaonOut s).pending = s.pending := by
  unfold State.vaonOut; split <;> simp [pending_ite]

@[simp] theorem State.forward_pending (s : State) (k : Nat) (room : Bool) :
    (State.forward s k room).pending = s.pending := by
  unfold State.forward; split <;> simp [pending_ite]

@[simp] theorem State.mapCores_pending (s : State) (c : Nat) (bad : Nat → Bool) (cols : Nat → List Nat) (seqOk : Bool) :
    (State.mapCores s c bad cols seqOk).pending = s.pending := by
  unfold State.mapCores; dsimp only; (repeat' (first | rfl | (apply pending_foldl; intros) | (rw [pending_ite]) | split | simp [pending_ite, pending_foldl]))

@[simp] theorem State.mapSlices_pending (s : State) (c : Nat) (bad : Nat → Bool) :
    (State.mapSlices s c bad).pending = s.pending := by simp [State.mapSlices, pending_foldl]

@[simp] theorem State.showOwners_pending (s : State) :
    (State.showOwners s).pending = s.pending := by simp [State.showOwners, pending_foldl]

@[simp] theorem State.bootAlarm_pending (s : State) (fail : Nat) :
    (State.bootAlarm s fail).pending = s.pending := by simp [State.bootAlarm]

@[simp] theorem State.noMaster_pending (s : State) :
    (State.noMaster s).pending = s.pending := by simp [State.noMaster]

@[simp] theorem State.coldBegin_pending (s : State) (rom : List Nat) (ref : Bool) :
    (State.coldBegin s rom ref).pending = s.pending := by simp [State.coldBegin, pending_foldl]

@[simp] theorem State.fuseRead_pending (s : State) :
    (State.fuseRead s).pending = s.pending := by simp [State.fuseRead, pending_ite]

@[simp] theorem State.bareEth_pending (s : State) :
    (State.bareEth s).pending = s.pending := by simp [State.bareEth]

@[simp] theorem State.fuseMaps_pending (s : State) :
    (State.fuseMaps s).pending = s.pending := by simp [State.fuseMaps, pending_foldl]

@[simp] theorem State.master_pending (s : State) (p : Nat) :
    (State.master s p).pending = s.pending := by simp [State.master, pending_foldl]

@[simp] theorem State.holdDie_pending (s : State) (p : Nat) :
    (State.holdDie s p).pending = s.pending := by simp [State.holdDie]

@[simp] theorem State.fromStep2_pending (s : State) :
    (State.fromStep2 s).pending = s.pending := by simp [State.fromStep2, pending_ite, pending_foldl]

@[simp] theorem State.plimit_pending (s : State) (w : Nat) :
    (State.plimit s w).pending = s.pending := by simp [State.plimit, pending_ite]

@[simp] theorem State.meshWeights_pending (s : State) (w : Word) :
    (State.meshWeights s w).pending = s.pending := by simp [State.meshWeights]

@[simp] theorem State.hostWrite_pending (s : State) (image : Bool) (off : Nat) (w : Word) :
    (State.hostWrite s image off w).pending = s.pending := by simp [State.hostWrite, pending_ite]

@[simp] theorem State.csrSets_pending (s : State) (m : Store Byte) (p : Nat → Bool) :
    (State.csrSets s m p).pending = s.pending := by simp [State.csrSets, pending_foldl]

@[simp] theorem State.setSystem_pending (s : State) (m : Store Byte) :
    (State.setSystem s m).pending = s.pending := by simp [State.setSystem, pending_foldl]

@[simp] theorem State.setEther_pending (s : State) (m : Store Byte) :
    (State.setEther s m).pending = s.pending := by
  unfold State.setEther; split <;> simp

@[simp] theorem State.settings_pending (s : State) (m : Store Byte) :
    (State.settings s m).pending = s.pending := by simp [State.settings]

@[simp] theorem State.applyPlan_pending (s : State) (m : Store Byte) (seqs : Bool) :
    (State.applyPlan s m seqs).pending = s.pending := by simp [State.applyPlan, pending_foldl]

@[simp] theorem State.handOver_pending (s : State) :
    (State.handOver s).pending = s.pending := by
  unfold State.handOver; split <;> simp

@[simp] theorem State.holdOld_pending (s : State) (m : Store Byte) :
    (State.holdOld s m).pending = s.pending := by simp [State.holdOld, pending_ite, pending_foldl]

@[simp] theorem State.showImage_pending (s : State) (m : Store Byte) (r : Nat × Nat) :
    (State.showImage s m r).pending = s.pending := by simp [State.showImage, pending_ite, pending_foldl]

@[simp] theorem State.enrolStep_pending (s : State) (m : Store Byte) (rb : List Bool) :
    (State.enrolStep s m rb).2.pending = s.pending := by unfold State.enrolStep; dsimp only; split <;> (try split) <;> simp

@[simp] theorem State.usePack_pending (s : State) (m : Store Byte) :
    (State.usePack s m).pending = s.pending := by simp [State.usePack]

@[simp] theorem State.linkQual_pending (s : State) (wires : List (Nat × Nat × Nat)) (ucie : List (Nat × Nat)) :
    (State.linkQual s wires ucie).pending = s.pending := by simp [State.linkQual, pending_ite, pending_foldl]

@[simp] theorem State.testClu_pending (s : State) (x : Found) (l : List Word) (c : Nat) :
    (State.testClu s x l c).pending = s.pending := by simp [State.testClu, pending_ite, pending_foldl]

@[simp] theorem State.testsEnd_pending (s : State) (x : Found) :
    (State.testsEnd s x).pending = s.pending := by simp [State.testsEnd, pending_foldl]

@[simp] theorem State.ethUpdate_pending (s : State) :
    (State.ethUpdate s).pending = s.pending := by simp [State.ethUpdate]

@[simp] theorem State.octWidths_pending (s : State) (l : List Nat) :
    (State.octWidths s l).pending = s.pending := by simp [State.octWidths, pending_ite, pending_foldl]

@[simp] theorem State.octRetrain_pending (s : State) :
    (State.octRetrain s).pending = s.pending := by simp [State.octRetrain, pending_ite, pending_foldl]

@[simp] theorem State.setStacks_pending (s : State) (l : List Word) (ok : List Nat) :
    (State.setStacks s l ok).pending = s.pending := by simp [State.setStacks, pending_foldl]

@[simp] theorem State.setPaths_pending (s : State) (d : List Nat) :
    (State.setPaths s d).pending = s.pending := by simp [State.setPaths, pending_foldl]

@[simp] theorem State.shortStart_pending (s : State) (x : Nat × Nat × Nat) :
    (State.shortStart s x).pending = s.pending := by simp [State.shortStart]

@[simp] theorem State.clustersUp_pending (s : State) :
    (State.clustersUp s).pending = s.pending := by simp [State.clustersUp, pending_ite, pending_foldl]

@[simp] theorem State.serve_pending (s : State) (warm : Bool) :
    (State.serve s warm).pending = s.pending := by simp [State.serve, pending_ite, pending_foldl]

@[simp] theorem State.fallBack_pending (s : State) :
    (State.fallBack s).pending = s.pending := by simp [State.fallBack]

@[simp] theorem State.undark_pending (s : State) :
    (State.undark s).pending = s.pending := by simp [State.undark, pending_foldl]

@[simp] theorem State.manEntry_pending (s : State) (e : List Word) :
    (State.manEntry s e).1.pending = s.pending := by unfold State.manEntry; dsimp only; split <;> (try split) <;> simp

@[simp] theorem State.echo_pending (s : State) :
    (State.echo s).pending = s.pending := by simp [State.echo, pending_ite]

@[simp] theorem State.request_pending (s : State) (i : Nat) (v6 : Bool) (sport : Nat) (src : List Word) (d : List Byte) :
    (State.request s i v6 sport src d).pending = s.pending := by
  unfold State.request; split <;> simp [pending_ite]

@[simp] theorem State.cnp_pending (s : State) (q : Nat) (ecn : Bool) :
    (State.cnp s q ecn).pending = s.pending := by simp [State.cnp, pending_ite]

@[simp] theorem State.countSessions_pending (s : State) :
    (State.countSessions s).pending = s.pending := by simp [State.countSessions]

@[simp] theorem State.xferClose_pending (s : State) :
    (State.xferClose s).pending = s.pending := by simp [State.xferClose]

@[simp] theorem State.closeSession_pending (s : State) (id : Nat) :
    (State.closeSession s id).pending = s.pending := by simp [State.closeSession, pending_ite]

@[simp] theorem State.openSession_pending (s : State) (m : OpenMsg) (n : Nat) :
    (State.openSession s m n).pending = s.pending := by simp [State.openSession]

@[simp] theorem State.openRefused_pending (s : State) :
    (State.openRefused s).pending = s.pending := by simp [State.openRefused]

@[simp] theorem State.sendRsp_pending (s : State) (id : Nat) (rsp : List Nat) :
    (State.sendRsp s id rsp).pending = s.pending := by simp [State.sendRsp]

@[simp] theorem State.opAbort_pending (s : State) (p : Nat) :
    (State.opAbort s p).2.2.pending = s.pending := by
  unfold State.opAbort; (repeat' split) <;> simp

@[simp] theorem State.opKeepwarm_pending (s : State) (enter : Bool) :
    (State.opKeepwarm s enter).2.2.pending = s.pending := by
  unfold State.opKeepwarm; split <;> simp

@[simp] theorem State.opPlimit_pending (s : State) (w : Nat) :
    (State.opPlimit s w).2.2.pending = s.pending := by simp [State.opPlimit]

@[simp] theorem State.opSubscribe_pending (s : State) (id cls : Nat) (tel : Bool) :
    (State.opSubscribe s id cls tel).2.2.pending = s.pending := by
  unfold State.opSubscribe; split <;> simp

@[simp] theorem State.opTimeofday_pending (s : State) (sec ns : Nat) :
    (State.opTimeofday s sec ns).2.2.pending = s.pending := by
  unfold State.opTimeofday; split <;> simp

@[simp] theorem State.opQp_pending (s : State) (sub qpn mtu : Nat) :
    (State.opQp s sub qpn mtu).2.2.pending = s.pending := by
  unfold State.opQp; dsimp only; (repeat' (first | rfl | (apply pending_foldl; intros) | (rw [pending_ite]) | split | simp [pending_ite, pending_foldl]))

@[simp] theorem State.opRegion_pending (s : State) (reg : Bool) (base len : Nat) (rd wr : Bool) :
    (State.opRegion s reg base len rd wr).2.2.pending = s.pending := by
  unfold State.opRegion; (repeat' split) <;> simp

@[simp] theorem State.packIn_pending (s : State) (d : List Byte) :
    (State.packIn s d).2.2.pending = s.pending := by
  unfold State.packIn; dsimp only; (repeat' (first | rfl | (apply pending_foldl; intros) | (rw [pending_ite]) | split | simp [pending_ite, pending_foldl]))

@[simp] theorem State.opGlean_pending (s : State) (off : Nat) (d : List Byte) :
    (State.opGlean s off d).2.2.pending = s.pending := by
  unfold State.opGlean; dsimp only; (repeat' (first | rfl | (apply pending_foldl; intros) | (rw [pending_ite]) | split | simp))

@[simp] theorem State.xferOpen_pending (s : State) (id st len : Nat) :
    (State.xferOpen s id st len).pending = s.pending := by simp [State.xferOpen]

@[simp] theorem State.opFlashBegin_pending (s : State) (id len : Nat) :
    (State.opFlashBegin s id len).2.2.pending = s.pending := by
  unfold State.opFlashBegin; (repeat' split) <;> simp

@[simp] theorem State.opData_pending (s : State) (id off : Nat) (d : List Byte) :
    (State.opData s id off d).2.2.pending = s.pending := by
  unfold State.opData; dsimp only; (repeat' (first | rfl | (apply pending_foldl; intros) | (rw [pending_ite]) | split | simp [pending_ite, pending_foldl]))

@[simp] theorem State.opFlashEnd_pending (s : State) (id : Nat) :
    (State.opFlashEnd s id).2.2.pending = s.pending := by
  unfold State.opFlashEnd; split <;> simp

@[simp] theorem State.opRestart_pending (s : State) (id : Nat) (stream : Bool) (len : Nat) :
    (State.opRestart s id stream len).2.2.pending = s.pending := by
  unfold State.opRestart; (repeat' split) <;> simp [pending_ite]

@[simp] theorem State.opCancel_pending (s : State) (id : Nat) :
    (State.opCancel s id).2.2.pending = s.pending := by
  unfold State.opCancel; split <;> simp

@[simp] theorem State.opQuote_pending (s : State) (nonce : List Nat) :
    (State.opQuote s nonce).2.2.pending = s.pending := by
  unfold State.opQuote; dsimp only; (repeat' (first | rfl | (apply pending_foldl; intros) | (rw [pending_ite]) | split | simp [pending_ite, pending_foldl]))

@[simp] theorem State.opImage_pending (s : State) (id : Nat) (a : List Nat) :
    (State.opImage s id a).2.2.pending = s.pending := by
  unfold State.opImage; dsimp only; (repeat' (first | rfl | (apply pending_foldl; intros) | (rw [pending_ite]) | split | simp))

@[simp] theorem State.fetchIllegal_pending (s : State) (h : Nat) :
    (State.fetchIllegal s h).pending = s.pending := by simp [State.fetchIllegal, pending_ite]

@[simp] theorem State.freeBytesList_pending (s : State) (k : Nat) : (State.freeBytesList s k).2.pending = s.pending := by
  simp [State.freeBytesList]

@[simp] theorem State.devGet_pending (s : State) (b k : Nat) : (State.devGet s b k).2.2.pending = s.pending := by
  unfold State.devGet; dsimp only; (repeat' split) <;> simp

@[simp] theorem State.epGet_pending (s : State) (n : Nat) (e : Endpoint) (pl : Bool) (off : Int) (len : Nat) :
    (State.epGet s n e pl off len).2.2.pending = s.pending := by
  unfold State.epGet; dsimp only; split <;> simp

@[simp] theorem State.sendNext_pending (s : State) (n : Nat) (k : Cmd) : (State.sendNext s n k).pending = s.pending := by
  unfold State.sendNext
  extract_lets p e base x csr r s1 l
  have h : s1.pending = s.pending := by
    show (if _ then _ else _ : List Byte × Bool × State).2.2.pending = _
    split <;> simp
  clear_value s1 l
  split <;> simp [h]

@[simp] theorem State.grantTxns_pending (s : State) (h fuel : Nat) : (State.grantTxns s h fuel).pending = s.pending := by
  induction fuel generalizing s with
  | zero => rfl
  | succ fuel ih =>
    unfold State.grantTxns
    split
    · rfl
    · dsimp only
      (repeat' split) <;> simp [ih]

end Sys2Proof.Machine
end

