-- ==== Sys2Proof/Laws/Memory.lean ====
section
/-!
SUPPORT. Memory: what a read gives after a write, over single bytes and runs, and that every write keeps the one form.
-/

namespace Sys2Proof.Machine

open Sys2Proof.Safety

/-! ### One byte -/

theorem State.rd_wr (s : State) (a x : Nat) (b : Byte) : (s.wr a b).rd x = if x = a then b else s.rd x :=
  Store.get_set 0 s.mem a b x

@[simp] theorem State.rd_wr_self (s : State) (a : Nat) (b : Byte) : (s.wr a b).rd a = b := by simp [State.rd_wr]

theorem State.rd_wr_ne (s : State) (a x : Nat) (b : Byte) (h : x ≠ a) : (s.wr a b).rd x = s.rd x := by simp [State.rd_wr, h]

/-- Memories that are equal read the same. -/
theorem memSame_of_mem (s t : State) (h : t.mem = s.mem) : memSame s t := fun a => by unfold State.rd; rw [h]

theorem memSame_refl (s : State) : memSame s s := fun _ => rfl

theorem memSame_trans (s t u : State) (h : memSame s t) (h' : memSame t u) : memSame s u := fun a => (h' a).trans (h a)

/-! ### Runs -/

@[simp] theorem State.rdN_length (s : State) (a k : Nat) : (s.rdN a k).length = k := by
  induction k generalizing a with
  | zero => rfl
  | succ k ih => simp [State.rdN, ih]

theorem State.rdN_get (s : State) (a k i : Nat) (h : i < k) : (s.rdN a k).getD i 0 = s.rd (a + i) := by
  induction k generalizing a i with
  | zero => omega
  | succ k ih =>
    cases i with
    | zero => rfl
    | succ i =>
      show (s.rdN (a + 1) k).getD i 0 = _
      rw [ih (a + 1) i (by omega)]; congr 1; omega

theorem State.rdN_mem (s t : State) (a k : Nat) (h : t.mem = s.mem) : t.rdN a k = s.rdN a k := by
  induction k generalizing a with
  | zero => rfl
  | succ k ih => simp only [State.rdN, ih, State.rd, h]

theorem State.rd_wrN (s : State) (a x : Nat) (l : List Byte) :
    (s.wrN a l).rd x = if a ≤ x ∧ x < a + l.length then l.getD (x - a) 0 else s.rd x := by
  induction l generalizing s a with
  | nil => simp [State.wrN] <;> omega
  | cons b r ih =>
    simp only [State.wrN, ih, List.length_cons, State.rd_wr]
    by_cases h1 : x = a
    · subst h1; simp <;> omega
    · by_cases h2 : a ≤ x ∧ x < a + (r.length + 1)
      · have : a + 1 ≤ x ∧ x < a + 1 + r.length := by omega
        obtain ⟨k, rfl⟩ : ∃ k, x = a + 1 + k := ⟨x - (a + 1), by omega⟩
        simp only [this, and_self, if_true, h2]
        rw [show a + 1 + k - a = k + 1 by omega, show a + 1 + k - (a + 1) = k by omega]; rfl
      · have : ¬ (a + 1 ≤ x ∧ x < a + 1 + r.length) := by omega
        rw [if_neg this, if_neg h1, if_neg h2]

/-- A run of writes stores its bytes and leaves every other one. -/
theorem memStores_wrN (s : State) (a : Nat) (l : List Byte) : memStores s (s.wrN a l) a l := fun x => State.rd_wrN s a x l

@[simp] theorem leBytes_length (k v : Nat) : (leBytes k v).length = k := by
  induction k generalizing v with
  | zero => rfl
  | succ k ih => simp [leBytes, ih]

/-- R8: little-endian bytes give back the value. -/
theorem leVal_leBytes (k v : Nat) : leVal (leBytes k v) = v % 256 ^ k := by
  induction k generalizing v with
  | zero => simp [leBytes, leVal, Nat.mod_one]
  | succ k ih =>
    simp only [leBytes, leVal, ih, BitVec.toNat_ofNat]
    rw [show 256 ^ (k + 1) = 256 * 256 ^ k from Nat.pow_add_one', Nat.mod_mul]

theorem leBytes_leVal (l : List Byte) : leBytes l.length (leVal l) = l := by
  induction l with
  | nil => rfl
  | cons b r ih =>
    have h1 : (b.toNat + 256 * leVal r) / 256 = leVal r := by have := b.isLt; omega
    simp only [List.length_cons, leVal, leBytes, h1, ih, List.cons.injEq, and_true]
    apply BitVec.eq_of_toNat_eq; have := b.isLt; simp; omega

/-! ### A store in words that hold no uncorrectable error (R228) -/

/-- The whole of what a store does where no word it meets holds an uncorrectable error. -/
theorem State.store_clean (s : State) (a : Nat) (d : List Byte) (h : s.poisoned a d.length = false) :
    (s.store a d).2 = false ∧ memStores s (s.store a d).1 a d := by
  have hb : (s.poison.filter fun w => touches a d.length w && !covers a d.length w) = [] := by
    simp only [State.poisoned, List.any_eq_false] at h
    rw [List.filter_eq_nil_iff]; intro w hw; simp [h w hw]
  refine ⟨by simp [State.store, hb], fun x => ?_⟩
  have key : ∀ (l : List Byte) (n : Nat) (t : State), (((l.zipIdx n).foldl (fun t (b, i) => t.wr (a + i) b) t)).rd x =
      if a + n ≤ x ∧ x < a + n + l.length then l.getD (x - (a + n)) 0 else t.rd x := by
    intro l
    induction l with
    | nil => intro n t; simp <;> omega
    | cons b r ih =>
      intro n t
      simp only [List.zipIdx_cons, List.foldl_cons, ih, List.length_cons, State.rd_wr]
      by_cases h1 : x = a + n
      · subst h1; simp <;> (try intro h) <;> omega
      · by_cases h2 : a + n ≤ x ∧ x < a + n + (r.length + 1)
        · have h3 : a + (n + 1) ≤ x ∧ x < a + (n + 1) + r.length := by omega
          obtain ⟨k, rfl⟩ : ∃ k, x = a + (n + 1) + k := ⟨x - (a + (n + 1)), by omega⟩
          simp only [h3, and_self, if_true, h2]
          rw [show a + (n + 1) + k - (a + n) = k + 1 by omega, show a + (n + 1) + k - (a + (n + 1)) = k by omega]; rfl
        · have h3 : ¬ (a + (n + 1) ≤ x ∧ x < a + (n + 1) + r.length) := by omega
          simp [h3, h2, h1]
  have := key d 0 s
  simp only [Nat.add_zero] at this
  simp only [State.store, hb, List.any_nil, Bool.false_eq_true, if_false]
  exact this

/-! ### The one form of the memory -/

theorem memWf_of_mem (s t : State) (h : t.mem = s.mem) : memWf t = memWf s := by unfold memWf; rw [h]

theorem memWf_reset : memWf State.reset = true := rfl

theorem memWf_wr (s : State) (a : Nat) (b : Byte) (h : memWf s = true) : memWf (s.wr a b) = true :=
  Store.canon_set 0 s.mem a b h

theorem memWf_foldl {α : Type} (g : State → α → State) (hg : ∀ t a, memWf t = true → memWf (g t a) = true) (l : List α) (s : State)
    (h : memWf s = true) : memWf (l.foldl g s) = true := by
  induction l generalizing s with
  | nil => exact h
  | cons a l ih => exact ih _ (hg _ _ h)

theorem memWf_wrN (s : State) (a : Nat) (l : List Byte) (h : memWf s = true) : memWf (s.wrN a l) = true := by
  induction l generalizing s a with
  | nil => exact h
  | cons b r ih => exact ih _ _ (memWf_wr s a b h)

theorem memWf_wr32 (s : State) (a : Nat) (v : Word) (h : memWf s = true) : memWf (s.wr32 a v) = true := memWf_wrN _ _ _ h

theorem memWf_store (s : State) (a : Nat) (d : List Byte) (h : memWf s = true) : memWf (s.store a d).1 = true := by
  unfold State.store; dsimp only
  show memWf (d.zipIdx.foldl _ s) = true
  apply memWf_foldl _ _ _ _ h
  rintro t ⟨b, i⟩ ht; dsimp only; split
  · exact ht
  · exact memWf_wr t _ _ ht

end Sys2Proof.Machine
end

