-- ==== Sys2Proof/Laws/MemoryForm.lean ====
section
/-!
SUPPORT. Operations that write memory keep its one form: one lemma per operation, for MemoryKeepsItsForm.
-/

namespace Sys2Proof.Machine

theorem mok_foldl {α : Type} (g : State → α → State) (l : List α) (s : State)
    (hg : ∀ t a, Store.canon 0#8 t.mem = true → Store.canon 0#8 (g t a).mem = true) (h : Store.canon 0#8 s.mem = true) :
    Store.canon 0#8 (l.foldl g s).mem = true := by
  induction l generalizing s with
  | nil => exact h
  | cons a l ih => exact ih _ (hg _ _ h)
theorem mok_foldl1 {α β : Type} (g : State × β → α → State × β) (l : List α) (x : State × β)
    (hg : ∀ t a, Store.canon 0#8 t.1.mem = true → Store.canon 0#8 (g t a).1.mem = true) (h : Store.canon 0#8 x.1.mem = true) :
    Store.canon 0#8 (l.foldl g x).1.mem = true := by
  induction l generalizing x with
  | nil => exact h
  | cons a l ih => exact ih _ (hg _ _ h)
@[simp] theorem State.wr_mok (s : State) (a : Nat) (b : Byte) (h : Store.canon 0#8 s.mem = true) : Store.canon 0#8 (s.wr a b).mem = true := memWf_wr s a b h
@[simp] theorem State.wrN_mok (s : State) (a : Nat) (l : List Byte) (h : Store.canon 0#8 s.mem = true) : Store.canon 0#8 (s.wrN a l).mem = true := memWf_wrN s a l h
@[simp] theorem State.wr32_mok (s : State) (a : Nat) (v : Word) (h : Store.canon 0#8 s.mem = true) : Store.canon 0#8 (s.wr32 a v).mem = true := memWf_wr32 s a v h
@[simp] theorem State.store_mok (s : State) (a : Nat) (d : List Byte) (h : Store.canon 0#8 s.mem = true) : Store.canon 0#8 (s.store a d).1.mem = true := memWf_store s a d h

@[simp] theorem State.setF_mok (s : State) (d : Fd) (v : Nat) (hm : Store.canon 0#8 s.mem = true) :
    Store.canon 0#8 (State.setF s d v).mem = true := by simp [State.setF, hm]

@[simp] theorem State.bump_mok (s : State) (d : Fd) (n : Nat) (hm : Store.canon 0#8 s.mem = true) :
    Store.canon 0#8 (State.bump s d n).mem = true := by simp [State.bump, hm]

@[simp] theorem State.setInt_mok (s : State) (d : Fd) (v : Int) (hm : Store.canon 0#8 s.mem = true) :
    Store.canon 0#8 (State.setInt s d v).mem = true := by simp [State.setInt, hm]

@[simp] theorem State.orF_mok (s : State) (d : Fd) (v : Nat) (hm : Store.canon 0#8 s.mem = true) :
    Store.canon 0#8 (State.orF s d v).mem = true := by simp [State.orF, hm]

@[simp] theorem State.setBit_mok (s : State) (d : Fd) (i : Nat) (b : Bool) (hm : Store.canon 0#8 s.mem = true) :
    Store.canon 0#8 (State.setBit s d i b).mem = true := by simp [State.setBit, hm]

@[simp] theorem State.setHart_mok (s : State) (h : Nat) (x : Hart) (hm : Store.canon 0#8 s.mem = true) :
    Store.canon 0#8 (State.setHart s h x).mem = true := by simp [State.setHart, hm]

@[simp] theorem State.modHart_mok (s : State) (h : Nat) (g : Hart → Hart) (hm : Store.canon 0#8 s.mem = true) :
    Store.canon 0#8 (State.modHart s h g).mem = true := by simp [State.modHart, hm]

@[simp] theorem State.setClu_mok (s : State) (c : Nat) (x : Clu) (hm : Store.canon 0#8 s.mem = true) :
    Store.canon 0#8 (State.setClu s c x).mem = true := by simp [State.setClu, hm]

@[simp] theorem State.modClu_mok (s : State) (c : Nat) (g : Clu → Clu) (hm : Store.canon 0#8 s.mem = true) :
    Store.canon 0#8 (State.modClu s c g).mem = true := by simp [State.modClu, hm]

@[simp] theorem State.setPart_mok (s : State) (p : Nat) (x : Part) (hm : Store.canon 0#8 s.mem = true) :
    Store.canon 0#8 (State.setPart s p x).mem = true := by simp [State.setPart, hm]

@[simp] theorem State.modPart_mok (s : State) (p : Nat) (g : Part → Part) (hm : Store.canon 0#8 s.mem = true) :
    Store.canon 0#8 (State.modPart s p g).mem = true := by simp [State.modPart, hm]

@[simp] theorem State.setFld_mok (s : State) (f : Nat) (x : Fld) (hm : Store.canon 0#8 s.mem = true) :
    Store.canon 0#8 (State.setFld s f x).mem = true := by simp [State.setFld, hm]

@[simp] theorem State.modFld_mok (s : State) (f : Nat) (g : Fld → Fld) (hm : Store.canon 0#8 s.mem = true) :
    Store.canon 0#8 (State.modFld s f g).mem = true := by simp [State.modFld, hm]

@[simp] theorem State.setS_mok (s : State) (h r : Nat) (v : Word) (hm : Store.canon 0#8 s.mem = true) :
    Store.canon 0#8 (State.setS s h r v).mem = true := by
  unfold State.setS; (repeat' split) <;> simp [hm]

@[simp] theorem State.setA_mok (s : State) (h r : Nat) (v : Off48) (hm : Store.canon 0#8 s.mem = true) :
    Store.canon 0#8 (State.setA s h r v).mem = true := by simp [State.setA, hm]

@[simp] theorem State.setP_mok (s : State) (h r : Nat) (b : Bool) (hm : Store.canon 0#8 s.mem = true) :
    Store.canon 0#8 (State.setP s h r b).mem = true := by
  unfold State.setP; (repeat' split) <;> simp [hm]

@[simp] theorem State.advanceTo_mok (s : State) (t : Nat) (hm : Store.canon 0#8 s.mem = true) :
    Store.canon 0#8 (State.advanceTo s t).mem = true := by simp [State.advanceTo, hm]

@[simp] theorem State.modTim_mok (s : State) (g : Tim → Tim) (hm : Store.canon 0#8 s.mem = true) :
    Store.canon 0#8 (State.modTim s g).mem = true := by simp [State.modTim, hm]

@[simp] theorem State.modKeep_mok (s : State) (p : Nat) (g : Keep → Keep) (hm : Store.canon 0#8 s.mem = true) :
    Store.canon 0#8 (State.modKeep s p g).mem = true := by simp [State.modKeep, hm]

@[simp] theorem State.setKeeper_mok (s : State) (u : Nat) (k : Keeper) (hm : Store.canon 0#8 s.mem = true) :
    Store.canon 0#8 (State.setKeeper s u k).mem = true := by
  unfold State.setKeeper; (repeat' split) <;> simp [hm]

@[simp] theorem State.setTile_mok (s : State) (n t o : Nat) (b : Byte) (hm : Store.canon 0#8 s.mem = true) :
    Store.canon 0#8 (State.setTile s n t o b).mem = true := by simp [State.setTile, hm]

@[simp] theorem State.setPlane_mok (s : State) (n t o : Nat) (b : Byte) (hm : Store.canon 0#8 s.mem = true) :
    Store.canon 0#8 (State.setPlane s n t o b).mem = true := by simp [State.setPlane, hm]

@[simp] theorem State.setGrain_mok (s : State) (n g i : Nat) (v : Int) (hm : Store.canon 0#8 s.mem = true) :
    Store.canon 0#8 (State.setGrain s n g i v).mem = true := by simp [State.setGrain, hm]

@[simp] theorem State.setVport_mok (s : State) (pl : Nat) (v : VPort) (hm : Store.canon 0#8 s.mem = true) :
    Store.canon 0#8 (State.setVport s pl v).mem = true := by simp [State.setVport, hm]

@[simp] theorem State.storeDev_mok (s : State) (a : Nat) (d : List Byte) (hm : Store.canon 0#8 s.mem = true) :
    Store.canon 0#8 (State.storeDev s a d).1.mem = true := by
  unfold State.storeDev; dsimp only; (repeat' (first | exact hm | assumption | (simp [*]; done) | (apply mok_foldl; rintro t a ht; try dsimp only) | (apply mok_foldl1; rintro ⟨t, u⟩ a ht; try dsimp only) | split | dsimp only))

@[simp] theorem State.writeDev_mok (s : State) (w : HeldBy) (a : Nat) (d : List Byte) (hm : Store.canon 0#8 s.mem = true) :
    Store.canon 0#8 (State.writeDev s w a d).1.mem = true := by
  unfold State.writeDev; (repeat' split) <;> simp [hm]

@[simp] theorem State.shWrite_mok (s : State) (c i : Nat) (x : Sheaf) (hm : Store.canon 0#8 s.mem = true) :
    Store.canon 0#8 (State.shWrite s c i x).1.mem = true := by
  unfold State.shWrite; dsimp only; (repeat' split) <;> simp_all

@[simp] theorem State.shComplete_mok (s : State) (c i : Nat) (forced : Option Status) (hm : Store.canon 0#8 s.mem = true) :
    Store.canon 0#8 (State.shComplete s c i forced).mem = true := by
  unfold State.shComplete; dsimp only; (repeat' split) <;> simp_all

@[simp] theorem State.shArrive_mok (s : State) (c : Nat) (p : Pkt) (hm : Store.canon 0#8 s.mem = true) :
    Store.canon 0#8 (State.shArrive s c p).mem = true := by
  unfold State.shArrive; dsimp only; (repeat' split) <;> simp_all

@[simp] theorem State.heldOut_mok (s : State) (l : List HeldWrite) (discard : Bool) (hm : Store.canon 0#8 s.mem = true) :
    Store.canon 0#8 (State.heldOut s l discard).mem = true := by
  unfold State.heldOut; dsimp only; (repeat' (first | exact hm | assumption | (simp [*]; done) | (apply mok_foldl; rintro t a ht; try dsimp only) | (apply mok_foldl1; rintro ⟨t, u⟩ a ht; try dsimp only) | split | dsimp only))

@[simp] theorem State.landHeld_mok (s : State) (h : Nat) (hm : Store.canon 0#8 s.mem = true) :
    Store.canon 0#8 (State.landHeld s h).mem = true := by
  unfold State.landHeld; dsimp only; (repeat' (first | exact hm | assumption | (apply mok_foldl; intro t a ht) | (apply mok_foldl1; rintro t a ht) | split | (simp [*]; done)))

@[simp] theorem State.discardHeld_mok (s : State) (h : Nat) (hm : Store.canon 0#8 s.mem = true) :
    Store.canon 0#8 (State.discardHeld s h).mem = true := by
  unfold State.discardHeld; dsimp only; (repeat' split) <;> simp_all

@[simp] theorem State.cutCopy_mok (s : State) (h : Nat) (k : Cmd) (e2 : Endpoint) (l : List (Int × Int)) (hm : Store.canon 0#8 s.mem = true) :
    Store.canon 0#8 (State.cutCopy s h k e2 l).1.mem = true := by
  unfold State.cutCopy; dsimp only; (repeat' (first | exact hm | assumption | (simp [*]; done) | (apply mok_foldl; rintro t a ht; try dsimp only) | (apply mok_foldl1; rintro ⟨t, u⟩ a ht; try dsimp only) | split | dsimp only))

@[simp] theorem State.cutMove_mok (s : State) (h : Nat) (k : Cmd) (hm : Store.canon 0#8 s.mem = true) :
    Store.canon 0#8 (State.cutMove s h k).mem = true := by
  unfold State.cutMove; (repeat' split) <;> simp [hm]

@[simp] theorem State.freeMem_mok (s : State) (a len : Nat) (hm : Store.canon 0#8 s.mem = true) :
    Store.canon 0#8 (State.freeMem s a len).mem = true := by
  unfold State.freeMem; (repeat' (first | exact hm | assumption | (apply mok_foldl; intro t a ht) | (apply mok_foldl1; rintro t a ht) | split | (simp [*]; done)))

@[simp] theorem State.leaveRun_mok (s : State) (h : Nat) (hm : Store.canon 0#8 s.mem = true) :
    Store.canon 0#8 (State.leaveRun s h).mem = true := by
  unfold State.leaveRun; (repeat' (first | exact hm | assumption | (apply mok_foldl; intro t a ht) | (apply mok_foldl1; rintro t a ht) | split | (simp [*]; done)))

@[simp] theorem State.exc_mok (s : State) (h cause a : Nat) (hm : Store.canon 0#8 s.mem = true) :
    Store.canon 0#8 (State.exc s h cause a).mem = true := by
  unfold State.exc; (repeat' split) <;> simp [hm]

@[simp] theorem State.excMem_mok (s : State) (h cause a m : Nat) (hm : Store.canon 0#8 s.mem = true) :
    Store.canon 0#8 (State.excMem s h cause a m).mem = true := by simp [State.excMem, hm]

@[simp] theorem State.haltHart_mok (s : State) (h code : Nat) (hm : Store.canon 0#8 s.mem = true) :
    Store.canon 0#8 (State.haltHart s h code).mem = true := by
  unfold State.haltHart; (repeat' split) <;> simp [hm]

@[simp] theorem State.setBales_mok (s : State) (l : List Bale) (hm : Store.canon 0#8 s.mem = true) :
    Store.canon 0#8 (State.setBales s l).mem = true := by simp [State.setBales, hm]

@[simp] theorem State.setBlocks_mok (s : State) (l : List Block) (hm : Store.canon 0#8 s.mem = true) :
    Store.canon 0#8 (State.setBlocks s l).mem = true := by simp [State.setBlocks, hm]

@[simp] theorem State.modLink_mok (s : State) (l : Nat) (g : OLink → OLink) (hm : Store.canon 0#8 s.mem = true) :
    Store.canon 0#8 (State.modLink s l g).mem = true := by simp [State.modLink, hm]

@[simp] theorem State.octQueue_mok (s : State) (l : Nat) (p : OPkt) (hm : Store.canon 0#8 s.mem = true) :
    Store.canon 0#8 (State.octQueue s l p).mem = true := by simp [State.octQueue, hm]

@[simp] theorem State.setRemote_mok (s : State) (c k : Nat) (r : Option Remote) (hm : Store.canon 0#8 s.mem = true) :
    Store.canon 0#8 (State.setRemote s c k r).mem = true := by simp [State.setRemote, hm]

@[simp] theorem State.oxResponse_mok (s : State) (q : OPkt) (hm : Store.canon 0#8 s.mem = true) :
    Store.canon 0#8 (State.oxResponse s q).mem = true := by
  unfold State.oxResponse; dsimp only; (repeat' split) <;> simp_all

@[simp] theorem State.octAnswer_mok (s : State) (p : OPkt) (st : Nat) (d : List Byte) (hm : Store.canon 0#8 s.mem = true) :
    Store.canon 0#8 (State.octAnswer s p st d).mem = true := by
  unfold State.octAnswer; (repeat' split) <;> simp [hm]

@[simp] theorem State.octWritten_mok (s : State) (p : OPkt) (st : Nat) (hm : Store.canon 0#8 s.mem = true) :
    Store.canon 0#8 (State.octWritten s p st).mem = true := by
  unfold State.octWritten; (repeat' split) <;> simp [hm]

@[simp] theorem State.octResume_mok (s : State) (p : OPkt) (hm : Store.canon 0#8 s.mem = true) :
    Store.canon 0#8 (State.octResume s p).mem = true := by
  unfold State.octResume; (repeat' split) <;> simp [hm]

@[simp] theorem State.octDeliver_mok (s : State) (l : Nat) (p : OPkt) (hm : Store.canon 0#8 s.mem = true) :
    Store.canon 0#8 (State.octDeliver s l p).mem = true := by
  unfold State.octDeliver; dsimp only; (repeat' split) <;> simp_all

@[simp] theorem State.octForward_mok (s : State) (l : Nat) (p : OPkt) (hm : Store.canon 0#8 s.mem = true) :
    Store.canon 0#8 (State.octForward s l p).mem = true := by
  unfold State.octForward; (repeat' split) <;> simp [hm]

@[simp] theorem State.octRouteIn_mok (s : State) (l : Nat) (p : OPkt) (hm : Store.canon 0#8 s.mem = true) :
    Store.canon 0#8 (State.octRouteIn s l p).mem = true := by
  unfold State.octRouteIn; (repeat' split) <;> simp [hm]

@[simp] theorem State.abortPtr_mok (s : State) (h m a : Nat) (hm : Store.canon 0#8 s.mem = true) :
    Store.canon 0#8 (State.abortPtr s h m a).mem = true := by
  unfold State.abortPtr; dsimp only; (repeat' split) <;> simp_all

@[simp] theorem State.setVpm_mok (s : State) (g : Vpm → Vpm) (hm : Store.canon 0#8 s.mem = true) :
    Store.canon 0#8 (State.setVpm s g).mem = true := by simp [State.setVpm, hm]

@[simp] theorem State.medium_mok (s : State) (hm : Store.canon 0#8 s.mem = true) :
    Store.canon 0#8 (State.medium s).mem = true := by
  rfl

@[simp] theorem State.railsOff_mok (s : State) (hm : Store.canon 0#8 s.mem = true) :
    Store.canon 0#8 (State.railsOff s).mem = true := by simp [State.railsOff, hm]

@[simp] theorem State.vaonOff_mok (s : State) (hm : Store.canon 0#8 s.mem = true) :
    Store.canon 0#8 (State.vaonOff s).mem = true := by simp [State.vaonOff, hm]

@[simp] theorem State.warmRails_mok (s : State) (hm : Store.canon 0#8 s.mem = true) :
    Store.canon 0#8 (State.warmRails s).mem = true := by
  unfold State.warmRails; dsimp only; simp only [State.setF_mem]
  rw [mem_foldl _ (fun t a => by simp)]; exact Store.canon_filter _ _ _ (by simpa using hm)

@[simp] theorem State.kwFinish_mok (s : State) (hm : Store.canon 0#8 s.mem = true) :
    Store.canon 0#8 (State.kwFinish s).mem = true := by
  unfold State.kwFinish; (repeat' split) <;> simp [hm]

@[simp] theorem State.startFail_mok (s : State) (fail cause : Nat) (hm : Store.canon 0#8 s.mem = true) :
    Store.canon 0#8 (State.startFail s fail cause).mem = true := by simp [State.startFail, hm]

@[simp] theorem State.restartBegin_mok (s : State) (hm : Store.canon 0#8 s.mem = true) :
    Store.canon 0#8 (State.restartBegin s).mem = true := by simp [State.restartBegin]

@[simp] theorem State.telRing_mok (s : State) (ws : List Nat) (hm : Store.canon 0#8 s.mem = true) :
    Store.canon 0#8 (State.telRing s ws).mem = true := by
  unfold State.telRing; dsimp only; (repeat' split) <;> simp_all

@[simp] theorem State.telDeliver_mok (s : State) (ws : List Nat) (hm : Store.canon 0#8 s.mem = true) :
    Store.canon 0#8 (State.telDeliver s ws).mem = true := by
  unfold State.telDeliver; dsimp only; (repeat' (first | exact hm | assumption | (simp [*, mem_foldl]; done) | (simp_all; done) | (apply mok_foldl; rintro t a ht; try dsimp only) | (apply mok_foldl1; rintro t a ht; try dsimp only) | split | dsimp only))

@[simp] theorem State.devGet_mok (s : State) (a k : Nat) (hm : Store.canon 0#8 s.mem = true) :
    Store.canon 0#8 (State.devGet s a k).2.2.mem = true := by
  unfold State.devGet; dsimp only; (repeat' (first | exact hm | assumption | (simp [*]; done) | (apply mok_foldl; rintro t a ht; try dsimp only) | (apply mok_foldl1; rintro ⟨t, u⟩ a ht; try dsimp only) | split | dsimp only))

@[simp] theorem State.epGet_mok (s : State) (h : Nat) (e : Endpoint) (pl : Bool) (off : Int) (k : Nat) (hm : Store.canon 0#8 s.mem = true) :
    Store.canon 0#8 (State.epGet s h e pl off k).2.2.mem = true := by
  unfold State.epGet; (repeat' split) <;> simp [hm]

@[simp] theorem State.sendNext_mok (s : State) (n : Nat) (k : Cmd) (hm : Store.canon 0#8 s.mem = true) :
    Store.canon 0#8 (State.sendNext s n k).mem = true := by
  unfold State.sendNext; dsimp only; (repeat' split) <;> simp_all

@[simp] theorem State.setStage_mok (s : State) (k : Nat) (g : Stage) (hm : Store.canon 0#8 s.mem = true) :
    Store.canon 0#8 (State.setStage s k g).mem = true := by simp [State.setStage, hm]

@[simp] theorem State.ringPut_mok (s : State) (b : Nat) (e : EvRec) (hm : Store.canon 0#8 s.mem = true) :
    Store.canon 0#8 (State.ringPut s b e).mem = true := by
  unfold State.ringPut; dsimp only; (repeat' split) <;> simp_all

@[simp] theorem State.deliver_mok (s : State) (e : EvRec) (hm : Store.canon 0#8 s.mem = true) :
    Store.canon 0#8 (State.deliver s e).mem = true := by
  unfold State.deliver; (repeat' split) <;> simp [hm]

@[simp] theorem State.vaonOut_mok (s : State) (hm : Store.canon 0#8 s.mem = true) :
    Store.canon 0#8 (State.vaonOut s).mem = true := by
  unfold State.vaonOut; (repeat' split) <;> simp [hm]

@[simp] theorem State.forward_mok (s : State) (k : Nat) (room : Bool) (hm : Store.canon 0#8 s.mem = true) :
    Store.canon 0#8 (State.forward s k room).mem = true := by
  unfold State.forward; (repeat' split) <;> simp [hm]

@[simp] theorem State.modBoot_mok (s : State) (g : Boot → Boot) (hm : Store.canon 0#8 s.mem = true) :
    Store.canon 0#8 (State.modBoot s g).mem = true := by simp [State.modBoot, hm]

@[simp] theorem State.loadPrograms_mok (s : State) (m : Store Byte) (hm : Store.canon 0#8 s.mem = true) :
    Store.canon 0#8 (State.loadPrograms s m).mem = true := by
  unfold State.loadPrograms; (repeat' (first | exact hm | assumption | (apply mok_foldl; intro t a ht) | (apply mok_foldl1; rintro t a ht) | split | (simp [*]; done)))

@[simp] theorem State.copyImage_mok (s : State) (m : Store Byte) (hm : Store.canon 0#8 s.mem = true) :
    Store.canon 0#8 (State.copyImage s m).mem = true := by simp [State.copyImage, hm]

@[simp] theorem State.shortStart_mok (s : State) (x : Nat × Nat × Nat) (hm : Store.canon 0#8 s.mem = true) :
    Store.canon 0#8 (State.shortStart s x).mem = true := by simp [State.shortStart, hm]

@[simp] theorem State.fallBack_mok (s : State) (hm : Store.canon 0#8 s.mem = true) :
    Store.canon 0#8 (State.fallBack s).mem = true := by simp [State.fallBack]

@[simp] theorem State.modEth_mok (s : State) (g : Eth → Eth) (hm : Store.canon 0#8 s.mem = true) :
    Store.canon 0#8 (State.modEth s g).mem = true := by simp [State.modEth, hm]

@[simp] theorem State.request_mok (s : State) (i : Nat) (v6 : Bool) (sport : Nat) (src : List Word) (d : List Byte) (hm : Store.canon 0#8 s.mem = true) :
    Store.canon 0#8 (State.request s i v6 sport src d).mem = true := by
  unfold State.request; dsimp only; (repeat' split) <;> simp_all

@[simp] theorem State.modSession_mok (s : State) (id : Nat) (g : Session → Session) (hm : Store.canon 0#8 s.mem = true) :
    Store.canon 0#8 (State.modSession s id g).mem = true := by simp [State.modSession, hm]

@[simp] theorem State.fetchIllegal_mok (s : State) (h : Nat) (hm : Store.canon 0#8 s.mem = true) :
    Store.canon 0#8 (State.fetchIllegal s h).mem = true := by
  unfold State.fetchIllegal; dsimp only; (repeat' split) <;> simp_all

@[simp] theorem State.abortWrites_mok (s : State) (h : Nat) (k : Cmd) (hm : Store.canon 0#8 s.mem = true) :
    Store.canon 0#8 (State.abortWrites s h k).mem = true := by
  unfold State.abortWrites; (repeat' split) <;> first | exact hm | (simp [hm]; done) | (refine mok_foldl _ _ _ ?_ ?_ <;> (try intro t a ht) <;> simp [*])

@[simp] theorem State.abortCmd_mok (s : State) (h : Nat) (k : Cmd) (hm : Store.canon 0#8 s.mem = true) :
    Store.canon 0#8 (State.abortCmd s h k).mem = true := by
  unfold State.abortCmd; (repeat' split) <;> first | exact hm | (simp [hm]; done) | (refine mok_foldl _ _ _ ?_ ?_ <;> (try intro t a ht) <;> simp [*])

theorem mok_ite {c : Prop} [Decidable c] {s t : State} (hs : Store.canon 0#8 s.mem = true) (ht : Store.canon 0#8 t.mem = true) :
    Store.canon 0#8 (if c then s else t).mem = true := by
  split <;> assumption

@[simp] theorem State.abortCore_mok (s : State) (n : Nat) (hm : Store.canon 0#8 s.mem = true) :
    Store.canon 0#8 (State.abortCore s n).mem = true := by
  unfold State.abortCore
  split
  · exact hm
  · refine mok_foldl _ _ _ (fun t m ht => mok_foldl _ _ _ (fun u a hu => by simp [hu]) ht) ?_
    simp only [State.abortArray_mem]
    apply State.modHart_mok
    refine mok_foldl _ _ _ (fun t k ht => by simp [ht]) ?_
    simp [hm]

@[simp] theorem State.abortSeq_mok (s : State) (c : Nat) (hm : Store.canon 0#8 s.mem = true) :
    Store.canon 0#8 (State.abortSeq s c).mem = true := by
  unfold State.abortSeq
  apply State.modClu_mok
  refine mok_foldl _ _ _ (fun t m ht => by simp [ht]) (mok_foldl _ _ _ (fun t m ht => by simp [ht]) ?_)
  apply State.modHart_mok
  exact mok_foldl _ _ _ (fun t m ht => by simp [ht]) hm

@[simp] theorem State.abortClu_mok (s : State) (c : Nat) (hm : Store.canon 0#8 s.mem = true) :
    Store.canon 0#8 (State.abortClu s c).mem = true :=
  State.abortSeq_mok _ _ (mok_foldl _ _ _ (fun t n ht => by simp [ht]) hm)

@[simp] theorem State.abort_mok (s : State) (p : Nat) (hm : Store.canon 0#8 s.mem = true) :
    Store.canon 0#8 (State.abort s p).mem = true := by
  unfold State.abort
  split
  · exact hm
  · simp only [State.barnDetach_mem, State.oxAbort_mem]
    refine mok_foldl _ _ _ (fun t c ht => by simp [ht]) ?_
    simp [hm]

@[simp] theorem State.abortOf_mok (s : State) (c : Nat) (hm : Store.canon 0#8 s.mem = true) :
    Store.canon 0#8 (State.abortOf s c).mem = true := by
  unfold State.abortOf; split <;> simp [hm]

@[simp] theorem State.deviceAbort_mok (s : State) (hm : Store.canon 0#8 s.mem = true) :
    Store.canon 0#8 (State.deviceAbort s).mem = true := by
  have h := mok_foldl (fun t p => State.abort t p) s.heldParts s (fun t p ht => by simp [ht]) hm
  simpa [State.deviceAbort] using h

@[simp] theorem State.auditFail_mok (s : State) (p item : Nat) (hm : Store.canon 0#8 s.mem = true) :
    Store.canon 0#8 (State.auditFail s p item).mem = true := by simp [State.auditFail, hm]

@[simp] theorem State.auditPart_mok (s : State) (p : Nat) (hm : Store.canon 0#8 s.mem = true) :
    Store.canon 0#8 (State.auditPart s p).mem = true := by
  unfold State.auditPart; dsimp only; split <;> simp [hm]

@[simp] theorem State.auditEnd_mok (s : State) (p : Nat) (hm : Store.canon 0#8 s.mem = true) :
    Store.canon 0#8 (State.auditEnd s p).mem = true := by
  unfold State.auditEnd; (repeat' split) <;> simp [hm]

@[simp] theorem State.devAuditEnd_mok (s : State) (hm : Store.canon 0#8 s.mem = true) :
    Store.canon 0#8 (State.devAuditEnd s).mem = true := by
  unfold State.devAuditEnd
  split
  · exact hm
  extract_lets s1 bad pw bn s2 s3 v s4 s5 items
  have h1 : Store.canon 0#8 s1.mem = true := mok_ite hm (by simp [hm])
  have h2 : Store.canon 0#8 s2.mem = true := mok_foldl _ _ _ (fun t p ht => mok_ite (by simp [ht]) (by simp [ht])) h1
  clear_value s2
  have h3 : Store.canon 0#8 s3.mem = true := mok_foldl _ _ _ (fun t p ht => by simp [ht]) h2
  clear_value s3
  have h4 : Store.canon 0#8 s4.mem = true := mok_ite h3 h3
  have h5 : Store.canon 0#8 s5.mem = true := mok_ite h4 (by simp [h4])
  clear_value s5 items
  cases items <;> simp [h5]

@[simp] theorem State.reconcile_mok (s : State) (p : Nat) (hm : Store.canon 0#8 s.mem = true) :
    Store.canon 0#8 (State.reconcile s p).mem = true := by
  unfold State.reconcile
  split
  · exact hm
  extract_lets s1 s2 us s3
  have h1 : Store.canon 0#8 s1.mem = true := mok_ite (by simp [hm]) hm
  have h2 : Store.canon 0#8 s2.mem = true := by simp [s2, h1]
  simp [s3, h2]

@[simp] theorem State.deviceAbortEnd_mok (s : State) (hm : Store.canon 0#8 s.mem = true) :
    Store.canon 0#8 (State.deviceAbortEnd s).mem = true := by
  unfold State.deviceAbortEnd
  apply State.devAuditEnd_mok
  have h := mok_foldl (fun t p => State.reconcile t p) s.heldParts s (fun t p ht => by simp [ht]) hm
  simpa using h

@[simp] theorem State.park_mok (s : State) (c cause : Nat) (hm : Store.canon 0#8 s.mem = true) :
    Store.canon 0#8 (State.park s c cause).mem = true := by
  unfold State.park; dsimp only; split <;> simp [hm]

@[simp] theorem State.kwEnter_mok (s : State) (c : Nat) (hm : Store.canon 0#8 s.mem = true) :
    Store.canon 0#8 (State.kwEnter s c).mem = true := by
  unfold State.kwEnter; split <;> simp [hm]

@[simp] theorem State.fieldTrip_mok (s : State) (c : Nat) (hm : Store.canon 0#8 s.mem = true) :
    Store.canon 0#8 (State.fieldTrip s c).mem = true := by
  unfold State.fieldTrip
  split
  · exact hm
  extract_lets second s1 s2
  have h : Store.canon 0#8 s2.mem = true := by simp [s2, s1, hm]
  (repeat' split) <;> simp [h]

@[simp] theorem State.cutCompute_mok (s : State) (hm : Store.canon 0#8 s.mem = true) :
    Store.canon 0#8 (State.cutCompute s).mem = true := by
  unfold State.cutCompute
  extract_lets l m
  repeat' split
  · exact mok_foldl _ _ _ (fun t p ht => mok_ite (by simp [ht]) ht) hm
  · exact mok_foldl _ _ _ (fun t p ht => mok_ite (by simp [ht]) ht) hm
  all_goals simp [hm]

@[simp] theorem State.heatClu_mok (s : State) (c temp : Nat) (hm : Store.canon 0#8 s.mem = true) :
    Store.canon 0#8 (State.heatClu s c temp).mem = true := by
  unfold State.heatClu
  extract_lets x was s1 s2 s3 s4
  have h : Store.canon 0#8 s4.mem = true := mok_ite (by simp [s3, s2, s1, hm]) (by simp [s3, s2, s1, hm])
  (repeat' split) <;> simp [h]

@[simp] theorem State.heatField_mok (s : State) (f temp : Nat) (hm : Store.canon 0#8 s.mem = true) :
    Store.canon 0#8 (State.heatField s f temp).mem = true := by
  unfold State.heatField; dsimp only; (repeat' split) <;> simp [hm]

@[simp] theorem State.capEval_mok (s : State) (link mem cmp : Nat) (clu : List Nat) (hm : Store.canon 0#8 s.mem = true) :
    Store.canon 0#8 (State.capEval s link mem cmp clu).mem = true := by
  unfold State.capEval
  split
  · split <;> simp [hm]
  extract_lets s1 s2 draw pin pset s3 
  have h3 : Store.canon 0#8 s3.mem = true := mok_foldl _ _ _ (fun t p ht => by simp [ht]) (by simp [s2, s1, hm])
  split
  extract_lets cut s4 acct s5 above stuck s6 s7 s8 s9
  have h5 : Store.canon 0#8 s5.mem = true := by simp [s5, s4, h3]
  have h6 : Store.canon 0#8 s6.mem = true := mok_ite (by simp [h5]) h5
  have h7 : Store.canon 0#8 s7.mem = true := mok_ite (by simp [h6]) h6
  have h8 : Store.canon 0#8 s8.mem = true := by simp [s8, h7]
  have h9 : Store.canon 0#8 s9.mem = true := mok_ite (mok_ite h8 (by simp [h8])) (mok_ite (by simp [h8]) h8)
  simp only [State.showCap_mem]
  exact mok_ite (by simp [h9]) h9

@[simp] theorem State.resetBegin_mok (s : State) (p : Nat) (hm : Store.canon 0#8 s.mem = true) :
    Store.canon 0#8 (State.resetBegin s p).mem = true := by simp [State.resetBegin, hm]

@[simp] theorem State.opAbort_mok (s : State) (p : Nat) (hm : Store.canon 0#8 s.mem = true) :
    Store.canon 0#8 (State.opAbort s p).2.2.mem = true := by
  unfold State.opAbort; (repeat' split) <;> simp [hm]

@[simp] theorem State.opKeepwarm_mok (s : State) (e : Bool) (hm : Store.canon 0#8 s.mem = true) :
    Store.canon 0#8 (State.opKeepwarm s e).2.2.mem = true := by
  unfold State.opKeepwarm; (repeat' split) <;> simp [hm]

@[simp] theorem State.opRestart_mok (s : State) (id : Nat) (stream : Bool) (len : Nat) (hm : Store.canon 0#8 s.mem = true) :
    Store.canon 0#8 (State.opRestart s id stream len).2.2.mem = true := by
  unfold State.opRestart
  split
  · exact hm
  split
  · exact hm
  extract_lets s1 s2
  have h1 : Store.canon 0#8 s1.mem = true := mok_ite (by simp [hm]) hm
  have h2 : Store.canon 0#8 s2.mem = true := by simp [s2, h1]
  exact mok_ite (by simp [h2]) (by simp [h2])

@[simp] theorem State.opImage_mok (s : State) (id : Nat) (a : List Nat) (hm : Store.canon 0#8 s.mem = true) :
    Store.canon 0#8 (State.opImage s id a).2.2.mem = true := by
  unfold State.opImage; dsimp only; split <;> simp [hm]

@[simp] theorem State.partFx_mok (s : State) (p r : Nat) (w : Word) (hm : Store.canon 0#8 s.mem = true) :
    Store.canon 0#8 (State.partFx s p r w).mem = true := by
  unfold State.partFx; dsimp only; (repeat' split) <;> simp [hm]

@[simp] theorem State.devFx_mok (s : State) (o : Nat) (w : Word) (hm : Store.canon 0#8 s.mem = true) :
    Store.canon 0#8 (State.devFx s o w).mem = true := by
  unfold State.devFx; dsimp only; (repeat' split) <;> simp [hm]

@[simp] theorem State.csrWrite_mok (s : State) (o : Nat) (w : Word) (hm : Store.canon 0#8 s.mem = true) :
    Store.canon 0#8 (State.csrWrite s o w).mem = true := by
  unfold State.csrWrite; dsimp only; (repeat' split) <;> simp [hm]

@[simp] theorem State.devPut_mok (s : State) (owner : HeldBy) (a : Nat) (d : List Byte) (hm : Store.canon 0#8 s.mem = true) :
    Store.canon 0#8 (State.devPut s owner a d).1.mem = true := by
  unfold State.devPut; split <;> simp [hm]

@[simp] theorem State.epPut_mok (s : State) (h id : Nat) (e : Endpoint) (pl : Bool) (off : Int) (d : List Byte)
    (hm : Store.canon 0#8 s.mem = true) : Store.canon 0#8 (State.epPut s h id e pl off d).1.mem = true := by
  unfold State.epPut; dsimp only; split <;> simp [hm]

@[simp] theorem State.writeAt_mok (s : State) (p : Pkt) (resp : Nat) (hm : Store.canon 0#8 s.mem = true) :
    Store.canon 0#8 (State.writeAt s p resp).mem = true := by
  unfold State.writeAt; dsimp only; (repeat' split) <;> simp [hm]

@[simp] theorem State.answered_mok (s : State) (p : Pkt) (hm : Store.canon 0#8 s.mem = true) :
    Store.canon 0#8 (State.answered s p).mem = true := by
  unfold State.answered
  split
  · simp [hm]
  split
  · simp [hm]
  extract_lets good r t
  have hr : Store.canon 0#8 r.1.mem = true := by
    show Store.canon 0#8 (if _ then _ else _ : State × List Status × Nat).1.mem = true
    split <;> simp [hm]
  simp [t, hr]

@[simp] theorem State.mcastLand_mok (s : State) (p : Pkt) (m : List Word) (bad : List Nat) (hm : Store.canon 0#8 s.mem = true) :
    Store.canon 0#8 (State.mcastLand s p m bad).mem = true := by
  unfold State.mcastLand; dsimp only; (repeat' split) <;> simp [hm]

@[simp] theorem State.mvHold_mok (s : State) (h id held : Nat) (hm : Store.canon 0#8 s.mem = true) :
    Store.canon 0#8 (State.mvHold s h id held).mem = true := by
  unfold State.mvHold; dsimp only; split <;> simp [hm]

@[simp] theorem State.mvRan_mok (s : State) (h id : Nat) (sts : List Status) (result held : Nat) (hm : Store.canon 0#8 s.mem = true) :
    Store.canon 0#8 (State.mvRan s h id sts result held).mem = true := by simp [State.mvRan, hm]

@[simp] theorem State.hostWrite_mok (s : State) (image : Bool) (off : Nat) (w : Word) (hm : Store.canon 0#8 s.mem = true) :
    Store.canon 0#8 (State.hostWrite s image off w).mem = true := by
  unfold State.hostWrite; (repeat' split) <;> simp [hm]

@[simp] theorem State.csrSets_mok (s : State) (m : Store Byte) (p : Nat → Bool) (hm : Store.canon 0#8 s.mem = true) :
    Store.canon 0#8 (State.csrSets s m p).mem = true :=
  mok_foldl _ _ _ (fun t x ht => by simp [ht]) hm

@[simp] theorem State.settings_mok (s : State) (m : Store Byte) (hm : Store.canon 0#8 s.mem = true) :
    Store.canon 0#8 (State.settings s m).mem = true := by simp [State.settings, hm]

@[simp] theorem State.applyPlan_mok (s : State) (m : Store Byte) (seqs : Bool) (hm : Store.canon 0#8 s.mem = true) :
    Store.canon 0#8 (State.applyPlan s m seqs).mem = true := by
  unfold State.applyPlan
  extract_lets l s1 s2 s3
  have h2 : Store.canon 0#8 s2.mem = true := mok_foldl _ _ _ (fun t x ht => by simp [ht]) hm
  have h3 : Store.canon 0#8 s3.mem = true := mok_foldl _ _ _ (fun t x ht => by simp [ht]) h2
  simp [h3]

@[simp] theorem State.barnLoad_mok (s : State) (o : BarnOp) (b : Bale) (bad : List (Nat × Bool)) (retries : Nat) (hm : Store.canon 0#8 s.mem = true) :
    Store.canon 0#8 (State.barnLoad s o b bad retries).mem = true := by
  unfold State.barnLoad
  extract_lets us hit s1 s2 lost rd s3 differs s4
  have h2 : Store.canon 0#8 s2.mem = true := by
    refine mok_foldl _ _ _ (fun t m ht => by simp [ht]) ?_
    simp [s1, hm]
  have h3 : Store.canon 0#8 s3.mem = true := mok_foldl _ _ _ (fun t m ht => by simp [ht]) h2
  have h4 : Store.canon 0#8 s4.mem = true := by
    show Store.canon 0#8 (if _ then _ else _ : State).mem = true
    split <;> simp [h3]
  simp [h4]

@[simp] theorem Moved.elem_mok (m : Moved) (h id : Nat) (e1 e2 : Endpoint) (pl1 pl2 : Bool) (shape z : Nat) (a b : Int)
    (hm : Store.canon 0#8 m.s.mem = true) :
    Store.canon 0#8 (Moved.elem m h id e1 e2 pl1 pl2 shape z a b).s.mem = true := by
  unfold Moved.elem; simp [hm]

theorem Moved.mok_foldl {α : Type} (g : Moved → α → Moved) (l : List α) (m : Moved)
    (hg : ∀ t a, Store.canon 0#8 t.s.mem = true → Store.canon 0#8 (g t a).s.mem = true) (h : Store.canon 0#8 m.s.mem = true) :
    Store.canon 0#8 (l.foldl g m).s.mem = true := by
  induction l generalizing m with
  | nil => exact h
  | cons a l ih => exact ih _ (hg _ _ h)

@[simp] theorem Moved.run_mok (m : Moved) (h id : Nat) (e1 e2 : Endpoint) (pl1 pl2 : Bool) (n : Nat) (a b : Int)
    (hm : Store.canon 0#8 m.s.mem = true) :
    Store.canon 0#8 (Moved.run m h id e1 e2 pl1 pl2 n a b).s.mem = true := by
  unfold Moved.run
  split
  · exact Moved.mok_foldl _ _ _ (fun t i ht => by simp [ht]) hm
  · simp [hm]

@[simp] theorem State.walkCopy_mok (s : State) (h : Nat) (k : Cmd) (l : List Level) (hm : Store.canon 0#8 s.mem = true) :
    Store.canon 0#8 (State.walkCopy s h k l).s.mem = true :=
  Moved.mok_foldl _ _ _ (fun t p ht => by simp [ht]) hm

@[simp] theorem State.moveEntry_mok (s : State) (h m : Nat) (k : Cmd) (x : AqEntry) (ue : Bool) (hm : Store.canon 0#8 s.mem = true) :
    Store.canon 0#8 (State.moveEntry s h m k x ue).mem = true := by
  unfold State.moveEntry
  extract_lets se r t
  have hr : Store.canon 0#8 r.s.mem = true := by
    show Store.canon 0#8 (if _ then _ else _ : Moved).s.mem = true
    (repeat' split) <;> simp [hm]
  simp [t, hr]

@[simp] theorem State.takeEntry_mok (s : State) (h m : Nat) (k : Cmd) (x : AqEntry) (ue : Bool) (hm : Store.canon 0#8 s.mem = true) :
    Store.canon 0#8 (State.takeEntry s h m k x ue).mem = true := by
  unfold State.takeEntry
  extract_lets s1 sts s2 s3 s4 s5
  have h1 : Store.canon 0#8 s1.mem = true := by simp [s1, hm]
  have h3 : Store.canon 0#8 s4.mem = true := by
    show Store.canon 0#8 (if _ then _ else _ : State).mem = true
    (repeat' split) <;> simp [s2, s3, h1] <;> (repeat' split) <;> simp [h1]
  have h5 : Store.canon 0#8 s5.mem = true := by simp [s5, h3]
  exact mok_ite (by simp [h5]) h5

@[simp] theorem State.append_mok (s : State) (h m : Nat) (bad : List Nat) (ue : Bool) (hm : Store.canon 0#8 s.mem = true) :
    Store.canon 0#8 (State.append s h m bad ue).mem = true := by
  unfold State.append
  split
  · exact hm
  split
  · exact hm
  · simp [hm]

@[simp] theorem State.walk_mok (s : State) (h m : Nat) (bad : List Nat) (ue : Bool) (hm : Store.canon 0#8 s.mem = true) :
    Store.canon 0#8 (State.walk s h m bad ue).mem = true := by
  unfold State.walk
  split
  · exact hm
  extract_lets s1 stops
  have h1 : Store.canon 0#8 s1.mem = true := by simp [s1, hm]
  split
  · simp [h1]
  rename_i s2 _ _ _
  extract_lets n r t
  have h2 : Store.canon 0#8 s2.mem = true := by
    show Store.canon 0#8 (if _ then _ else _ : State).mem = true
    split
    · simp only [State.wakeAccess_mem]; exact mok_ite (by simp [h1]) h1
    · exact h1
  have hr : Store.canon 0#8 r.s.mem = true := by simp [r, h2]
  have ht : Store.canon 0#8 t.mem = true := mok_ite (by simp [hr]) hr
  exact mok_ite (by simp [h2]) (by simp [ht])

@[simp] theorem State.readAll_mem (s : State) (l : List Nat) : (State.readAll s l).2.2.mem = s.mem := by
  induction l generalizing s with
  | nil => rfl
  | cons o r ih => unfold State.readAll; dsimp only; (repeat' split) <;> simp [ih]

@[simp] theorem State.writeOne_mok (s : State) (o : Nat) (w : Word) (hm : Store.canon 0#8 s.mem = true) :
    Store.canon 0#8 (State.writeOne s o w).2.mem = true := by
  unfold State.writeOne; dsimp only; (repeat' split) <;> simp [hm]

@[simp] theorem State.writeAll_mok (s : State) (n : Nat) (l : List (Nat × Word)) (hm : Store.canon 0#8 s.mem = true) :
    Store.canon 0#8 (State.writeAll s n l).2.2.mem = true := by
  induction l generalizing s n with
  | nil => exact hm
  | cons o r ih => 
    unfold State.writeAll; dsimp only
    split
    · split
      · simp [hm]
      · exact ih _ _ (by simp [hm])
    · exact hm

@[simp] theorem State.opRead_mem (s : State) (l : List Nat) : (State.opRead s l).2.2.mem = s.mem := by
  unfold State.opRead; split <;> simp

@[simp] theorem State.opWrite_mok (s : State) (l : List (Nat × Word)) (hm : Store.canon 0#8 s.mem = true) :
    Store.canon 0#8 (State.opWrite s l).2.2.mem = true := by
  unfold State.opWrite; split <;> simp [hm]

@[simp] theorem State.operate_mok (s : State) (id op : Nat) (a : List Nat) (hm : Store.canon 0#8 s.mem = true) :
    Store.canon 0#8 (State.operate s id op a).2.2.mem = true := by
  unfold State.operate; dsimp only; split <;> simp [hm]

@[simp] theorem State.fromStep2_mok (s : State) (hm : Store.canon 0#8 s.mem = true) :
    Store.canon 0#8 (State.fromStep2 s).mem = true := by
  unfold State.fromStep2
  extract_lets s1 s2
  have h2 : Store.canon 0#8 s2.mem = true := mok_foldl _ _ _ (fun t p ht => mok_ite ht (by simp [ht])) (by simp [s1, hm])
  exact mok_ite (by simp [h2]) (by simp [h2])

@[simp] theorem State.decide8_mok (s : State) (m : Store Byte) (rb : List Bool) (hm : Store.canon 0#8 s.mem = true) :
    Store.canon 0#8 (State.decide8 s m rb).mem = true := by
  unfold State.decide8; dsimp only; (repeat' split) <;> simp [hm]

@[simp] theorem State.coldEnd_mok (s : State) (up oct : List Nat) (eth : List Bool) (chans : List ChanFound) (paths : List Nat)
    (clean : Bool) (hm : Store.canon 0#8 s.mem = true) : Store.canon 0#8 (State.coldEnd s up oct eth chans paths clean).mem = true := by
  unfold State.coldEnd; extract_lets m s1 s2 s3 out s4 s5 s6
  have h6 : Store.canon 0#8 s6.mem = true := by simp [s6, s5, s4, s3, s2, s1, hm]
  clear_value s6
  (repeat' split) <;> simp [h6]

@[simp] theorem State.warmEnd_mok (s : State) (up paths : List Nat) (meshOk : Bool) (regs : List (Nat × Nat))
    (hm : Store.canon 0#8 s.mem = true) : Store.canon 0#8 (State.warmEnd s up paths meshOk regs).mem = true := by
  unfold State.warmEnd; extract_lets m lost
  split
  · simp [hm]
  rename_i s1 l marked s2 s3 _
  have h2 : Store.canon 0#8 s2.mem = true := mok_foldl _ _ _ (fun t p ht => by simp [ht]) (by simp [s1, hm])
  have h3 : Store.canon 0#8 s3.mem = true := by simp [s3, h2]
  split <;> simp [h3]

@[simp] theorem State.remapFinish_mok (s : State) (n : Nat) (hm : Store.canon 0#8 s.mem = true) :
    Store.canon 0#8 (State.remapFinish s n).mem = true := by
  unfold State.remapFinish
  split
  · exact hm
  have hf := Store.canon_filter 0#8 s.mem (fun e => e.1 < loftAddr n 0 || loftAddr (n + 1) 0 ≤ e.1) hm
  dsimp only
  (repeat' split) <;> simpa using hf

theorem State.runVec_mok (s : State) (n op : Nat) (ue : Bool) (body : Cmd → State × Flags)
    (hb : ∀ k, Store.canon 0#8 (body k).1.mem = true) (hm : Store.canon 0#8 s.mem = true) :
    Store.canon 0#8 (State.runVec s n op ue body).mem = true := by
  unfold State.runVec
  split
  · exact hm
  · dsimp only; split <;> simp [hm, hb]

theorem State.tcsRun_mok (s : State) (h : Nat) (i : Instr) (t : Tcs)
    (hg : ∀ s u, Store.canon 0#8 s.mem = true → t.body s = .go u → Store.canon 0#8 u.mem = true)
    (hj : ∀ s a u, Store.canon 0#8 s.mem = true → t.body s = .jump a u → Store.canon 0#8 u.mem = true)
    (hm : Store.canon 0#8 s.mem = true) : Store.canon 0#8 (State.tcsRun s h i t).mem = true := by
  unfold State.tcsRun
  split
  · exact hm
  extract_lets pc s1
  have h1 : Store.canon 0#8 s1.mem = true := mok_ite (by simp [hm]) hm
  split
  · simp [h1]
  split
  · simp [h1]
  split
  · simp [h1]
  split
  · simp [h1]
  cases hb : t.body s1 with
  | go u => simp [hg _ _ h1 hb]
  | jump a u => simp [hj _ _ _ h1 hb]
  | wait => simp [h1]
  | exc c => simp [h1]
  | excMem c m => simp [h1]

/-- What an instruction answers keeps the memory's form where it goes on. -/
def TRes.mok (r : TRes) : Prop :=
  match r with
  | .go u => Store.canon 0#8 u.mem = true
  | .jump _ u => Store.canon 0#8 u.mem = true
  | _ => True

@[simp] theorem TRes.mok_go (u : State) : (TRes.go u).mok = (Store.canon 0#8 u.mem = true) := rfl
@[simp] theorem TRes.mok_jump (a : Nat) (u : State) : (TRes.jump a u).mok = (Store.canon 0#8 u.mem = true) := rfl
@[simp] theorem TRes.mok_wait : TRes.wait.mok = True := rfl
@[simp] theorem TRes.mok_exc (c : Nat) : (TRes.exc c).mok = True := rfl
@[simp] theorem TRes.mok_excMem (c m : Nat) : (TRes.excMem c m).mok = True := rfl

@[simp] theorem State.branch_mok (s : State) (h : Nat) (c : Bool) (off : Int) (hm : Store.canon 0#8 s.mem = true) :
    (State.branch s h c off).mok := by
  unfold State.branch; (repeat' split) <;> simp [hm]

theorem State.load_mok (s : State) (h a k : Nat) (g : Nat → State → State)
    (hg : ∀ v t, Store.canon 0#8 t.mem = true → Store.canon 0#8 (g v t).mem = true) (hm : Store.canon 0#8 s.mem = true) :
    (State.load s h a k g).mok := by
  unfold State.load; (repeat' split) <;> simp [hm, hg]

@[simp] theorem State.storeDmem_mok (s : State) (h a k v : Nat) (hm : Store.canon 0#8 s.mem = true) :
    (State.storeDmem s h a k v).mok := by
  unfold State.storeDmem; (repeat' split) <;> simp [hm]

@[simp] theorem State.pushCmd_mok (s : State) (h q a : Nat) (ax ay : Off48) (x y full : Bool) (hm : Store.canon 0#8 s.mem = true) :
    (State.pushCmd s h q a ax ay x y full).mok := by
  unfold State.pushCmd; dsimp only; (repeat' split) <;> simp [hm]

@[simp] theorem State.popRec_mok (s : State) (h d : Nat) (p : Rec → Bool) (hm : Store.canon 0#8 s.mem = true) :
    (State.popRec s h d p).mok := by
  unfold State.popRec; dsimp only; (repeat' split) <;> simp [hm]

@[simp] theorem State.sendInbox_mok (s : State) (h c : Nat) (w : Word) (hm : Store.canon 0#8 s.mem = true) :
    (State.sendInbox s h c w).mok := by
  unfold State.sendInbox; dsimp only; (repeat' split) <;> simp [hm]

@[simp] theorem State.sigCredit_mok (s : State) (h core cn amt : Nat) (hm : Store.canon 0#8 s.mem = true) :
    (State.sigCredit s h core cn amt).mok := by
  unfold State.sigCredit; dsimp only; (repeat' split) <;> simp [hm]

@[simp] theorem State.strm_mok (s : State) (h m : Nat) (last : Bool) (off : Off48) (len : Word) (hm : Store.canon 0#8 s.mem = true) :
    (State.strm s h m last off len).mok := by
  unfold State.strm; (repeat' split) <;> simp [hm]

@[simp] theorem doAlu_mok (h : Nat) (d a b : BitVec 5) (fn : BitVec 11) (s : State) (hm : Store.canon 0#8 s.mem = true) : ((doAlu h d a b fn).body s).mok := by
  unfold doAlu; dsimp only; (repeat' split) <;> first | (simp [hm]; done) | (refine State.load_mok _ _ _ _ _ (fun v t ht => ?_) hm; simp [ht])

@[simp] theorem doFpu_mok (h : Nat) (d a b : BitVec 5) (fn : BitVec 11) (s : State) (hm : Store.canon 0#8 s.mem = true) : ((doFpu h d a b fn).body s).mok := by
  unfold doFpu; dsimp only; (repeat' split) <;> first | (simp [hm]; done) | (refine State.load_mok _ _ _ _ _ (fun v t ht => ?_) hm; simp [ht])

@[simp] theorem doAddi_mok (h : Nat) (d a : BitVec 5) (imm : BitVec 16) (s : State) (hm : Store.canon 0#8 s.mem = true) : ((doAddi h d a imm).body s).mok := by
  unfold doAddi; dsimp only; (repeat' split) <;> first | (simp [hm]; done) | (refine State.load_mok _ _ _ _ _ (fun v t ht => ?_) hm; simp [ht])

@[simp] theorem doAndi_mok (h : Nat) (d a : BitVec 5) (imm : BitVec 16) (s : State) (hm : Store.canon 0#8 s.mem = true) : ((doAndi h d a imm).body s).mok := by
  unfold doAndi; dsimp only; (repeat' split) <;> first | (simp [hm]; done) | (refine State.load_mok _ _ _ _ _ (fun v t ht => ?_) hm; simp [ht])

@[simp] theorem doOri_mok (h : Nat) (d a : BitVec 5) (imm : BitVec 16) (s : State) (hm : Store.canon 0#8 s.mem = true) : ((doOri h d a imm).body s).mok := by
  unfold doOri; dsimp only; (repeat' split) <;> first | (simp [hm]; done) | (refine State.load_mok _ _ _ _ _ (fun v t ht => ?_) hm; simp [ht])

@[simp] theorem doXori_mok (h : Nat) (d a : BitVec 5) (imm : BitVec 16) (s : State) (hm : Store.canon 0#8 s.mem = true) : ((doXori h d a imm).body s).mok := by
  unfold doXori; dsimp only; (repeat' split) <;> first | (simp [hm]; done) | (refine State.load_mok _ _ _ _ _ (fun v t ht => ?_) hm; simp [ht])

@[simp] theorem doSlti_mok (h : Nat) (d a : BitVec 5) (imm : BitVec 16) (s : State) (hm : Store.canon 0#8 s.mem = true) : ((doSlti h d a imm).body s).mok := by
  unfold doSlti; dsimp only; (repeat' split) <;> first | (simp [hm]; done) | (refine State.load_mok _ _ _ _ _ (fun v t ht => ?_) hm; simp [ht])

@[simp] theorem doSltiu_mok (h : Nat) (d a : BitVec 5) (imm : BitVec 16) (s : State) (hm : Store.canon 0#8 s.mem = true) : ((doSltiu h d a imm).body s).mok := by
  unfold doSltiu; dsimp only; (repeat' split) <;> first | (simp [hm]; done) | (refine State.load_mok _ _ _ _ _ (fun v t ht => ?_) hm; simp [ht])

@[simp] theorem doShi_mok (h : Nat) (d a : BitVec 5) (imm : BitVec 16) (s : State) (hm : Store.canon 0#8 s.mem = true) : ((doShi h d a imm).body s).mok := by
  unfold doShi; dsimp only; (repeat' split) <;> first | (simp [hm]; done) | (refine State.load_mok _ _ _ _ _ (fun v t ht => ?_) hm; simp [ht])

@[simp] theorem doLui_mok (h : Nat) (d : BitVec 5) (imm : BitVec 16) (s : State) (hm : Store.canon 0#8 s.mem = true) : ((doLui h d imm).body s).mok := by
  unfold doLui; dsimp only; (repeat' split) <;> first | (simp [hm]; done) | (refine State.load_mok _ _ _ _ _ (fun v t ht => ?_) hm; simp [ht])

@[simp] theorem doLw_mok (h : Nat) (d a : BitVec 5) (imm : BitVec 16) (s : State) (hm : Store.canon 0#8 s.mem = true) : ((doLw h d a imm).body s).mok := by
  unfold doLw; dsimp only; (repeat' split) <;> first | (simp [hm]; done) | (refine State.load_mok _ _ _ _ _ (fun v t ht => ?_) hm; simp [ht])

@[simp] theorem doLhu_mok (h : Nat) (d a : BitVec 5) (imm : BitVec 16) (s : State) (hm : Store.canon 0#8 s.mem = true) : ((doLhu h d a imm).body s).mok := by
  unfold doLhu; dsimp only; (repeat' split) <;> first | (simp [hm]; done) | (refine State.load_mok _ _ _ _ _ (fun v t ht => ?_) hm; simp [ht])

@[simp] theorem doLbu_mok (h : Nat) (d a : BitVec 5) (imm : BitVec 16) (s : State) (hm : Store.canon 0#8 s.mem = true) : ((doLbu h d a imm).body s).mok := by
  unfold doLbu; dsimp only; (repeat' split) <;> first | (simp [hm]; done) | (refine State.load_mok _ _ _ _ _ (fun v t ht => ?_) hm; simp [ht])

@[simp] theorem doSw_mok (h : Nat) (b a : BitVec 5) (imm : BitVec 16) (s : State) (hm : Store.canon 0#8 s.mem = true) : ((doSw h b a imm).body s).mok := by
  unfold doSw; dsimp only; (repeat' split) <;> first | (simp [hm]; done) | (refine State.load_mok _ _ _ _ _ (fun v t ht => ?_) hm; simp [ht])

@[simp] theorem doSh_mok (h : Nat) (b a : BitVec 5) (imm : BitVec 16) (s : State) (hm : Store.canon 0#8 s.mem = true) : ((doSh h b a imm).body s).mok := by
  unfold doSh; dsimp only; (repeat' split) <;> first | (simp [hm]; done) | (refine State.load_mok _ _ _ _ _ (fun v t ht => ?_) hm; simp [ht])

@[simp] theorem doSb_mok (h : Nat) (b a : BitVec 5) (imm : BitVec 16) (s : State) (hm : Store.canon 0#8 s.mem = true) : ((doSb h b a imm).body s).mok := by
  unfold doSb; dsimp only; (repeat' split) <;> first | (simp [hm]; done) | (refine State.load_mok _ _ _ _ _ (fun v t ht => ?_) hm; simp [ht])

@[simp] theorem doLa_mok (h : Nat) (ad : BitVec 4) (a : BitVec 5) (imm : BitVec 16) (s : State) (hm : Store.canon 0#8 s.mem = true) : ((doLa h ad a imm).body s).mok := by
  unfold doLa; dsimp only; (repeat' split) <;> first | (simp [hm]; done) | (refine State.load_mok _ _ _ _ _ (fun v t ht => ?_) hm; simp [ht])

@[simp] theorem doSa_mok (h : Nat) (ab : BitVec 4) (a : BitVec 5) (imm : BitVec 16) (s : State) (hm : Store.canon 0#8 s.mem = true) : ((doSa h ab a imm).body s).mok := by
  unfold doSa; dsimp only; (repeat' split) <;> first | (simp [hm]; done) | (refine State.load_mok _ _ _ _ _ (fun v t ht => ?_) hm; simp [ht])

@[simp] theorem doAop_mok (h : Nat) (dst src1 b sh fn : BitVec 5) (s : State) (hm : Store.canon 0#8 s.mem = true) : ((doAop h dst src1 b sh fn).body s).mok := by
  unfold doAop; dsimp only; (repeat' split) <;> first | (simp [hm]; done) | (refine State.load_mok _ _ _ _ _ (fun v t ht => ?_) hm; simp [ht])

@[simp] theorem doAaddi_mok (h : Nat) (ad aa : BitVec 4) (imm : BitVec 16) (s : State) (hm : Store.canon 0#8 s.mem = true) : ((doAaddi h ad aa imm).body s).mok := by
  unfold doAaddi; dsimp only; (repeat' split) <;> first | (simp [hm]; done) | (refine State.load_mok _ _ _ _ _ (fun v t ht => ?_) hm; simp [ht])

@[simp] theorem doCmp_mok (h : Nat) (pd : BitVec 3) (a b : BitVec 5) (cond : BitVec 4) (s : State) (hm : Store.canon 0#8 s.mem = true) : ((doCmp h pd a b cond).body s).mok := by
  unfold doCmp; dsimp only; (repeat' split) <;> first | (simp [hm]; done) | (refine State.load_mok _ _ _ _ _ (fun v t ht => ?_) hm; simp [ht])

@[simp] theorem doCmpi_mok (h : Nat) (cond : BitVec 4) (pd : BitVec 3) (a : BitVec 5) (imm : BitVec 14) (s : State) (hm : Store.canon 0#8 s.mem = true) : ((doCmpi h cond pd a imm).body s).mok := by
  unfold doCmpi; dsimp only; (repeat' split) <;> first | (simp [hm]; done) | (refine State.load_mok _ _ _ _ _ (fun v t ht => ?_) hm; simp [ht])

@[simp] theorem doPlog_mok (h : Nat) (d a b : BitVec 5) (fn : BitVec 11) (s : State) (hm : Store.canon 0#8 s.mem = true) : ((doPlog h d a b fn).body s).mok := by
  unfold doPlog; dsimp only; (repeat' split) <;> first | (simp [hm]; done) | (refine State.load_mok _ _ _ _ _ (fun v t ht => ?_) hm; simp [ht]) | exact mok_foldl _ _ _ (fun t a ht => by simp [ht]) hm

@[simp] theorem doBp_mok (h : Nat) (n : BitVec 1) (pp : BitVec 3) (off : BitVec 16) (s : State) (hm : Store.canon 0#8 s.mem = true) : ((doBp h n pp off).body s).mok := by
  unfold doBp; dsimp only; (repeat' split) <;> first | (simp [hm]; done) | (refine State.load_mok _ _ _ _ _ (fun v t ht => ?_) hm; simp [ht])

@[simp] theorem doBc_mok (h : Nat) (n : BitVec 1) (sel : BitVec 8) (off : BitVec 16) (s : State) (hm : Store.canon 0#8 s.mem = true) : ((doBc h n sel off).body s).mok := by
  unfold doBc; dsimp only; (repeat' split) <;> first | (simp [hm]; done) | (refine State.load_mok _ _ _ _ _ (fun v t ht => ?_) hm; simp [ht])

@[simp] theorem doBflag_mok (h : Nat) (n k : BitVec 1) (i : BitVec 6) (flag : BitVec 2) (off : BitVec 16) (s : State) (hm : Store.canon 0#8 s.mem = true) : ((doBflag h n k i flag off).body s).mok := by
  unfold doBflag; dsimp only; (repeat' split) <;> first | (simp [hm]; done) | (refine State.load_mok _ _ _ _ _ (fun v t ht => ?_) hm; simp [ht])

@[simp] theorem doBcmp_mok (h : Nat) (cond : BitVec 2) (a b : BitVec 5) (off : BitVec 14) (s : State) (hm : Store.canon 0#8 s.mem = true) : ((doBcmp h cond a b off).body s).mok := by
  unfold doBcmp; dsimp only; (repeat' split) <;> first | (simp [hm]; done) | (refine State.load_mok _ _ _ _ _ (fun v t ht => ?_) hm; simp [ht])

@[simp] theorem doJal_mok (h : Nat) (d : BitVec 5) (off : BitVec 21) (s : State) (hm : Store.canon 0#8 s.mem = true) : ((doJal h d off).body s).mok := by
  unfold doJal; dsimp only; (repeat' split) <;> first | (simp [hm]; done) | (refine State.load_mok _ _ _ _ _ (fun v t ht => ?_) hm; simp [ht])

@[simp] theorem doJalr_mok (h : Nat) (d a : BitVec 5) (imm : BitVec 16) (s : State) (hm : Store.canon 0#8 s.mem = true) : ((doJalr h d a imm).body s).mok := by
  unfold doJalr; dsimp only; (repeat' split) <;> first | (simp [hm]; done) | (refine State.load_mok _ _ _ _ _ (fun v t ht => ?_) hm; simp [ht])

@[simp] theorem doPush_mok (h : Nat) (q : BitVec 3) (a : BitVec 5) (ax ay : BitVec 4) (x y : BitVec 1) (u : BitVec 8) (s : State) (hm : Store.canon 0#8 s.mem = true) : ((doPush h q a ax ay x y u).body s).mok := by
  unfold doPush; dsimp only; (repeat' split) <;> first | (simp [hm]; done) | (refine State.load_mok _ _ _ _ _ (fun v t ht => ?_) hm; simp [ht])

@[simp] theorem doCpop_mok (h : Nat) (d : BitVec 5) (q : BitVec 3) (s : State) (hm : Store.canon 0#8 s.mem = true) : ((doCpop h d q).body s).mok := by
  unfold doCpop; dsimp only; (repeat' split) <;> first | (simp [hm]; done) | (refine State.load_mok _ _ _ _ _ (fun v t ht => ?_) hm; simp [ht])

@[simp] theorem doWaitq_mok (h : Nat) (q : BitVec 3) (n : BitVec 6) (s : State) (hm : Store.canon 0#8 s.mem = true) : ((doWaitq h q n).body s).mok := by
  unfold doWaitq; dsimp only; (repeat' split) <;> first | (simp [hm]; done) | (refine State.load_mok _ _ _ _ _ (fun v t ht => ?_) hm; simp [ht])

@[simp] theorem doStrm_mok (h : Nat) (m last : BitVec 1) (aa : BitVec 4) (b : BitVec 5) (s : State) (hm : Store.canon 0#8 s.mem = true) : ((doStrm h m last aa b).body s).mok := by
  unfold doStrm; dsimp only; (repeat' split) <;> first | (simp [hm]; done) | (refine State.load_mok _ _ _ _ _ (fun v t ht => ?_) hm; simp [ht])

@[simp] theorem doSig_mok (h : Nat) (t : BitVec 1) (cn : BitVec 4) (a b : BitVec 5) (s : State) (hm : Store.canon 0#8 s.mem = true) : ((doSig h t cn a b).body s).mok := by
  unfold doSig; dsimp only; (repeat' split) <;> first | (simp [hm]; done) | (refine State.load_mok _ _ _ _ _ (fun v t ht => ?_) hm; simp [ht])

@[simp] theorem doCwait_mok (h : Nat) (cn : BitVec 4) (imm : BitVec 16) (s : State) (hm : Store.canon 0#8 s.mem = true) : ((doCwait h cn imm).body s).mok := by
  unfold doCwait; dsimp only; (repeat' split) <;> first | (simp [hm]; done) | (refine State.load_mok _ _ _ _ _ (fun v t ht => ?_) hm; simp [ht])

@[simp] theorem doCsrr_mok (h : Nat) (d : BitVec 5) (off : BitVec 12) (s : State) (hm : Store.canon 0#8 s.mem = true) : ((doCsrr h d off).body s).mok := by
  unfold doCsrr; dsimp only; (repeat' split) <;> first | (simp [hm]; done) | (refine State.load_mok _ _ _ _ _ (fun v t ht => ?_) hm; simp [ht])

@[simp] theorem doCsrw_mok (h : Nat) (b : BitVec 5) (off : BitVec 12) (s : State) (hm : Store.canon 0#8 s.mem = true) : ((doCsrw h b off).body s).mok := by
  unfold doCsrw; dsimp only; (repeat' split) <;> first | (simp [hm]; done) | (refine State.load_mok _ _ _ _ _ (fun v t ht => ?_) hm; simp [ht])

@[simp] theorem doRdtime_mok (h : Nat) (d : BitVec 5) (s : State) (hm : Store.canon 0#8 s.mem = true) : ((doRdtime h d).body s).mok := by
  unfold doRdtime; dsimp only; (repeat' split) <;> first | (simp [hm]; done) | (refine State.load_mok _ _ _ _ _ (fun v t ht => ?_) hm; simp [ht])

@[simp] theorem doWaitt_mok (h : Nat) (a : BitVec 5) (s : State) (hm : Store.canon 0#8 s.mem = true) : ((doWaitt h a).body s).mok := by
  unfold doWaitt; dsimp only; (repeat' split) <;> first | (simp [hm]; done) | (refine State.load_mok _ _ _ _ _ (fun v t ht => ?_) hm; simp [ht])

@[simp] theorem doKnote_mok (h : Nat) (a b : BitVec 5) (s : State) (hm : Store.canon 0#8 s.mem = true) : ((doKnote h a b).body s).mok := by
  unfold doKnote; dsimp only; (repeat' split) <;> first | (simp [hm]; done) | (refine State.load_mok _ _ _ _ _ (fun v t ht => ?_) hm; simp [ht])

@[simp] theorem doNop_mok (s : State) (hm : Store.canon 0#8 s.mem = true) : (doNop.body s).mok := by
  unfold doNop; dsimp only; (repeat' split) <;> first | (simp [hm]; done) | (refine State.load_mok _ _ _ _ _ (fun v t ht => ?_) hm; simp [ht])

@[simp] theorem doHalt_mok (h : Nat) (arg : BitVec 8) (s : State) (hm : Store.canon 0#8 s.mem = true) : ((doHalt h arg).body s).mok := by
  unfold doHalt; dsimp only; (repeat' split) <;> first | (simp [hm]; done) | (refine State.load_mok _ _ _ _ _ (fun v t ht => ?_) hm; simp [ht])

@[simp] theorem doIfence_mok (h : Nat) (s : State) (hm : Store.canon 0#8 s.mem = true) : ((doIfence h).body s).mok := by
  unfold doIfence; dsimp only; (repeat' split) <;> first | (simp [hm]; done) | (refine State.load_mok _ _ _ _ _ (fun v t ht => ?_) hm; simp [ht])

@[simp] theorem doWdog_mok (h : Nat) (s : State) (hm : Store.canon 0#8 s.mem = true) : ((doWdog h).body s).mok := by
  unfold doWdog; dsimp only; (repeat' split) <;> first | (simp [hm]; done) | (refine State.load_mok _ _ _ _ _ (fun v t ht => ?_) hm; simp [ht])

@[simp] theorem doClksel_mok (h : Nat) (arg : BitVec 8) (s : State) (hm : Store.canon 0#8 s.mem = true) : ((doClksel h arg).body s).mok := by
  unfold doClksel; dsimp only; (repeat' split) <;> first | (simp [hm]; done) | (refine State.load_mok _ _ _ _ _ (fun v t ht => ?_) hm; simp [ht])

@[simp] theorem doSpush_mok (h : Nat) (tq : BitVec 4) (a : BitVec 5) (ax ay : BitVec 4) (x y : BitVec 1) (u : BitVec 7) (s : State) (hm : Store.canon 0#8 s.mem = true) : ((doSpush h tq a ax ay x y u).body s).mok := by
  unfold doSpush; dsimp only; (repeat' split) <;> first | (simp [hm]; done) | (refine State.load_mok _ _ _ _ _ (fun v t ht => ?_) hm; simp [ht])

@[simp] theorem doSpop_mok (h : Nat) (d : BitVec 5) (s : State) (hm : Store.canon 0#8 s.mem = true) : ((doSpop h d).body s).mok := by
  unfold doSpop; dsimp only; (repeat' split) <;> first | (simp [hm]; done) | (refine State.load_mok _ _ _ _ _ (fun v t ht => ?_) hm; simp [ht])

@[simp] theorem doSwaitq_mok (h : Nat) (n : BitVec 7) (s : State) (hm : Store.canon 0#8 s.mem = true) : ((doSwaitq h n).body s).mok := by
  unfold doSwaitq; dsimp only; (repeat' split) <;> first | (simp [hm]; done) | (refine State.load_mok _ _ _ _ _ (fun v t ht => ?_) hm; simp [ht])

@[simp] theorem doSstrm_mok (h : Nat) (m : BitVec 3) (last : BitVec 1) (aa : BitVec 4) (b : BitVec 5) (s : State) (hm : Store.canon 0#8 s.mem = true) : ((doSstrm h m last aa b).body s).mok := by
  unfold doSstrm; dsimp only; (repeat' split) <;> first | (simp [hm]; done) | (refine State.load_mok _ _ _ _ _ (fun v t ht => ?_) hm; simp [ht])

@[simp] theorem doSsig_mok (h : Nat) (a b : BitVec 5) (s : State) (hm : Store.canon 0#8 s.mem = true) : ((doSsig h a b).body s).mok := by
  unfold doSsig; dsimp only; (repeat' split) <;> first | (simp [hm]; done) | (refine State.load_mok _ _ _ _ _ (fun v t ht => ?_) hm; simp [ht])

@[simp] theorem doSrecv_mok (h : Nat) (d : BitVec 5) (pp : BitVec 3) (nb : BitVec 1) (s : State) (hm : Store.canon 0#8 s.mem = true) : ((doSrecv h d pp nb).body s).mok := by
  unfold doSrecv; dsimp only; (repeat' split) <;> first | (simp [hm]; done) | (refine State.load_mok _ _ _ _ _ (fun v t ht => ?_) hm; simp [ht])

@[simp] theorem doSres_mok (h : Nat) (d : BitVec 5) (pp : BitVec 3) (nb : BitVec 1) (s : State) (hm : Store.canon 0#8 s.mem = true) : ((doSres h d pp nb).body s).mok := by
  unfold doSres; dsimp only; (repeat' split) <;> first | (simp [hm]; done) | (refine State.load_mok _ _ _ _ _ (fun v t ht => ?_) hm; simp [ht])

@[simp] theorem doSbc_mok (h : Nat) (n : BitVec 1) (sel : BitVec 8) (off : BitVec 16) (s : State) (hm : Store.canon 0#8 s.mem = true) : ((doSbc h n sel off).body s).mok := by
  unfold doSbc; dsimp only; (repeat' split) <;> first | (simp [hm]; done) | (refine State.load_mok _ _ _ _ _ (fun v t ht => ?_) hm; simp [ht])

theorem tcsOf_mok (i : Instr) (t : Nat × Tcs) (hi : tcsOf i = some t) (s : State) (hm : Store.canon 0#8 s.mem = true) :
    (t.2.body s).mok := by
  unfold tcsOf at hi
  split at hi <;> cases hi <;> simp [hm]

@[simp] theorem State.retry_mok (s : State) (h : Nat) (hm : Store.canon 0#8 s.mem = true) :
    Store.canon 0#8 (State.retry s h).mem = true := by
  unfold State.retry
  split
  · exact hm
  split
  · rename_i t ht
    refine State.tcsRun_mok _ _ _ _ (fun s u hs hu => ?_) (fun s a u hs hu => ?_) hm
    · simpa [hu] using tcsOf_mok _ _ ht s hs
    · simpa [hu] using tcsOf_mok _ _ ht s hs
  · exact hm

@[simp] theorem State.tcs_mok (s : State) (h : Nat) (i : Instr) (t : Nat × Tcs) (hi : tcsOf i = some t)
    (hm : Store.canon 0#8 s.mem = true) : Store.canon 0#8 (State.tcs s h i t.2).mem = true := by
  unfold State.tcs
  extract_lets s1
  have h1 : Store.canon 0#8 s1.mem = true := by simp [s1, hm]
  split
  · exact h1
  · refine State.tcsRun_mok _ _ _ _ (fun s u hs hu => ?_) (fun s a u hs hu => ?_) h1
    · simpa [hu] using tcsOf_mok _ _ hi s hs
    · simpa [hu] using tcsOf_mok _ _ hi s hs

@[simp] theorem State.issueNext_mok (s : State) (h q : Nat) (hm : Store.canon 0#8 s.mem = true) :
    Store.canon 0#8 (State.issueNext s h q).mem = true := by
  unfold State.issueNext; split <;> simp [hm]

@[simp] theorem State.finish_mok (s : State) (h id : Nat) (hm : Store.canon 0#8 s.mem = true) :
    Store.canon 0#8 (State.finish s h id).mem = true := by simp [State.finish, hm]

@[simp] theorem State.streamEntry_mok (s : State) (h m : Nat) (bad : List Nat) (ue : Bool) (hm : Store.canon 0#8 s.mem = true) :
    Store.canon 0#8 (State.streamEntry s h m bad ue).mem = true := by
  unfold State.streamEntry; split <;> simp [hm]

@[simp] theorem State.creditTo_mok (s : State) (part n cn amt : Nat) (hm : Store.canon 0#8 s.mem = true) :
    Store.canon 0#8 (State.creditTo s part n cn amt).mem = true := by
  unfold State.creditTo; split <;> simp [hm]

@[simp] theorem State.inboxTake_mok (s : State) (part c : Nat) (w src : Word) (hm : Store.canon 0#8 s.mem = true) :
    Store.canon 0#8 (State.inboxTake s part c w src).mem = true := by
  unfold State.inboxTake; dsimp only; (repeat' split) <;> simp [hm]

theorem State.flitAt_mok (s : State) (i c : Nat) (fl : Flit) (g : State → State)
    (hg : ∀ t, Store.canon 0#8 t.mem = true → Store.canon 0#8 (g t).mem = true) (hm : Store.canon 0#8 s.mem = true) :
    Store.canon 0#8 (State.flitAt s i c fl g).mem = true := by
  unfold State.flitAt; dsimp only; split
  · simp [hm]
  · simp [hm]
  · exact hg _ (by simp [hm])

@[simp] theorem State.tick_mok (s : State) (hm : Store.canon 0#8 s.mem = true) :
    Store.canon 0#8 (State.tick s).mem = true := by
  simp only [State.tick]
  refine mok_foldl _ _ _ (fun t c ht => by simp [ht]) ?_
  refine mok_foldl _ _ _ (fun t e ht => by simp [ht]) ?_
  refine mok_foldl _ _ _ (fun t h ht => by simp [ht]) ?_
  rw [State.sendFrame_mem]
  refine mok_foldl _ _ _ (fun t l ht => by simp [ht]) ?_
  rw [State.portsGo_mem, State.meshWhile_mem, State.count_mem]
  exact hm

theorem State.cmd_mok (s : State) (id seq : Nat) (ok : Bool) (op : Nat) (run : State → OpRes)
    (hr : ∀ t, Store.canon 0#8 t.mem = true → Store.canon 0#8 (run t).2.2.mem = true) (hm : Store.canon 0#8 s.mem = true) :
    Store.canon 0#8 (State.cmd s id seq ok op run).mem = true := by
  unfold State.cmd; dsimp only; (repeat' split) <;> simp [hm, hr]
theorem VAcc.mok_foldl {α : Type} (g : VAcc → α → VAcc) (l : List α) (m : VAcc)
    (hg : ∀ t a, Store.canon 0#8 t.s.mem = true → Store.canon 0#8 (g t a).s.mem = true) (h : Store.canon 0#8 m.s.mem = true) :
    Store.canon 0#8 (l.foldl g m).s.mem = true := by
  induction l generalizing m with
  | nil => exact h
  | cons a l ih => exact ih _ (hg _ _ h)
theorem State.overLogical_mok (s : State) (f : VqF) (g : State → Nat → State × Flags)
    (hg : ∀ t r, Store.canon 0#8 t.mem = true → Store.canon 0#8 (g t r).1.mem = true) (hm : Store.canon 0#8 s.mem = true) :
    Store.canon 0#8 (State.overLogical s f g).1.mem = true := by
  unfold State.overLogical
  exact mok_foldl1 _ _ _ (fun t r ht => hg _ _ ht) hm

@[simp] theorem VAcc.emit_mok (a : VAcc) (n : Nat) (f : VqF) (i : Nat) (conv : Bool) (vs : List Val)
    (hm : Store.canon 0#8 a.s.mem = true) : Store.canon 0#8 (VAcc.emit a n f i conv vs).s.mem = true := by
  unfold VAcc.emit; extract_lets d
  split
  · exact VAcc.mok_foldl _ _ _ (fun t x ht => by simp [ht]) hm
  split
  · exact VAcc.mok_foldl _ _ _ (fun t x ht => Sys2Proof.Machine.mok_foldl _ _ _ (fun u y hu => by simp [hu]) (by simp [ht])) hm
  · exact VAcc.mok_foldl _ _ _ (fun t x ht => by simp [ht]) hm

@[simp] theorem VAcc.laneRow_mok (a : VAcc) (n op : Nat) (f : VqF) (sb : Word) (i : Nat)
    (hm : Store.canon 0#8 a.s.mem = true) : Store.canon 0#8 (VAcc.laneRow a n op f sb i).s.mem = true := by
  unfold VAcc.laneRow; simp [hm]

@[simp] theorem VAcc.done_mok (a : VAcc) (n : Nat) (f : VqF) (hm : Store.canon 0#8 a.s.mem = true) :
    Store.canon 0#8 (VAcc.done a n f).1.mem = true := by
  unfold VAcc.done VAcc.planes
  split
  · exact Sys2Proof.Machine.mok_foldl _ _ _ (fun t u ht => by simp [ht]) hm
  · exact hm

@[simp] theorem State.vecLanes_mok (s : State) (n : Nat) (k : Cmd) (hm : Store.canon 0#8 s.mem = true) :
    Store.canon 0#8 (State.vecLanes s n k).1.mem = true := by
  unfold State.vecLanes
  exact VAcc.done_mok _ _ _ (VAcc.mok_foldl _ _ _ (fun t i ht => by simp [ht]) hm)

end Sys2Proof.Machine
end

