-- ==== Sys2Proof/Laws/Tcs.lean ====
section
/-!
SUPPORT. The issue of an instruction: what a fetch leaves as it was, and the one lemma that says what an instruction whose control
core is ready does.
-/

open Sys2Proof Sys2Proof.Machine Sys2Proof.Safety

namespace Sys2Proof.Machine

@[simp] theorem reservedS_setF (s : State) (d v h r) : (s.setF d v).reservedS h r = s.reservedS h r := rfl
@[simp] theorem reservedS_fetched (s : State) (h g r) : (fetched s g).reservedS h r = s.reservedS h r := by unfold fetched; split <;> rfl
@[simp] theorem reservedP_fetched (s : State) (h g r) : (fetched s g).reservedP h r = s.reservedP h r := by unfold fetched; split <;> rfl
@[simp] theorem sreg_fetched (s : State) (h g r) : (fetched s g).sreg h r = s.sreg h r := by unfold fetched; split <;> rfl
@[simp] theorem pred_fetched (s : State) (h g r) : (fetched s g).pred h r = s.pred h r := by unfold fetched; split <;> rfl
@[simp] theorem hart_fetched (s : State) (h g) : (fetched s g).hart h = s.hart h := by unfold fetched; split <;> rfl
@[simp] theorem poisoned_fetched (s : State) (g a l) : (fetched s g).poisoned a l = s.poisoned a l := by unfold fetched; split <;> rfl

theorem tcs_ready (s : State) (h) (i : Instr) (x : Tcs) (hr : ready s h) (hw : i.wf = true)
   (hs : unres s h x.regs) (hp : unresP s h x.preds) :
   s.tcs h i x = match x.body (fetched s h) with
      | .go u => u.retired h ((s.hart h).pc + 4)
      | .jump a u => u.retired h a
      | .wait => (fetched s h).stallOn h i
      | .exc c => (fetched s h).exc h c (s.hart h).pc
      | .excMem c m => (fetched s h).excMem h c (s.hart h).pc m := by
  obtain ⟨h1, h2, h3, h4, h5⟩ := hr
  have e1 : s.retry h = s := by simp [State.retry, h1]
  have e2 : (fetched s h).reservedAny h x = false := by
    simp only [State.reservedAny, Bool.or_eq_false_iff, List.any_eq_false]
    refine ⟨fun r hr => ?_, fun r hr => ?_⟩
    · by_cases h0 : r = 0 <;> simp [h0]; exact hs r hr h0
    · by_cases h0 : r = 0 <;> simp [h0]; exact hp r hr h0
  have e3 : (if s.on (CLK_STAT_SRC (hartClu h)) = true then s.setF (CC_FSUM_CLKINT h) 1 else s) = fetched s h := rfl
  simp only [State.tcs, e1, State.tcsRun, h1, h2, e3]
  have : ¬ (imemTop h ≤ (s.hart h).pc) := by omega
  simp [this, h4, h5, hw, e2] <;> rfl


end Sys2Proof.Machine
end

