-- ==== Sys2Proof/Tests/Slice0.lean ====
section
/-!
SUPPORT. Tests of single steps and of decoding, with expected results from the spec's own worked examples; and for every
obligation a theorem wit_<name> that shows a state and operands that meet its hypotheses, clause by clause.
-/

open Sys2Proof Sys2Proof.Machine Sys2Proof.Safety

namespace Sys2Proof.Tests

-- One kernel evaluation at a time: many at once exhaust the threads.
set_option Elab.async false

/-! ### States and commands for the tests -/

/-- The state after a command. -/
def after (i : Instr) (s : State) : State :=
  match exec i s with
  | .next t => t
  | _ => State.reset

/-- The command answers a next state. -/
def runs (i : Instr) (s : State) : Bool :=
  match exec i s with
  | .next _ => true
  | _ => false

/-- Several register fields set. -/
def sets (s : State) (l : List (Fd × Nat)) : State := l.foldl (fun t x => t.setF x.1 x.2) s

/-- Partition 0 holds cluster 0; core 0 and the sequencer of cluster 0 are in RUN. -/
def demo : State :=
  { sets State.reset [ (CLU_INFO_PARTITION 0, 0), (CC_STAT_STATE 0, 1), (CC_STAT_STATE 1024, 1)] with
    parts := [ (0, { Part.reset with held := true })] }

/-- A command with id 0 in queue `q`. -/
def cmdOf (q : Nat) (ws : List Word) (ph : Phase) : Cmd :=
  ⟨0, q, ws, false, 0, 0, 0, 0, ph, [], Flags.zero, false, 0, none, none, 0, false, 0, 0⟩

/-- Every stack has trained. -/
def stacksOn : List (Fd × Nat) := (List.range 16).flatMap fun f => [ (FIELD_INFO_STACK_A_OK f, 1), (FIELD_INFO_STACK_B_OK f, 1)]

def withCmd (s : State) (h : Nat) (k : Cmd) : State := s.modHart h fun x => { x with cmds := x.cmds ++ [ k] }

/-! ### Decoding and well-formedness: words of the spec's examples and of its encoding tables -/

/-- The example of 05_control_core.md: LW S9, [S0 + 0x40]; PUSH VQ; BP P2, +12. -/
theorem test_decode_core_example : decodeTcs (.core 37) 0x29200040 = some (.lw (.core 37) 9 0 0x40) ∧
    decodeTcs (.core 37) 0x80800010 = some (.push (.core 37) 1 0 0 0 0 0 16) ∧
    decodeTcs (.core 37) 0x6080000C = some (.bp (.core 37) 0 2 0 12) := by decide

/-- The example of 11_cluster_sequencer.md: SPUSH to targets 10 and 0. -/
theorem test_decode_sequencer_example : decodeTcs (.seq 12) 0xE2800008 = some (.spush (.seq 12) 10 0 0 0 0 0 8) ∧
    decodeTcs (.seq 12) 0xE0000009 = some (.spush (.seq 12) 0 0 0 0 0 0 9) := by decide

/-- R126, R129–R131, R133: opcode, d, a, b and fn from bit 31 down. -/
theorem test_decode_scalar : decodeTcs (.core 0) 0b000000_00001_00010_00011_111_000_10001#32 = some (.alu (.core 0) 1 2 3 0x711) ∧
    decodeTcs (.core 0) 0b000001_11111_00001_00000_00000000111#32 = some (.fpu (.core 0) 31 1 0 7) ∧
    decodeTcs (.core 0) 0b010010_00011_00100_00101_00010_0_00000#32 = some (.aop (.core 0) 3 4 5 2 0 0) ∧
    decodeTcs (.core 0) 0b010110_00001_00010_00011_00000000010#32 = some (.plog (.core 0) 1 2 3 2) := by decide

/-- R128: immediate, memory, comparison and branch words. -/
theorem test_decode_immediates : decodeTcs (.core 0) 0b000010_00001_00010_1111111111111111#32 = some (.addi (.core 0) 1 2 0xFFFF) ∧
    decodeTcs (.core 0) 0b001101_00111_00001_0000000000000100#32 = some (.sw (.core 0) 7 1 4) ∧
    decodeTcs (.core 0) 0b010000_0_1111_00001_0000000000001000#32 = some (.la (.core 0) 0 15 1 8) ∧
    decodeTcs (.core 0) 0b010100_00_010_00001_00010_0000000_1001#32 = some (.cmp (.core 0) 0 2 1 2 0 9) ∧
    decodeTcs (.core 0) 0b011011_01_00001_00010_11111111111110#32 = some (.bcmp (.core 0) 1 1 2 0x3FFE) ∧
    decodeTcs (.core 0) 0b011010_1_0_000011_10_0000000000000001#32 = some (.bflag (.core 0) 1 0 3 2 1) ∧
    decodeTcs (.core 0) 0b011100_00001_111111111111111111110#32 = some (.jal (.core 0) 1 0x1FFFFE) := by decide

/-- R128, R309: queue, stream, credit, register and system words. -/
theorem test_decode_queues : decodeTcs (.core 0) 0b100001_00100_100_000000000000000000#32 = some (.cpop (.core 0) 4 4 0) ∧
    decodeTcs (.core 0) 0b100011_1_1_0010_00011_000000000000000#32 = some (.strm (.core 0) 1 1 2 3 0) ∧
    decodeTcs (.core 0) 0b100100_0_0011_00001_00010_00000000000#32 = some (.sig (.core 0) 0 3 1 2 0) ∧
    decodeTcs (.core 0) 0b100110_00001_000000000_010000000000#32 = some (.csrr (.core 0) 1 0 0x400) ∧
    decodeTcs (.core 0) 0b101010_00000_00110_00010_00000000000#32 = some (.knote (.core 0) 0 6 2 0) ∧
    decodeTcs (.core 0) 0b110000_0000000000_00000101_00000100#32 = some (.clksel (.core 0) 0 5) ∧
    decodeTcs (.seq 0) 0b111110_01000_001_0_00000000000000000#32 = some (.sres (.seq 0) 8 1 0 0) ∧
    decodeTcs (.core 0) 0x5C000000 = none := by decide

/-- An ALU function code that R129 does not list is ILLEGAL. -/
theorem test_wf_alu : Instr.wf (.alu (.core 0) 0 0 0 0x14) = false := by decide

/-- R129–R135: forms that are ILLEGAL on a core, one for each check. -/
theorem test_wf_core : [ Instr.alu (.core 0) 0 0 0 0x14, .alu (.core 0) 0 0 0 0x100, .alu (.core 0) 0 0 1 0x12, .fpu (.core 0) 0 0 0 9,
    .fpu (.core 0) 0 0 1 5, .shi (.core 0) 0 0 96, .shi (.core 0) 0 0 128, .lui (.core 0) 0 1 0, .la (.core 0) 1 0 0 0, .sa (.core 0) 1 0 0 0,
    .aop (.core 0) 16 0 0 0 0 0, .aop (.core 0) 0 0 0 0 0 5, .aaddi (.core 0) 0 0 1 0 0, .cmp (.core 0) 0 0 0 0 0 10, .cmpi (.core 0) 6 0 0 0,
    .plog (.core 0) 8 0 0 0, .plog (.core 0) 0 1 0 4, .bp (.core 0) 0 0 1 0, .bc (.core 0) 0 0x0D 0 0, .bflag (.core 0) 0 0 16 0 0,
    .push (.core 0) 5 0 0 0 0 0 0, .cpop (.core 0) 1 0 0, .waitq (.core 0) 0 0 0 33, .strm (.core 0) 0 0 0 0 1, .sig (.core 0) 0 1 0 0 0,
    .cwait (.core 0) 0 0 0 0, .csrr (.core 0) 0 1 0, .rdtime (.core 0) 1 0, .waitt (.core 0) 0 1 0, .knote (.core 0) 0 1 0 0,
    .nop (.core 0) 0 1, .halt (.core 0) 1 0, .ifence (.core 0) 0 1, .wdog (.core 0) 1 0, .clksel (.core 0) 0 8].all
      (fun i => !i.wf) = true := by decide +kernel

/-- R305, R309: forms that are ILLEGAL on a sequencer, and the sequencer's instructions on a core. -/
theorem test_wf_sequencer : [ Instr.spush (.seq 0) 12 0 0 0 0 0 0, .spush (.core 0) 0 0 0 0 0 0 0, .spop (.seq 0) 2 0, .swaitq (.seq 0) 0 65,
    .sstrm (.core 0) 0 0 0 0 0, .ssig (.seq 0) 0 0 1, .srecv (.seq 0) 1 0 0 0, .sres (.seq 0) 2 0 0 0, .sbc (.seq 0) 0 5 0 0,
    .push (.seq 0) 0 0 0 0 0 0 0, .bflag (.seq 0) 0 0 0 0 0, .bc (.seq 0) 0 0x10 0 0].all (fun i => !i.wf) = true := by decide +kernel

/-! ### Addresses and units (01_organisation.md, 08_loft_granary_hbm.md) -/

/-- Logical core 300: its loft and instruction memory by the table of R28 (the example shifts 300 by 28 bits, log entry 8), its granary
and its `CORE_MAP`. -/
theorem test_core_300 : loftAddr 300 0 = 0x2_0001_2C00_0000 ∧ imemAddr 300 0 = 0x2_0001_2C80_0000 ∧ granaryAddr 9 0 = 0x1_0009_0000_0000 ∧
    (CORE_MAP_LCORE 300).off = 0x1098C000 ∧ State.reset.f (CORE_MAP_RX 300) = 3 ∧ State.reset.f (CORE_MAP_RY 300) = 2 := by decide +kernel

/-- The lines 0x01234580 and 0x01234600 of a granary. -/
theorem test_granary_lines : granarySlice 0x01234580 = (35, 3106) ∧ (granarySlice 0x01234600).1 = 36 := by decide

/-! ### Formats and the array (02_formats_and_grains.md, 03_matrix_array.md) -/

/-- The MXFP4 block pair: bytes hold two elements, the scales are 0x81 and 0x7C. -/
def mxA : Opnd := opndOf .e2m1 [ (0, 0x37), (1, 0x17)] [ (0, 0x81)]
def mxW : Opnd := opndOf .e2m1 [ (0, 0xD6), (1, 0x15)] [ (0, 0x7C)]

/-- 18.875 at e = −2 ties to 76, and at e = −3 is 151. -/
theorem test_mx_block : blockPoint 1 (-2) 64 mxA mxW 0 0 0 32 = ⟨76, false, false, false⟩ ∧
    blockPoint 1 (-3) 64 mxA mxW 0 0 0 32 = ⟨151, false, false, false⟩ := by decide +kernel

/-- The MAXPLUS example: 13.5 rounds to 14, 17 to 16, and max(14, 16) = 16; E4M3 14 is 0x56 and 16 is 0x58. -/
theorem test_maxplus : plusRound .e4m3 ⟨27, -1⟩ = (0x56, false) ∧ plusRound .e4m3 ⟨17, 0⟩ = (0x58, false) ∧
    (plusAcc .e4m3 true 0x56 ⟨0x58, false, false⟩).bits = 0x58 := by decide +kernel

/-! ### The vector engine (04_vector_engine.md, 06_engine_commands.md) -/

/-- The keys of 17.25 at global indices 90,921 and 196,708. -/
theorem test_argmax_keys : keyOf 0x418A0000 90921 = (0xFFFE9CD6, 0x418A0000) ∧ keyOf 0x418A0000 196708 = (0xFFFCFF9B, 0x418A0000) := by
  decide

/-- The MAX template of the example: its fields, and that it is in order. -/
def maxCmd : Cmd := cmdOf 1 [ 0x00510031, 0, 0x0A10, 0x01000000, 0x01480000, 9, 0, 0] .issued

theorem test_max_template : maxCmd.vqOk = true ∧ maxCmd.op = 0x31 ∧ maxCmd.vq.ta = 16 ∧ maxCmd.vq.afmt = 0xA ∧ maxCmd.vq.r = 16 ∧
    maxCmd.vq.sd = 8 ∧ maxCmd.vq.pp = 2 ∧ maxCmd.vq.pen = true ∧ maxCmd.vq.pcond = 0 ∧ maxCmd.vq.sx = 9 := by decide +kernel

/-! ### Movers (07_movers.md) -/

/-- The WALK example: descriptor levels outermost first, with 2 columns in place of 64. -/
theorem test_walk : walkOffs [⟨2, 64, 4096⟩, ⟨2, 4096, 64⟩] = [ (0, 0), (4096, 64), (64, 4096), (4160, 4160)] := by decide

/-- The extents of the example: 258,175 bytes above the source, and T40 and T41. -/
def walkExample : Cmd := cmdOf 2 [ 0x01200001, 0x000152C2, 0x00080100, 0x12, 0x28, 0x00100000, 0x00040006, 0] .issued
def walkLevels : List Level := [⟨64, 4096, 64⟩, ⟨2, 64, 4096⟩, ⟨1, 0, 0⟩, ⟨1, 0, 0⟩, ⟨1, 0, 0⟩, ⟨1, 0, 0⟩]

theorem test_walk_extents : walkExample.walkExtents walkLevels = (⟨0x1200080100, 0x1200080100 + 258175⟩, ⟨40 * 4096, 40 * 4096 + 8191⟩) ∧
    walkExample.esize = 6 ∧ walkExample.shape = 0 ∧ walkExample.desc false = 0x400 ∧ walkTotal walkExample walkLevels = 8192 := by decide +kernel

/-- The COMMIT of the append example: PENDING 63,488 is committed and OPEN clears. -/
def commitCase : State := withCmd (sets demo [ (AP_COMMIT_COMMITTED 0 1 3, 61440), (AP_PEND_PENDING 0 1 3, 63488), (AP_STAT_OPEN 0 1 3, 1)])
  0 (cmdOf 3 [ 5, 0, 0, 0, 0, 0, 0, 3] .issued)

theorem test_commit : (after (.commit 0 1) commitCase).f (AP_COMMIT_COMMITTED 0 1 3) = 63488 ∧
    (after (.commit 0 1) commitCase).f (AP_STAT_OPEN 0 1 3) = 0 := by decide +kernel

/-! ### Time, power, start-up, integrity (10, 12–15) -/

/-- `TIME_PATH` 7,027 and CORR 0x280: the keeper that reads 0.40 ns more than expected shows −102. -/
def beaconCase : State :=
  let s := sets demo [ (TIME_PATH_D 31, 7027)]
  { (s.modClu 31 fun x => { x with keeper := { Keeper.reset with ofs := 102 * 256 } }) with
    dtime := 18001000 * 65536, tim := { s.tim with bT := 18001000 * 65536, bSeq := 1 } }

theorem test_beacon_error : (after (.beaconArrival 31 (7027 * 256) (0x280 * 256)) beaconCase).fInt (TIME_ERR_ERR 31) = -102 := by
  decide +kernel

/-- A grade S module is asked for 6,000 W, then for 4,000 W (00_scope.md). -/
def gradeS : State := sets demo [ (DEV_PLIMIT_PMAX_W, 5400), (DEV_PLIMIT_PSET_W, 5400)]

theorem test_plimit : (gradeS.plimit 6000).f DEV_PLIMIT_PSET_W = 5400 ∧ ((gradeS.plimit 6000).plimit 4000).f DEV_PLIMIT_PSET_W = 4000 := by
  decide +kernel

/-- The ticket example: 640 + 150 exceeds 750 A, so a check refuses; the ninth grants and throttles cluster 12. -/
def ticketCase (k : Nat) : State :=
  let s := sets demo [ (PST_STAT_STATE 13, 2), (PWR_WAKE_FIELD_A 6, 750), (PWR_WAKE_RESERVE_A 6, 150)]
  (s.modClu 13 fun x => { x with refusals := k }).modFld 6 fun x => { x with iAvg := 640000 }

theorem test_ticket : ((ticketCase 0).ticket 13).f (PST_STAT_TWAIT 13) = 1 ∧ ((ticketCase 8).ticket 13).f (PST_STAT_TWAIT 13) = 0 ∧
    ((ticketCase 8).ticket 13).f (PST_STAT_THROTTLED 12) = 1 ∧ ((ticketCase 7).ticket 13).f (PST_STAT_THROTTLED 12) = 0 := by
  decide +kernel

/-- The voting example of 14_startup_and_sparing.md: core 7 fuse-bad; 7, 14 and 16 are bad and 15 good. -/
def votes (t p : Nat) : Bool := [ (8, 7), (0, 7), (15, 14), (16, 14), (16, 15)].contains (t, p)

theorem test_voting : testers 7 = [ 8, 0, 16] ∧ testers 14 = [ 15, 16, 5] ∧ testers 16 = [ 17, 9, 7] ∧
    votedBad (· = 7) votes 7 = true ∧ votedBad (· = 7) votes 14 = true ∧ votedBad (· = 7) votes 15 = false ∧
    votedBad (· = 7) votes 16 = true := by decide +kernel

/-- The witness example of 15_integrity.md: partition 1 holds clusters 12 to 15; core 389 has witness 453 and third core 485. -/
def winnowCase : State := sets State.reset ([ 12, 13, 14, 15].map fun c => (CLU_INFO_PARTITION c, 1))

theorem test_witness : winnowCase.witness 389 = some 453 ∧ winnowCase.thirdCore 389 453 = some 485 := by decide +kernel

/-! ### The torus and the barn (16_ethernet_and_octoon.md, 17_barn.md) -/

/-- Module 47 to module 993 in a 16 × 16 × 16 torus: + in x across the dateline, then − in y, then + in z. -/
def torus : State := State.reset.modBoot fun b => { b with system := (16, 16, 16) }

theorem test_torus_route : (List.range 3).map (torus.coord 47) = [ 15, 2, 0] ∧ torus.wayTo 47 993 = some (0, true, true) ∧
    torus.wayTo 33 993 = some (1, false, false) ∧ torus.wayTo 1 993 = some (1, false, true) ∧ torus.wayTo 225 993 = some (2, true, false) := by
  decide +kernel

/-- Data page 1,000 of a PARITY 1 bale over all channels lies on channel 45, and is in row 10 with its parity on channel 77. -/
def bigBale : Bale := ⟨1, 0, 0, true, 0, 0, [], List.range 128, [], []⟩

theorem test_parity_layout : bigBale.groups.length = 32 ∧ bigBale.pageChan 1000 = 45 ∧ 1000 / (3 * 32) = 10 ∧ 45 % 32 + 32 * (10 % 4) = 77 := by
  decide +kernel

/-! ### Witnesses: instructions of a control core -/

theorem wit_ScalarResults : ready demo 0 ∧ unres demo 0 [ 1, 2, 3] ∧ unresP demo 0 [ 7] ∧
    (Instr.alu (.core 0) 1 2 3 0x711).wf = true ∧ (Instr.fpu (.core 0) 1 2 0 6).wf = true ∧
    (31#16).toNat / 32 = 0 ∧ (32#16).toNat / 32 = 1 ∧ (95#16).toNat / 32 = 2 ∧ ready demo 1024 ∧ unres demo 1024 [ 1, 2, 3] := by
  unfold ready unres unresP; decide +kernel

theorem wit_ScalarFrame : ready demo 0 ∧ (Instr.addi (.core 0) 0 2 5).wf = true ∧
    (demo.ea 0 2 0x7FFC % 4 = 0 ∧ demo.ea 0 2 0x7FFC < dmemTop 0 ∧ demo.poison = []) ∧
    runs (.addi (.core 0) 0 2 5) demo = true := by
  unfold ready; decide +kernel

theorem wit_AluFunctions : aluFn 0x12 true 1 0 = 31 ∧ aluFn 0x12 true 0 0 = 32 ∧ isNan32 0x7FC00000 = true := by decide

theorem wit_LoadsReadBytes : ready demo 0 ∧ unres demo 0 [ 1, 0] ∧ (0 + (0x7FF8#16).signExtend 32).toNat % 8 = 0 ∧
    (0x7FF8#16).toNat < dmemTop 0 ∧ demo.poisoned (hartDmem 0 0x7FF8) 8 = false := by
  unfold ready unres; decide +kernel

theorem wit_StoresWriteBytes : ready demo 1024 ∧ unres demo 1024 [ 1, 0] ∧ 0xFFF8 < dmemTop 1024 ∧
    demo.poisoned (hartDmem 1024 0x7FF8) 8 = false := by
  unfold ready unres; decide +kernel

theorem wit_AddressAndPredicateResults : ready demo 0 ∧ unres demo 0 [ 31, 1, 2, 3] ∧ unresP demo 0 (List.range 8) ∧
    cmpCode 9 0x7FC00000 0 = some true ∧ cmpCode 5 0 0 = some true := by
  unfold ready unres unresP; decide +kernel

theorem wit_ComparisonCodes : isNan32 0x7F800001 = true ∧ isNan32 0x7F800000 = false ∧ isNan32 0xFFFFFFFF = true := by decide

/-- The sequencer takes SBC, a core BC and BFLAG; each selector at its largest value. -/
theorem wit_BranchesAndJumps : ready demo 0 ∧ unres demo 0 [ 1, 2, 3] ∧ unresP demo 0 [ 7] ∧ ready demo 1024 ∧
    bcSelOk false 0 = true ∧ demo.writerOf 0 63 = false ∧ demo.writerOf 0 (64 + 15) = false ∧ sbcSelOk 0 = true := by
  unfold ready unres unresP; decide +kernel

/-- Each clause: a core in WAIT, a program counter outside instruction memory, a word with an uncorrectable error, an ill-formed
instruction, and a register and a predicate reserved by a reduction. -/
def reducing : State := withCmd demo 0 (cmdOf 1 [ 0x30, 0, 0, 0x00100000, 0x01250000, 0, 0, 0] .waiting)

theorem wit_ExceptionsAndStalls : (tcsOf (.addi (.core 0) 1 2 5)).isSome = true ∧ (demo.hart 0).stall = none ∧
    State.reset.canIssue 0 = false ∧ imemTop 0 ≤ ((demo.modHart 0 fun x => { x with pc := 0x10000 }).hart 0).pc ∧
    { demo with poison := [ hartImem 0 0] }.poisoned (hartImem 0 0) 4 = true ∧ (Instr.alu (.core 0) 0 0 0 0x14).wf = false ∧
    ready reducing 0 ∧ reducing.reservedS 0 5 = true ∧ reducing.reservedP 0 1 = true := by
  unfold ready; decide +kernel

theorem wit_MemoryExceptions : ready demo 0 ∧ unres demo 0 [ 1, 0] ∧ demo.held 0 4 < 32 ∧ demo.iqHeld 1024 < 64 ∧ ready demo 1024 ∧
    (let s := { demo with poison := [ hartDmem 0 0] }; ready s 0 ∧ s.poison.find? (touches (hartDmem 0 0) 32) = some (hartDmem 0 0)) := by
  unfold ready unres; decide +kernel

theorem wit_ExceptionEntry : demo.streamWaits 1055 0 = none ∧ demo.streamWaits 1055 1 = none ∧ (∀ m < 8, demo.streamWaits 1055 m = none) ∧
    (demo.hart 1055).ihold = [] ∧ demo.streamWaits 0 0 = none ∧ demo.streamWaits 0 1 = none := by decide +kernel

theorem wit_SetsOfCounters : ready demo 0 ∧ unres demo 0 [ 30, 31] ∧ (0 : Nat) ≤ demo.credit 0 15 ∧ demo.credit 0 15 < 1 ∧
    1 ≤ (demo.setF (CC_CRED_COUNT 0 15) 1).credit 0 15 := by
  unfold ready unres; decide +kernel

/-- A template in order at offset 0 of data memory, pushed to an empty queue; a record; an address queue with room and full. -/
def template (s : State) (h : Nat) (ws : List Word) : State :=
  s.wrN (hartDmem h 0) (ws.flatMap fun w => leBytes 4 w.toNat)

theorem wit_QueuesPushAndPop :
    (let s := template demo 0 maxCmd.words
     let k := (fetched s 0).captureCmd 0 1 0 0 0 false false
     let u := (fetched s 0).modHart 0 fun z => { z with nextId := z.nextId + 1, cmds := z.cmds ++ [ k] }
     ready s 0 ∧ unres s 0 (4 :: 5 :: (List.range 4).map (28 + ·)) ∧ s.held 0 1 < 32 ∧ s.poisoned (hartDmem 0 0) 32 = false ∧
      k.opRegs 0 = [ 9] ∧ s.reservedS 0 9 = false ∧ u.headCmd 0 1 = some k ∧ k.headStatuses (u.ledgerAdd 0 lPushed 1) 0 = []) ∧
    (let s := template demo 1024 [ 0x101, 0, 0, 0, 0, 0, 0, 0]
     let k := (fetched s 1024).captureCmd 1024 11 0 0 0 false false
     let u := (fetched s 1024).modHart 1024 fun z => { z with nextId := z.nextId + 1, cmds := z.cmds ++ [ k] }
     ready s 1024 ∧ s.iqHeld 1024 < 64 ∧ (∀ j ∈ k.opRegs 1024, j ≠ 0 → s.reservedS 1024 j = false) ∧ u.headCmd 1024 11 = some k ∧
      k.headStatuses (u.ledgerAdd 0 lPushed 1) 1024 = []) ∧
    0 + 32 * 1023 < dmemTop 0 ∧ demo.poisoned (hartDmem 0 (32 * 1023)) 32 = false ∧
    (demo.hart 0).recs.find? (fun r => r.q = 4) = none ∧ (demo.hart 1024).recs = [] ∧
    ((demo.modHart 0 fun x => { x with recs := [⟨4, 0, 0, 0, 0⟩] }).hart 0).recs.find? (fun r => r.q = 4) = some ⟨4, 0, 0, 0, 0⟩ ∧
    (demo.aqOf 0 1).length < 256 ∧ (demo.aqOf 1024 7).length < 256 ∧
    ((demo.modHart 0 fun x => { x with aq := List.replicate 256 ⟨1, 0, 0, false⟩ }).aqOf 0 1).length = 256 := by
  unfold ready unres; decide +kernel

/-- Every slot of queue 4 and every place of the issue queue is held. -/
theorem wit_QueuesPushAndPop_full :
    (let s := (List.range 32).foldl (fun t _ => withCmd t 0 (cmdOf 4 [ 0, 0, 0, 0, 0, 0, 0, 0] .waiting)) demo
     ready s 0 ∧ unres s 0 [ 1] ∧ 32 ≤ s.held 0 4) ∧
    (let s := (List.range 64).foldl (fun t _ => withCmd t 1024 (cmdOf 11 [ 0, 0, 0, 0, 0, 0, 0, 0] .waiting)) demo
     ready s 1024 ∧ unres s 1024 [ 1] ∧ 64 ≤ s.iqHeld 1024) := by
  unfold ready unres; decide +kernel

theorem wit_SignalsAndResults : ready demo 0 ∧ unres demo 0 (1 :: 2 :: (List.range 4).map (28 + ·)) ∧ unresP demo 0 [ 7] ∧ ready demo 1024 ∧
    (demo.sreg 0 1).toNat % 65536 = 0 ∧ ((demo.setS 0 1 5).sreg 0 1).toNat % 65536 ≠ 0 ∧ (demo.sreg 0 2).toNat % 1024 = 0 ∧
    demo.partOf 0 = 0 ∧ ((demo.setS 0 2 1023).sreg 0 2).toNat % 1024 = 1023 ∧ demo.partOf 31 ≠ 0 ∧ demo.absent 0 = false ∧
    demo.mayInject 0 = true ∧ demo.mayInject 1024 = true ∧
    (demo.clu 0).mail = [] ∧ ((demo.modClu 0 fun x => { x with mail := [ (7, 8)] }).clu 0).mail = [ (7, 8)] ∧ (demo.clu 0).resq = [] ∧
    ((demo.modClu 0 fun x => { x with resq := [⟨1, 2, 3, .ok, Flags.zero⟩] }).clu 0).resq = [⟨1, 2, 3, .ok, Flags.zero⟩] := by
  unfold ready unres unresP; decide +kernel

theorem wit_SystemRegisters : ready demo 0 ∧ unres demo 0 [ 1, 2, 3, 30, 31] ∧ (0xFFC#12).toNat % 4 = 0 ∧ ready demo 1024 := by
  unfold ready unres; decide +kernel

/-- On the oscillator CLKSEL finds the PLL unlocked, and locked. IFENCE with an empty buffer and with one write held. -/
theorem wit_SystemState : ready demo 0 ∧ unresP demo 0 [ 7] ∧ demo.f (CLK_STAT_SRC 0) = 0 ∧
    (let s := demo.modHart 0 fun x => { x with ihold := [⟨imemAddr 0 0, [ 1], 0, .none⟩] }
     ready s 0 ∧ (s.hart 0).ihold = [⟨imemAddr 0 0, [ 1], 0, .none⟩] ∧ s.poison = []) ∧ demo.partOf 0 ≠ 0xFF ∧
    (sets demo [ (CLK_STAT_SRC 0, 1), (CLK_STAT_LOCK 0, 0)]).f (CLK_STAT_LOCK 0) = 0 ∧
    (let s := sets demo [ (CLK_STAT_SRC 0, 1), (CLK_STAT_LOCK 0, 1)]
     ready s 0 ∧ s.f (CLK_STAT_SRC 0) ≠ 0 ∧ s.f (CLK_STAT_LOCK 0) ≠ 0 ∧ s.f PWR_ALERT_ASSERTED = 0) ∧
    (demo.hart 0).ihold = [] ∧ (demo.hart 0).cmds = [] := by
  unfold ready unresP; decide +kernel

/-! ### Witnesses: commands of the engines -/

/-- A state in which control core `h` holds the one command `k`. -/
def holds (h : Nat) (k : Cmd) : State := withCmd demo h k

/-- The command is the only one of its id. -/
abbrev alone (s : State) (h : Nat) (k : Cmd) : Prop := ∀ e ∈ (s.hart h).cmds, e.id = k.id → e = k

def sumCmd (ph : Phase) : Cmd := cmdOf 1 [ 0x30, 0, 0, 0x00100000, 0x01250000, 0, 0, 0] ph

theorem wit_StoppedCommandsReleaseZero : (holds 0 (sumCmd .issued)).findCmd 0 0 = some (sumCmd .issued) ∧
    alone (holds 0 (sumCmd .issued)) 0 (sumCmd .issued) ∧ (sumCmd .issued).resRegs = [ 5] ∧ (sumCmd .issued).resPred = [ 1] := by
  decide +kernel

/-- Statuses that apply together. -/
theorem wit_CompletionRecord_status : (∀ x ∈ [ Status.sat, .aborted], x ≠ .ok) ∧ Status.aborted ∈ [ Status.sat, .aborted] ∧
    (∀ x ∈ [ Status.late], x ≠ .ok) ∧ pickStatus [ .late] = .late := by decide

/-- With QUIET and without. -/
theorem wit_CompletionRecord : (holds 1055 (cmdOf 11 [ 0x4001, 0, 0, 0, 0, 0, 0, 0] .ran)).findCmd 1055 0 =
      some (cmdOf 11 [ 0x4001, 0, 0, 0, 0, 0, 0, 0] .ran) ∧ (cmdOf 11 [ 0x4001, 0, 0, 0, 0, 0, 0, 0] .ran).quiet = true ∧
    (holds 0 (sumCmd .ran)).findCmd 0 0 = some (sumCmd .ran) ∧ (sumCmd .ran).quiet = false := by decide +kernel

/-- A command that may issue, one whose fence holds it, one timed, one that has run, and one remote that is issued. -/
theorem wit_CommandLife :
    (let k := sumCmd .waiting
     let s := holds 0 k
     s.nextCmd 0 1 = some k ∧ alone s 0 k ∧ k.isAppend 0 = false ∧ s.cluRuns 0 = true ∧ s.mayIssue 0 k = true ∧ s.sbWait 0 k = false ∧
      s.openRead 0 (s.narrow 0 k) = false) ∧
    (let k := cmdOf 11 [ 0x101, 0, 0, 0, 0, 0, 0, 0] .waiting
     let v := (holds 1024 k).advanceCopy 0 k.launch
     (holds 1024 k).nextCmd 1024 11 = some k ∧ k.timed = true ∧ alone (holds 1024 k) 1024 k ∧ k.isAppend 1024 = false ∧ v.cluRuns 0 = true ∧
      v.mayIssue 1024 k = true ∧ v.sbWait 1024 k = false ∧ v.openRead 1024 (v.narrow 1024 k) = false) ∧
    (let k := { sumCmd .waiting with id := 1, words := [ 0x8030, 0, 0, 0x00100000, 0x01250000, 0, 0, 0] }
     let s := withCmd (holds 0 (sumCmd .issued)) 0 k
     s.nextCmd 0 1 = some k ∧ s.mayIssue 0 k = false) ∧
    (holds 0 (sumCmd .ran)).doneCmd 0 1 = some (sumCmd .ran) ∧
    (let k := cmdOf 8 [ 1, 0, 0, 0, 0, 0, 0, 0] .issued
     let s := holds 1055 k
     (s.hart 1055).cmds.find? (fun e => decide (e.q = 8) && decide (e.phase = .issued)) = some k ∧ isRemote 1055 8 = true ∧ alone s 1055 k) := by
  decide +kernel

/-- A pass of 64 rows of INT8 that clears regions, of each opcode; and a rounding point that saturates. -/
def mqCmd (op : Nat) : Cmd := cmdOf 0 [ BitVec.ofNat 32 op, 0, if op = 7 then 0x00010BB else 0x0010066, 0x40000040, 0, 0, 0, 0] .issued

theorem wit_MatrixPasses : (∀ op ∈ [ 2, 3, 4, 7], let k := mqCmd op; let s := holds 0 k
      s.issuedCmd 0 0 op = some k ∧ s.cluRuns 0 = true ∧ alone s 0 k ∧ k.mqGeo.isSome = true ∧ s.passBad 0 k = false ∧
        k.mq.gb + k.mq.outUnits ≤ 16 ∧ k.mq.m ≤ 1024) ∧
    (let k := mqCmd 1; let s := holds 0 k
     s.issuedCmd 0 0 1 = some k ∧ k.mqGeo.isSome = true ∧ s.passBad 0 k = false) ∧
    (toPoint ⟨1, 0⟩ 0).sat = false ∧ (toPoint ⟨1, -1⟩ 0).lost = true ∧ (2 : Int) * 0 = 0 := by decide +kernel

theorem wit_ExtremePasses : ∀ op ∈ [ 5, 6],
    let k := cmdOf 0 [ BitVec.ofNat 32 op, 0, 0x01010066, 0x00000040, 0, 0, 0, 0] .issued
    let s := holds 1023 k
    s.issuedCmd 1023 0 op = some k ∧ State.reset.cluRuns 31 = true ∧ alone s 1023 k ∧ k.mqGeo.isSome = true ∧ k.mqOk = true ∧
      s.passBad 1023 k = false := by decide +kernel

theorem wit_ArrayActivity :
    (let k := mqCmd 2; let s := holds 0 k
     s.nextLoad 0 = some k ∧ k.mqGeo.isSome = true ∧ (s.hart 0).standby = none ∧ k.formOk 0 = true ∧ s.cluRuns 0 = true ∧
      (∀ g, k.mqGeo = some g → s.weightsReady 0 k g.wt = true)) ∧
    (let s := sets demo [ (ARRAY_STATE_COLD 0, 0)]; s.f (ARRAY_STATE_COLD 0) = 0 ∧ s.f (ARRAY_STATE_RAMPING 0) = 0) ∧
    (let s := sets demo [ (ARRAY_STATE_RAMPING 0, 1), (ARRAY_STATE_GROUPS 0, 7)]
     s.f (ARRAY_STATE_RAMPING 0) = 1 ∧ s.f (ARRAY_STATE_GROUPS 0) < 8) ∧
    (let s := { (sets (holds 0 (mqCmd 2)) [ (ARRAY_STATE_COLD 0, 1)]).modClu 0 fun x => { x with kettle := [⟨0, 300000000, 0⟩] } with
       dtime := 2000 * nsU }
     s.f (ARRAY_STATE_RAMPING 0) = 0 ∧ s.f (ARRAY_STATE_COLD 0) = 1 ∧ s.passWaits 0 = true ∧ s.announced 0 = true) := by decide +kernel

/-- A vector command of one row with FP32 operands, by opcode, its output apart from its inputs. -/
def vqCmd (op a b c d : Nat) : Cmd :=
  cmdOf 1 [ BitVec.ofNat 32 op, 0, BitVec.ofNat 32 a, BitVec.ofNat 32 b, BitVec.ofNat 32 c, BitVec.ofNat 32 d, 0, 0] .issued

/-- The hypotheses of a vector command at work. -/
abbrev vqOn (op : Nat) (k : Cmd) : Prop := (holds 0 k).issuedCmd 0 1 op = some k ∧ (holds 0 k).cluRuns 0 = true ∧ alone (holds 0 k) 0 k ∧
  k.vqOk = true ∧ ∀ p ∈ ((k.vqRuns.getD ([], [])).1), ∀ q ∈ ((k.vqRuns.getD ([], [])).2), p.reg = false → runsMeet p.first p.count q.first q.count = false

theorem wit_LaneCommands : (∀ op ∈ [ 0x00, 0x01, 0x02, 0x04, 0x05, 0x08], vqOn op (vqCmd op 0x02801A00 0x00100A02 0 0)) ∧
    (∀ op ∈ [ 0x03, 0x09], vqOn op (vqCmd op 0x0A801A00 0x00100A03 0 0)) ∧
    (∀ op ∈ [ 0x06, 0x07, 0x10, 0x11, 0x12, 0x13, 0x14, 0x15], vqOn op (vqCmd op 0xA00 0x00100A02 0 0)) := by decide +kernel

theorem wit_LaneValues : isNan32 0x7FC00000 = true ∧ isNan32 0x7F800000 = false ∧ fval 0x3F800000 = .fin false 0x800000 (-23) ∧
    (((Val.fin false 0x800000 (-23)).dy.mul (Val.fin false 0x800000 (-23)).dy).add (Val.fin false 0 0).dy).m ≠ 0 := by decide +kernel

theorem wit_ConversionsAndGrains : vqOn 0x18 (vqCmd 0x18 0xA00 0x00100C08 0 0) ∧
    vqOn 0x19 (vqCmd 0x19 0x03008C00 0x00100C20 0 0) ∧ vqOn 0x1A (vqCmd 0x1A 0xC00 0x00100C20 0 0) ∧
    (holds 0 (vqCmd 0x19 0x03008C00 0x00100C20 0 0)).gaddBad 0 (vqCmd 0x19 0x03008C00 0x00100C20 0 0).vq = false ∧
    ((holds 0 (vqCmd 0x19 0x03008C00 0x00100C20 0 0)).setPlane 0 0 0 1).gaddBad 0 (vqCmd 0x19 0x03008C00 0x00100C20 0 0).vq = true := by
  decide +kernel

theorem wit_RowStatistics : (∀ op ∈ [ 0x20, 0x21], vqOn op (vqCmd op 0xA00 0x00100A08 0 0)) ∧
    vqOn 0x22 (vqCmd 0x22 0x02884A00 0x00105A08 0 0) ∧ vqOn 0x23 (vqCmd 0x23 0xA00 0x00105A08 0 0) ∧
    vqOn 0x24 (vqCmd 0x24 0x06884A00 0x00105A08 0 0) ∧ isNan32 0x7FC00000 = true := by decide +kernel

/-- Without KEY and with it; GSUM in range and with operands of two scales. -/
theorem wit_Reductions : (∀ op ∈ [ 0x30, 0x31, 0x32, 0x33, 0x34], vqOn op (vqCmd op 0xA00 0x00100000 0x01250000 0)) ∧
    (vqCmd 0x33 0xA00 0x00100000 0x01240000 0x8000).vq.key = true ∧ vqOn 0x33 (vqCmd 0x33 0xA00 0x00100000 0x01240000 0x8000) ∧
    (let k := vqCmd 0x35 0xC00 0x00200000 0x01240000 0
     vqOn 0x35 k ∧ (holds 0 k).gsumBad 0 k.vq = false ∧ ((holds 0 k).setPlane 0 0 0 1).gsumBad 0 k.vq = true) := by decide +kernel

/-! ### Witnesses: movers, the mesh and sheaves -/

/-- One level of the six of a descriptor at offset 0 of control core `h`'s data memory: counts of 1. -/
def withLevels (s : State) (h : Nat) : State :=
  (List.range 6).foldl (fun t i => t.wr32 (hartDmem h (16 * i)) 1) s

/-- A WALK of one byte from class 1 to class 0. -/
def walkCmd (q : Nat) : Cmd := cmdOf q [ 1, 0, 64, 0x00020000, 128, 0, 0, 0] .issued

/-- A core's WALK, a cluster mover's, and one whose descriptor is out of range. -/
theorem wit_WalksAndStreams :
    (let s := withLevels (holds 0 (walkCmd 2)) 0
     alone s 0 (walkCmd 2) ∧ s.poison = [] ∧ s.moverCmd 0 0 1 = some (walkCmd 2) ∧ (s.descr 0 (walkCmd 2)).isSome = true ∧
      s.walkStop 0 (walkCmd 2) ≠ []) ∧
    (let s := holds 1024 (walkCmd 8)
     s.moverCmd 1024 7 1 = some (walkCmd 8) ∧ s.descr 1024 (walkCmd 8) = none) ∧
    (let k := cmdOf 2 [ 2, 0, 0, 0x00020000, 128, 0, 0, 0] .issued
     let s := (holds 0 k).modHart 0 fun x => { x with aq := [⟨0, 64, 8, true⟩] }
     s.streamNext 0 0 = some (k, ⟨0, 64, 8, true⟩)) := by decide +kernel

/-- A loft endpoint of core 0, which its own mover reaches. -/
theorem wit_WalkRuns :
    let k := cmdOf 2 [ 1, 0, 64, 0x00020000, 128, 0x00020000, 0, 0] .issued
    let s := withLevels (holds 0 k) 0
    s.moverCmd 0 0 1 = some k ∧ s.walkStop 0 k = [] ∧ (k.endpoint 2).kind = 0 ∧ (k.endpoint 4).cls ≤ 2 ∧
      imemHart (k.endpoint 4).dev = none := by decide +kernel

/-- Both kinds of stream, with an entry that is in order and one outside the class. -/
theorem wit_StreamEntries :
    let g := cmdOf 2 [ 2, 0, 0, 0x00020000, 128, 0x00020000, 0, 0] .issued
    let p := cmdOf 2 [ 3, 0, 128, 0x00020000, 0, 0x00020000, 0, 0] .issued
    (∀ k ∈ [ g, p], let s := holds 0 k
      s.entryStatuses 0 k ⟨0, 64, 8, true⟩ = [] ∧ s.entryOpen 0 k ⟨0, 64, 8, true⟩ = false ∧ k.fixed = false ∧ (k.endpoint 4).cls ≤ 2 ∧
        (k.endpoint 2).cls ≤ 2 ∧ (k.endpoint 2).kind = 0 ∧ (k.endpoint 4).kind = 0 ∧ imemHart ((k.endpoint 4).dev + k.pos) = none ∧
        imemHart (devAddr 2 64) = none) ∧
      (holds 0 g).entryStatuses 0 g ⟨0, 0xFFFFFFFFFFFF, 8, true⟩ ≠ [] ∧ demo.f (MV_STAT_SKIPS 0 0) = 0 := by decide +kernel

def appendCmd (op : Nat) (ph : Phase) : Cmd :=
  cmdOf 2 [ BitVec.ofNat 32 op, 0, if op = 4 then 64 else 0, if op = 4 then 0x00020000 else 0, 0, 0, 0, 0] ph

theorem wit_AppendsAndCommits :
    (let s := sets (holds 0 (appendCmd 4 .waiting)) [ (AP_STEP_STEP 0 0 0, 16), (AP_LIMIT_LIMIT 0 0 0, 16), (AP_BASEH_CLS 0 0 0, 2)]
     let k := appendCmd 4 .waiting
     k.isAppend 0 = true ∧ s.cluRuns 0 = true ∧ s.mayIssue 0 k = true ∧ s.sbWait 0 k = false ∧ s.commitAhead 0 k = false ∧
      s.issueStatuses 0 k = [] ∧ s.f (AP_PEND_PENDING 0 0 0) + 16 < 2 ^ 32) ∧
    (holds 0 (appendCmd 4 .issued)).moverCmd 0 0 4 = some (appendCmd 4 .issued) ∧
    (let s := sets (holds 0 (appendCmd 4 .issued)) [ (AP_STEP_STEP 0 0 0, 16), (AP_BASEH_CLS 0 0 0, 2)]
     s.apBase 0 0 0 + 0 + 16 ≤ 3 * clsBase 1 ∧ ((appendCmd 4 .issued).endpoint 2).kind = 0 ∧ ((appendCmd 4 .issued).endpoint 2).cls ≤ 2 ∧
      s.poison = [] ∧ imemHart (s.apBase 0 0 0) = none) ∧
    (holds 0 (appendCmd 5 .issued)).moverCmd 0 0 5 = some (appendCmd 5 .issued) ∧
    (holds 0 (appendCmd 5 .issued)).f (AP_STAT_OPEN 0 0 0) = 0 ∧
    (sets demo [ (AP_STAT_OPEN 0 0 0, 1), (AP_STAT_BROKEN 0 0 0, 1)]).f (AP_STAT_BROKEN 0 0 0) = 1 ∧
    demo.absent 0 = false ∧ demo.apIdle 0 0 15 = true ∧ (holds 0 (appendCmd 5 .issued)).apIdle 0 0 0 = false := by decide +kernel

/-- A mesh-port command of 512 bytes from a tile run to another core's loft. -/
def nqCmdOf (op : Nat) : Cmd := cmdOf 4 [ BitVec.ofNat 32 op, 0, 0, 0x00100000, 64, 0x00020000, 512, 0] .issued

/-- A sheaf descriptor of 8 bytes and `count` at root 0, id 0, to core 0's loft or, with `w3` 0x00100000, to the sequencer. -/
def described (st count w3 : Nat) : State :=
  sets demo [ (SHF_DESC_WORD 0 0 1, 0x00080000 + count), (SHF_DESC_WORD 0 0 3, w3), (SHF_DESC_WORD 0 0 5, 10), (SHF_STAT_STATE 0 0, st)]

/-- Armed, by `ARM` or by command `cmd`. -/
def armedBy (st count w3 : Nat) (cmd : Option Nat) : State :=
  ((described st count w3).modClu 0 fun x => { x with sheaves := [ (0, some ⟨0, 1, cmd, [], [], [], Flags.zero, false, false⟩)] }).modPart 0
    fun x => { x with sheafAt := [ (0, 1)] }
def armed (st : Nat) : State := armedBy st 1 0x00020000 none

theorem wit_MeshPortCommands : (∀ op ∈ [ 1, 2, 3, 4], (holds 0 (nqCmdOf op)).nqCmd 0 op = some (nqCmdOf op) ∧
      alone (holds 0 (nqCmdOf op)) 0 (nqCmdOf op)) ∧ (nqCmdOf 1).endpoint 2 = ⟨0, 0, 1, 0⟩ ∧
    (holds 0 (nqCmdOf 1)).portFree 0 = true ∧ (holds 0 (nqCmdOf 1)).openTxns 0 0 = false ∧
    (pktRuns ((nqCmdOf 1).endpoint 4).dev 512).length ≤ (holds 0 (nqCmdOf 1)).portRoom 0 ∧
    (pktRuns ((nqCmdOf 2).endpoint 2).dev 512).length ≤ (holds 0 (nqCmdOf 2)).portRoom 0 ∧
    (let k : Cmd := { cmdOf 4 [ 3, 0, 0, 0x00100000, 64, 0x00020000, 49152, 0] .issued with id := 1, pos := 49152 }
     (withCmd (holds 0 (nqCmdOf 1)) 0 k).portFree 0 = false) ∧
    (holds 0 (nqCmdOf 3)).mcastGroup 0 0 = none ∧
    ((holds 0 (nqCmdOf 3)).modPart 0 fun x => { x with groups := [ (0, some ⟨0, [ [ 0, 0, 0, 0]], false, []⟩)] }).mcastGroup 0 0 =
      some ⟨0, [ [ 0, 0, 0, 0]], false, []⟩ ∧ (pktRuns (clsBase 1) 512).length ≤ (holds 0 (nqCmdOf 3)).portRoom 0 ∧
    ((holds 0 (nqCmdOf 4)).part 0).sheafAt.get 0 0 = 0 ∧ ((armed 2).part 0).sheafAt.get 0 0 = 1 ∧ ((armed 2).sheaf 0 0).isSome = true ∧
    ((armed 2).sheafSource 0 (nqCmdOf 4)).isSome = true ∧ (armed 2).f (SHF_STAT_STATE 0 0) = 2 ∧
    shSegs ((armed 2).shDesc 0 0).len ≤ (armed 2).portRoom 0 ∧ ((armed 2).shDesc 0 0).len ≠ (nqCmdOf 4).len := by decide +kernel

/-- Packet 0 of a state arrives, and the packet and the state it leaves are as said. -/
def arrives (s : State) (typ : Nat) (ok : Pkt → State → Bool) : Bool :=
  match s.arrival 0 typ with
  | some (p, u) => ok p u
  | none => false

/-- A packet from core 1 to core 0. -/
def toCore0 (typ addr : Nat) (d : List Byte) : Pkt := { pkt0 typ 0 1 0 with addr := addr, len := d.length, data := d }

theorem wit_RequestsAndResponses :
    (∀ typ ∈ [ 1, 2], arrives (demo.send (toCore0 typ (loftAddr 0 0) [ 1, 2])) typ (fun p u => (u.portStops p 0).isNone && p.len = 2)) ∧
    target (loftAddr 0 0) = .loft 0 0 ∧ demo.runStatus (loftAddr 0 0) 2 = .ok ∧ demo.runStatus (loftAddr 0 0x100000) 2 ≠ .ok ∧
    arrives (demo.send (toCore0 8 (clsBase 15) [ 0, 0, 0, 0])) 8 (fun p u => (u.portStops p 0).isNone) ∧
    target (clsBase 15) = .csr 0 ∧ demo.runStatus (clsBase 15) 4 = .ok ∧
    arrives (demo.send (toCore0 2 (imemAddr 0 0) [ 0, 0, 0, 0])) 2 (fun p u => (u.portStops p 0).isNone) ∧
    target (imemAddr 0 0) = .imem 0 0 ∧ demo.runStatus (imemAddr 0 0) 4 = .ok ∧ demo.f (PST_STAT_STATE 0) = 0 ∧
    demo.f (CC_STAT_STATE 0) = 1 ∧ State.reset.f (CC_STAT_STATE 0) ≠ 1 ∧
    (∀ typ ∈ [ 3, 4, 9, 6], arrives ((holds 0 (nqCmdOf 1)).send (toCore0 typ 0 [])) typ
      (fun p u => (u.portStops p 0).isNone && p.dst = 0 && p.txid = 0)) ∧
    (holds 0 (nqCmdOf 1)).findCmd 0 0 = some (nqCmdOf 1) ∧ (holds 0 (nqCmdOf 1)).epResetting 0 = false ∧ (nqCmdOf 1).op ≠ 2 ∧
    (let k := cmdOf 4 [ 2, 0, 64, 0x00020000, 0, 0x00100000, 512, 0] .issued
     arrives ((holds 0 k).send (toCore0 3 (loftAddr 0 64) [ 5])) 3 (fun p u => (u.portStops p 0).isNone && p.status = .ok) ∧
      (holds 0 k).findCmd 0 0 = some k ∧ k.op = 2 ∧ (k.endpoint 4).kind = 1 ∧ (k.endpoint 2).dev ≤ loftAddr 0 64) := by decide +kernel

def sharmCmd (op : Nat) : Cmd := cmdOf 10 [ BitVec.ofNat 32 op, 0, 0, 0, 0, 0, 0, 0] .issued

theorem wit_SheavesArmOpenAndClose : demo.armStatus 0 255 ≠ .ok ∧ (described 0 1 0x00020000).armStatus 0 0 = .ok ∧
    (described 0 1 0x00100000).armStatus 0 0 = .ok ∧
    (armed 1).f (SHF_STAT_STATE 0 0) = 1 ∧ ((armed 1).sheaf 0 0).map Sheaf.cmd = some none ∧
    ((armedBy 1 1 0x00020000 (some 0)).sheaf 0 0).map Sheaf.cmd = some (some 0) ∧ demo.f (SHF_STAT_STATE 0 0) ≠ 2 ∧
    (armed 2).f (SHF_STAT_STATE 0 0) = 2 ∧ ((armed 2).shDesc 0 0).tmo ≠ 0 ∧ ((armed 2).shDesc 0 0).toseq = false ∧
    ((armedBy 2 1 0x00100000 none).shDesc 0 0).toseq = true ∧ (holds 1024 (sharmCmd 3)).seqCmd 0 10 3 = some (sharmCmd 3) ∧
    (holds 1024 (sharmCmd 3)).f (SHF_STAT_STATE 0 0) = 0 ∧
    alone (holds 1024 (sharmCmd 3)) 1024 (sharmCmd 3) ∧ (holds 1024 (sharmCmd 4)).seqCmd 0 10 4 = some (sharmCmd 4) ∧
    (sharmCmd 3).fld 2 0 8 = 0 := by decide +kernel

/-- A sheaf packet from core 1 to root 0, and one more on the same way. -/
def segment (count txid : Nat) : Pkt := { pkt0 7 0 1 5000 with txid := txid, ccount := count, grains := [ 5] }

/-- A segment of another generation; one that ends the sheaf, one that leaves it open, one too many; a result for the sequencer. -/
theorem wit_SheafSegmentsAndResults :
    (∀ txid ∈ [ 0, 1], arrives ((armed 2).send (segment 1 txid)) 7
      (fun p u => (u.portStops p 7).isNone && p.dst - 5000 < 32 && p.gid < 256 && p.txid = txid)) ∧
    (∀ x, ((armed 2).sheaf 0 0) = some x → x.gen = 1 ∧ x.closing = false ∧ (x.take 0 (segment 1 1)).sums.get 0 0 = 1 ∧
      (x.take 0 (segment 2 1)).sums.get 0 0 = 2 ∧ (x.take 0 (segment 1 1)).void = false) ∧ ((armed 2).shDesc 0 0).count = 1 ∧
    ((armed 2).shDesc 0 0).len = 8 ∧ ((armedBy 2 2 0x00020000 none).shDesc 0 0).count = 2 ∧ imemHart ((armed 2).shDesc 0 0).dest = none ∧
    (armed 2).runStatus ((armed 2).shDesc 0 0).dest 8 = .ok ∧
    (let s := (demo.send (segment 1 1)).send (segment 1 1)
     let t := s.meshWhile (fun n => (s.pkts.any fun p => (n.wholeAt p.num).isNone) || n.wholeAt 1 != n.wholeAt 2) 100
     t.pkts.map Pkt.typ = [ 7, 7] ∧ t.pkts.map Pkt.num = [ 1, 2] ∧ (t.net.wholeAt 1).isSome = true ∧ t.net.wholeAt 1 = t.net.wholeAt 2) ∧
    ((demo.modClu 31 fun x => { x with resWait := [ (⟨0, 0, 0, .ok, Flags.zero⟩, [])] }).clu 31).resq.length < 16 := by decide +kernel

theorem wit_LandingsLinksAndPorts :
    (let m : List Word := [ 0, 0x00020000, 0, 0]
     let g : Group := ⟨0, [ m], false, []⟩
     let p : Pkt := { pkt0 5 0 1 0 with lastp := true, data := [ 7], len := 1 }
     let s := (demo.modPart 0 fun x => { x with groups := [ (0, some g)] }).send p
     arrives s 5 (fun p u => (u.portStops p 6).isNone) ∧ (s.part 0).groups.get none 0 = some g ∧ (s.landing p).drop = false ∧
      (s.landing p).sts = [] ∧ s.poison = [] ∧ s.runStatus (memberBase m) 1 = .ok ∧ imemHart (memberBase m) = none ∧
      target (memberBase m) ≠ .csr 0) ∧
    (let s := sets demo [ (FIELD_INFO_MESH_DOWN 0, 1)]; epField 0 < 16 ∧ s.meshDown (epField 0) = true) ∧
    (let s := sets demo [ (MESH_STAT_DRAIN, 1), (FIELD_THERM_TRIP 0, 1)]; s.drainField = some (epField 0) ∧ s.meshDown 0 = false) ∧
    (let s := demo.modPart 0 fun x => { x with resetting := true }; s.epResetting 0 = true ∧ s.meshDown 0 = false ∧ s.drainField = none) := by
  decide +kernel

theorem wit_ResetsAndOutages : (demo.part 0).held = true ∧ ((demo.modPart 0 fun x => { x with resetting := true }).part 0).resetting = true ∧
    (let s := sets demo [ (MESH_STAT_DRAIN, 1), (FIELD_THERM_TRIP 15, 1)]
     s.on MESH_STAT_DRAIN = true ∧ s.on (FIELD_THERM_TRIP 15) = true ∧ s.meshDown 15 = false) ∧
    (sets demo [ (MESH_STAT_DRAIN, 1), (FIELD_INFO_MESH_DOWN 15, 1)]).meshDown 15 = true := by decide +kernel

/-! ### Witnesses: sequencers, time, power and states -/

theorem wit_SequencerCommands :
    (∀ x ∈ [ (0, 1), (0, 2), (9, 1), (9, 2), (10, 1), (10, 2), (11, 1), (11, 2)],
      let k := cmdOf x.1 [ BitVec.ofNat 32 x.2, 0, 2, 0, 0, 0, 0, 0] .issued
      (holds 1024 k).seqCmd 0 x.1 x.2 = some k ∧ alone (holds 1024 k) 1024 k) ∧
    demo.startStatuses 0 (maskCores 0 2) = [] ∧ demo.startStatuses 0 (maskCores 0 1) ≠ [] ∧ (demo.hart 1).stall = none ∧ demo.poison = [] ∧
    demo.credit 1 0 + 255 < 2 ^ 32 ∧ demo.absent 1 = false ∧ demo.retiring 1 = false ∧
    ((demo.modClu 0 fun x => { x with hres := [ (0, 12, 5)] }).clu 0).hres = [ (0, 12, 5)] ∧
    (demo.modPart 0 fun x => { x with nGroups := 1 }).groupStatuses 0 2 0 [ [ 0, 0x00020000, 0, 0]] = [] ∧ demo.groupStatuses 0 2 0 [] ≠ [] ∧
    (∃ q ∈ [ pkt0 5 0 0 0], q.typ = 5 ∧ q.part = 0 ∧ q.gid = 0) ∧ (∀ q ∈ demo.pkts, ¬ (q.typ = 5 ∧ q.part = 0 ∧ q.gid = 2)) := by decide +kernel

/-- One flit in the mesh, sent by core 1. -/
def flit (fl : Flit) : State := demo.launch (demo.place 1 (0, 0)) fl

/-- Flit 0 of a state is at its port. -/
def lands (s : State) (fl : Flit) : Bool :=
  match s.flight 0 with
  | some (x, _) => x = fl
  | none => false

theorem wit_FlitsAtTheirCluster : ∀ fl ∈ [ Flit.credit 0 31 15 1, .inbox 0 0 0 0, .copy 0 ⟨0, 0, 0, 0, 0⟩, .halt 0 0, .exc 0 1],
    lands (flit fl) fl = true ∧ (arrivalRow 0 fl).2 < 32 ∧ (sets (flit fl) [ (PST_STAT_STATE 0, 3)]).f (PST_STAT_STATE 0) = 3 ∧
      lands (sets (flit fl) [ (PST_STAT_STATE 0, 3)]) fl = true ∧
      (sets (flit fl) [ (PST_STAT_STATE 0, 2)]).f (PST_STAT_STATE 0) = 2 ∧ demo.meshDown 0 = false ∧ demo.drainField ≠ some 0 ∧
      (demo.part 0).resetting = false := by
  decide +kernel

/-- Each kind of flit at a cluster that delivers; counters at their limit; an inbox word of each kind, and one refused. -/
theorem wit_CreditsMailCopiesAndReports : demo.ctrl 0 = .deliver ∧ (flit (.credit 0 0 15 1)).ctrl 0 = .deliver ∧ lands (flit (.credit 0 0 15 1)) (.credit 0 0 15 1) = true ∧
    demo.absent 0 = false ∧ demo.retiring 0 = false ∧ (sets demo [ (WN_CORE_RETIRING 0, 1)]).retiring 0 = true ∧
    (sets demo [ (CC_CRED_COUNT 0 15, 2 ^ 32 - 1)]).credit 0 15 + 1 = 2 ^ 32 ∧
    demo.inboxOf 0 0x0000010F = .credit 15 1 ∧ (∃ m, demo.inboxOf 0 0x80000001 = .mail m) ∧ demo.inboxOf 0 0x40000000 = .refused ∧
    demo.inboxOf 0 0 = .refused ∧ (demo.clu 0).mail.length < 64 ∧ ((demo.hart 1024).recs.filter fun x => x.q = 15).length < 64 := by
  refine ⟨by decide +kernel, by decide +kernel, by decide +kernel, by decide +kernel, by decide +kernel, by decide +kernel, by decide +kernel,
    by decide +kernel, ⟨1, by decide +kernel⟩, by decide +kernel, by decide +kernel, by decide +kernel, by decide +kernel⟩

theorem wit_BarriersReleaseAtExpect : demo.f (SEQ_BAR_EXPECT 0 0) < 128 ∧
    (∀ x ∈ [ (0, 0), (1, 0), (2, 0), (127, 126)], let s := sets demo [ (SEQ_BAR_EXPECT 0 7, x.1), (SEQ_BAR_ARRIVED 0 7, x.2)]
      s.f (SEQ_BAR_EXPECT 0 7) = x.1 ∧ s.f (SEQ_BAR_ARRIVED 0 7) = x.2) ∧
    lands (flit (.inbox 0 0 0x40000007 0)) (.inbox 0 0 0x40000007 0) = true ∧ demo.ctrl 0 = .deliver ∧
    (sets demo [ (SEQ_BAR_EXPECT 0 7, 1)]).inboxOf 0 0x40000007 = .arrive 7 := by decide +kernel

theorem wit_StartsTimersAndBuckets : State.reset.f (CC_STAT_STATE 1024) ≠ 1 ∧ demo.f (CC_STAT_STATE 1024) = 1 ∧
    (sets demo [ (CC_WDOG_PERIOD_US 0, 1)]).f (CC_WDOG_PERIOD_US 0) ≠ 0 ∧ demo.f (PST_STAT_STATE 0) = 0 ∧
    ((demo.modHart 0 fun x => { x with ihold := [⟨imemAddr 0 0, [ 1], 0, .none⟩] }).hart 0).ihold = [⟨imemAddr 0 0, [ 1], 0, .none⟩] ∧
    (let s := demo.modHart 0 fun x => { x with stall := some (.waitt (.core 0) 0 2 0) }
     (s.hart 0).stall = some (.waitt (.core 0) 0 2 0) ∧ (Instr.waitt (.core 0) 0 2 0).wf = true ∧
      ready (s.modHart 0 fun x => { x with stall := none }) 0 ∧ unres s 0 [ 2, 3] ∧ s.copyU 0 < 2 ^ 64) ∧
    (∀ q < 16, (demo.vport (16 * 127 + q)).queue = []) ∧
    (let s := demo.setVport 3 ⟨0, [ .halt 0 0]⟩
     (s.vport 3).queue = [ .halt 0 0] ∧ (∀ q < 16, q ≠ 3 → (s.vport q).queue = []) ∧ s.portShut 3 = false ∧ 0 < Store.get 2 s.rbucket 0) := by
  unfold ready unres; decide +kernel

/-- A beacon sent and not yet heard by unit 0; a first one and a later one. -/
def beaconOut (valid : Nat) : State :=
  sets { demo with tim := { Tim.reset with bSeq := 1, bT := 1000 * nsU } } [ (TIME_ERR_VALID 0, valid)]

theorem wit_BeaconsAndKeepers : (beaconOut 0).heardOf 0 < (beaconOut 0).tim.bSeq ∧ 0 ∉ (beaconOut 0).tim.stale ∧
    (beaconOut 0).f (TIME_ERR_VALID 0) = 0 ∧ (beaconOut 1).f (TIME_ERR_VALID 0) ≠ 0 ∧ (beaconOut 1).partOf 0 ≠ 0xFF ∧
    (beaconOut 0).heardOf 35 < (beaconOut 0).tim.bSeq ∧ demo.f (CLK_STAT_SRC 0) = 0 ∧ demo.f (PST_STAT_STATE 0) = 0 ∧
    (sets demo [ (CLK_STAT_SRC 31, 1)]).f (CLK_STAT_SRC 31) ≠ 0 ∧ demo.f TIME_STAT_WRAPSOON = 0 ∧
    ({ demo with tim := { Tim.reset with refBack := true } }.tim.refBack = true) := by decide +kernel

/-- The module hears one grandmaster, multicast, over transport 1 in domain 4. -/
def hearing (l : List (Fd × Nat)) : State :=
  let g : Announce := ⟨128, 6, 0x21, 0x4E5D, 128, 7, 0, 0⟩
  sets { demo with tim := { Tim.reset with gm := some g, foreign := [ g], ptpUp := true, twoStep := some (3, 0) } }
    ([ (PTP_CFG_EN, 1), (PTP_CFG_DOMAIN, 4), (PTP_CFG_TRANSPORT, 1)] ++ l)

/-- PTP from a grandmaster, multicast and unicast, in both delay mechanisms; a first lock, a step and a trim of either sign; and the
pulse. -/
theorem wit_SourcesOfTime :
    (let s := hearing [ (ETH_STAT_UP, 1), (MOD_PINS_PPSIN, 1)]
     s.ptpHears ⟨4, 1, [], 7⟩ = true ∧ s.fromGm 7 = true ∧ s.tim.twoStep = some (3, 0) ∧ s.f PTP_CFG_P2P = 0 ∧ s.tim.ptpUp = true ∧
      s.f MOD_PINS_PPSIN ≠ 0 ∧ { s with eth := { s.eth with masters := [ [ 10, 0, 0, 1]] } }.ptpHears ⟨4, 1, [ 10, 0, 0, 1], 7⟩ = true) ∧
    (let s := hearing [ (PTP_CFG_P2P, 1), (ETH_STAT_UP, 1)]; s.ptpHears ⟨4, 1, [], 7⟩ = true ∧ s.f PTP_CFG_P2P ≠ 0 ∧ s.f ETH_STAT_UP ≠ 0) ∧
    (demo.f PTP_CFG_EN = 0 ∧ 5 ≠ (hearing []).f PTP_CFG_DOMAIN ∧ 0 ≠ (hearing []).f PTP_CFG_TRANSPORT) ∧
    (let s := hearing []
     let u := s.modTim fun x => { x with locked := true }
     (s.ptpApply 0 0).f TIME_STAT_SRC = 3 ∧ s.tim.locked = false ∧ (((0 + s.tim.delay - ((0 : Nat) : Int)) / nsU).toNat < 2 ^ 48 * 1000000000) ∧
      u.tim.locked = true ∧ ((u.epoch * nsU + (1000000 * nsU + 1) : Nat) : Int) - 0 - u.tim.delay = 1000000 * nsU + 1 ∧
      u.bestSrc = 3) ∧
    (demo.ptpApply 0 0).f TIME_STAT_SRC ≠ 3 ∧
    (let s := { demo with tim := { Tim.reset with todNext := some (5, 999999999), ppsOutAt := some 4 } }
     s.tim.todNext = some (5, 999999999) ∧ s.now / nsU ≤ 5 * 1000000000 + 999999999 ∧ s.tim.ppsOutAt = some 4) ∧
    demo.tim.todNext = none ∧
    (let s := { sets demo [ (MOD_PINS_PPSIN, 1)] with tim := { Tim.reset with todSet := true } }; s.bestSrc = 2) := by decide +kernel

/-- A module that follows its parent over link 3, its cores in RUN or not, and whose neighbours have sent keys. -/
def following (l : List (Fd × Nat)) : State :=
  let k (h : Nat) : OLink := { OLink.reset with keyClass := 0, keySys := 1, keyHops := h, keyValid := true }
  sets { demo with olinks := [ (3, k 1), (4, k 0)], boot := { Boot.reset with system := (2, 1, 1) }, dtime := 16 * nsU }
    ([ (OCT_LSTAT_UP 3, 1), (OCT_SYS_PARENT, 3), (TIME_STAT_SRC, 4)] ++ l)

theorem wit_TimeAcrossModules :
    (let s := following []
     s.f (OCT_LSTAT_UP 3) ≠ 0 ∧ s.f OCT_SYS_PARENT = 3 ∧ s.f TIME_STAT_SRC = 4 ∧ s.dieTime 0 = 16 * nsU ∧ (s.olink 3).t1 = 0 ∧
      s.partsRun = true ∧ s.inSystem = true ∧ s.keyLinks = [ 3, 4] ∧ s.bestKey ≠ s.ownKey ∧ s.parentLink s.bestKey = some 4 ∧
      s.f OCT_SYS_PARENT ≠ 15) ∧
    (let s := following [ (CC_STAT_STATE 0, 0), (CC_STAT_STATE 1024, 0)]; s.partsRun = false) ∧
    (((32 * nsU : Nat) : Int) - 0 - (16 * nsU - 0)) / 2 = 8 * nsU ∧ (((32 * nsU + 2 : Nat) : Int) - 0 - (16 * nsU - 0)) / 2 = 8 * nsU + 1 ∧
    (((0 : Nat) : Int) - 0 - (16 * nsU + 2 - 0)) / 2 = -(8 * nsU + 1) ∧
    (sets demo [ (OCT_SYS_PARENT, 15)]).f OCT_SYS_PARENT = 15 ∧ (following [ (TIME_STAT_SRC, 0)]).f TIME_STAT_SRC ≠ 4 ∧
    (let s := { demo with boot := { Boot.reset with system := (2, 1, 1) } }; s.inSystem = true ∧ s.bestKey = s.ownKey) := by decide +kernel

/-- A cluster at 1,000 MHz in each of the states the clauses name: stretched 17 times and 16, the step 2 µs after the last, a raise at
the ceiling and one above it. -/
theorem wit_ClocksAndCrossings :
    (let s := sets demo [ (CLK_STAT_F_MHZ 31, 1000)]
     s.cluRuns 31 = true ∧ s.f (CLK_STAT_SRC 31) = 0 ∧ s.f (CLK_STAT_ALERT 31) = 0 ∧ s.f (CLK_STAT_GLIDE 31) = 0 ∧
      800 < s.f (CLK_STAT_F_MHZ 31) ∧ s.mayGlide 31 = true ∧ 1000 ≤ s.topPoint 31 ∧ ¬ (16 < (s.clu 31).stretchN ∨ (s.clu 31).forceDue = true)) ∧
    (let s := { (demo.modClu 31 fun x => { x with glideAt := 1, stretchN := 17 }) with dtime := 2000 * nsU + 1 }
     s.mayGlide 31 = true ∧ 16 < (s.clu 31).stretchN ∧ { s with dtime := 2000 * nsU }.mayGlide 31 = false) ∧
    (sets demo [ (CLK_STAT_F_MHZ 31, 1000), (CLK_CTL_FLIM_MHZ 31, 975)]).topPoint 31 < 1000 ∧
    (let s := (sets demo [ (CLK_STAT_F_MHZ 31, 1000)]).modClu 31 fun x => { x with highN := 63, stretchN := 16 }
     (s.clu 31).stretchN ≤ 16 ∧ s.mayGlide 31 = true ∧ 1000 + 25 ≤ s.topPoint 31 ∧ 63 ≤ (s.clu 31).highN ∧ s.f (REG_VT_RAISING 31) = 0) ∧
    (let s := (sets demo [ (CLK_STAT_GLIDE 0, 1), (CLK_STAT_F_MHZ 0, 1000)]).modClu 0 fun x => { x with glideTo := 1000 }
     s.f (CLK_STAT_GLIDE 0) ≠ 0 ∧ s.f (CLK_STAT_ALERT 0) = 0 ∧ s.f (CLK_STAT_F_MHZ 0) ≤ (s.clu 0).glideTo ∧
      ((s.modClu 0 fun x => { x with glideTo := 975 }).clu 0).glideTo < s.f (CLK_STAT_F_MHZ 0)) ∧
    (let s := (sets demo [ (CLK_STAT_GLIDE 0, 1), (CLK_STAT_ALERT 0, 1), (PWR_ALERT_ASSERTED, 1)]).modClu 0 fun x => { x with mainMHz := 825 }
     s.f (CLK_STAT_ALERT 0) ≠ 0 ∧ s.f PWR_ALERT_ASSERTED ≠ 0 ∧ max 800 ((s.clu 0).mainMHz - 25) = 800) ∧
    (let s := (sets demo [ (CLK_STAT_GLIDE 0, 1), (CLK_STAT_ALERT 0, 1), (CLK_CTL_FLIM_MHZ 0, 1000)]).modClu 0 fun x => { x with mainMHz := 1025 }
     s.f PWR_ALERT_ASSERTED = 0 ∧ max 800 ((s.clu 0).mainMHz - 25) ≤ max 800 (s.topPoint 0) ∧
      max 800 ((s.setF (CLK_CTL_FLIM_MHZ 0) 975).topPoint 0) < max 800 ((s.clu 0).mainMHz - 25)) ∧
    (let s := (sets demo [ (REG_VT_RAISING 0, 1)]).modClu 0 fun x => { x with raiseTo := demo.topPoint 0 }
     s.f (REG_VT_RAISING 0) ≠ 0 ∧ (s.clu 0).raiseTo ≤ s.topPoint 0 ∧ s.mayGlide 0 = true ∧
      (s.setF (CLK_STAT_GLIDE 0) 1).mayGlide 0 = false ∧ (s.setF (CLK_CTL_FLIM_MHZ 0) 800).topPoint 0 < (s.clu 0).raiseTo) ∧
    ({ demo with tim := { Tim.reset with slips := [ (3, 4, 0)] } }.tim.slips.find? (fun y => y.1 = 3 ∧ y.2.1 = 4) = some (3, 4, 0)) := by
  decide +kernel

theorem wit_WindowsAndHints : demo.f (KN_STAT_NOTICES 31) + 1 < 256 ∧ demo.f (KN_STAT_SHORT 31) + 1 < 256 ∧ demo.liveKettle 31 = [] ∧
    ((demo.modClu 0 fun x => { x with notices := [⟨1, 2, 0⟩] }).clu 0).notices = [⟨1, 2, 0⟩] ∧
    ((demo.modClu 31 fun x => { x with notices := [⟨0, 0, 0⟩] }).clu 31).notices = [⟨0, 0, 0⟩] ∧
    ((demo.modFld 15 fun x => { x with notices := [ (30, ⟨1, 2, 0⟩)] }).fld 15).notices = [ (30, ⟨1, 2, 0⟩)] ∧
    ((demo.modFld 15 fun x => { x with raised := [ (30, ⟨1, 2, 0⟩)] }).fld 15).raised ≠ [] ∧
    (∃ k ∈ (demo.modClu 0 fun x => { x with kettle := [⟨1, 2, 0⟩] }).liveKettle 0, demo.copyU 0 < k.start) ∧
    (demo.fld 15).raised = [] ∧ demo.f (VPM_FSTAT_HINT 15) = 0 ∧ (sets demo [ (VPM_FSTAT_HINT 15, 1)]).f (VPM_FSTAT_HINT 15) ≠ 0 := by
  decide +kernel

/-- Slices, overcurrent, the alert and the telemetry ring, at the boundary values of their conditions. -/
theorem wit_SupplySensingAndOvercurrent : (demo.fld 0).senseLost = false ∧ ((demo.modFld 0 fun x => { x with steerMv := 1040 }).fld 0).steerMv = 1040 ∧
    (demo.fld 0).raised = [] ∧ demo.f PWR_ALERT_ASSERTED = 0 ∧ demo.f (CLK_STAT_ALERT 0) = 0 ∧ demo.f (CLK_STAT_SRC 0) = 0 ∧
    demo.f (PST_STAT_STATE 0) < 2 ∧ (sets demo [ (PST_STAT_STATE 31, 3)]).f (PST_STAT_STATE 31) = 3 ∧
    (let s := sets demo [ (REG_STAT_SLICE_OK 0, 0xFFFF), (REG_STAT_FAILED 0, 3)]
     s.f (REG_STAT_SLICE_OK 0) / 2 ^ 15 % 2 = 1 ∧ s.f (REG_STAT_FAILED 0) < 4 ∧ s.f (REG_STAT_DARK 0) = 0) ∧
    (sets demo [ (REG_STAT_FAILED 0, 4)]).f (REG_STAT_FAILED 0) = 4 ∧ (sets demo [ (REG_STAT_LPM 0, 1)]).f (REG_STAT_LPM 0) ≠ 0 ∧
    (let s := (sets demo [ (PWR_ALERT_ASSERTED, 1), (CLK_STAT_ALERT 0, 1)]).modClu 0 fun x => { x with mainMHz := demo.topPoint 0 }
     s.f PWR_ALERT_ASSERTED ≠ 0 ∧ s.vpm.uv = false ∧ (∀ g < 16, (s.fld g).senseLost = false) ∧ s.f (CLK_STAT_ALERT 0) ≠ 0 ∧
      max 800 (s.clu 0).mainMHz ≤ max 800 (s.topPoint 0) ∧ s.f (CLK_STAT_ALERT 1) = 0 ∧
      max 800 ((s.setF (CLK_CTL_FLIM_MHZ 0) 800).topPoint 0) < max 800 (s.clu 0).mainMHz) ∧
    demo.f (REG_STAT_OCGATE 0) = 0 ∧ demo.f (REG_STAT_OCHELD 0) = 0 ∧ (demo.clu 0).overN = 0 ∧ (demo.clu 0).trips = [] ∧
    (let s := sets (demo.modClu 0 fun x => { x with overN := 1, trips := [ 0, 1] }) [ (REG_STAT_OCGATE 0, 1), (REG_OC_LIMIT_A 0, 384)]
     1 ≤ (s.clu 0).overN ∧ s.f (REG_STAT_OCGATE 0) ≠ 0 ∧ 2 * 191 < s.f (REG_OC_LIMIT_A 0) ∧ s.f (REG_OC_LIMIT_A 0) < 385 ∧
      2 ≤ ((s.clu 0).trips.filter fun x => s.dtime ≤ x + 100000000 * nsU).length) ∧
    (sets demo [ (REG_STAT_OCHELD 0, 1)]).f (REG_STAT_OCHELD 0) ≠ 0 ∧ demo.f TEL_RING1_FRAMES = 0 ∧
    (let s := sets (sets demo stacksOn) [ (TEL_RING1_FRAMES, 1)]
     s.f TEL_RING1_FRAMES ≠ 0 ∧ s.runStatus (devAddr 0 (0 + 2 ^ 32 * 0 + 2048 * (0 % 1))) 1856 = .ok) ∧
    demo.f KW_STAT_STATE ≠ 2 ∧ demo.poison = [] ∧ (sets demo [ (KW_STAT_STATE, 2)]).f KW_STAT_STATE = 2 := by decide +kernel

/-- A cluster of no partition in each state; tickets awaited, granted at the ninth check and refused; alarms of every state. -/
theorem wit_ClusterStatesAndWakes :
    (let s := sets demo [ (PST_TMR_STEEP_US 31, 1)]; s.f (PST_STAT_STATE 31) = 0 ∧ s.f (PST_TMR_STEEP_US 31) ≠ 0 ∧ s.cluIdle 31 = true) ∧
    (let s := sets demo [ (PST_STAT_STATE 31, 1), (PST_TMR_REST_MS 31, 1)]
     s.f (PST_STAT_STATE 31) = 1 ∧ s.f (PST_TMR_REST_MS 31) ≠ 0 ∧ (s.clu 31).offWant = false ∧ (s.clu 31).restWant = false) ∧
    demo.cluIdle 0 = false ∧ demo.partOf 0 ≠ 0xFF ∧ demo.partOf 31 = 0xFF ∧ (sets demo [ (CC_STAT_STATE 992, 1)]).cluIdle 31 = false ∧
    (let s := sets demo [ (PST_STAT_STATE 31, 3), (PST_STAT_CAUSE 31, 0)]
     s.f (PST_STAT_CAUSE 31) = 0 ∧ (s.clu 31).wake = 0 ∧ s.f (REG_STAT_DARK 31) = 0 ∧ s.f (FIELD_THERM_TRIP 15) = 0 ∧
      (s.clu 31).capParked = false ∧ (s.clu 31).heatParked = false ∧ s.f (PST_STAT_STATE 31) = 3) ∧
    (let s := (sets demo [ (PST_STAT_STATE 31, 2)]).modClu 31 fun x => { x with wake := 1, refusals := 8 }
     (s.clu 31).wake = 1 ∧ 8 ≤ (s.clu 31).refusals ∧ s.f PWR_ALERT_ASSERTED = 0 ∧ s.vpm.govOff = false ∧
      s.f (PST_STAT_STATE (neighbour 31)) = 0 ∧ ((s.modClu 31 fun x => { x with refusals := 7 }).clu 31).refusals < 8) ∧
    (sets demo [ (PWR_ALERT_ASSERTED, 1)]).f PWR_ALERT_ASSERTED ≠ 0 ∧ { demo with vpm := { demo.vpm with govOff := true } }.vpm.govOff = true ∧
    (sets demo [ (PWR_WAKE_FIELD_A 15, 150), (PWR_WAKE_RESERVE_A 15, 150)]).admits 15 = true ∧
    (sets demo [ (PWR_WAKE_FIELD_A 15, 149), (PWR_WAKE_RESERVE_A 15, 150)]).admits 15 = false ∧
    (let s := (sets demo [ (PST_STAT_STATE 31, 2)]).modClu 31 fun x => { x with wake := 2 }
     (s.clu 31).wake = 2 ∧ s.f (PST_STAT_STATE 31) = 2) ∧
    (sets demo [ (PST_STAT_THROTTLED 31, 1)]).f (PST_STAT_THROTTLED 31) ≠ 0 ∧
    (sets demo [ (CLK_STAT_SRC 31, 1)]).f (CLK_STAT_SRC 31) ≠ 0 ∧
    (∀ st ∈ [ 0, 1, 2, 3], let s := sets (holds 1024 (cmdOf 11 [ 0x101, 0, 0, 0, 0, 0, 0, 0] .waiting)) [ (PST_STAT_STATE 0, st)]
      (s.alarmTime 0).isSome = true ∧ s.f (PST_STAT_STATE 0) = st ∧ (s.clu 0).wake = 0) := by decide +kernel

theorem wit_CapHeatAndMemories : demo.vpm.govOff = false ∧ { demo with vpm := { demo.vpm with govOff := true } }.vpm.govOff = true ∧
    demo.capOrder.Perm [ 0, 1, 2] ∧ (sets demo [ (FIELD_INFO_STACK_A_OK 0, 1)]).stackOk 0 = true ∧
    demo.f CAP_FLOOR0_LINK_W + demo.f CAP_FLOOR0_MEM_W + demo.f CAP_FLOOR1_CMP_W ≤ demo.f DEV_PLIMIT_PSET_W ∧
    (sets demo [ (CAP_FLOOR0_LINK_W, 1), (DEV_PLIMIT_PSET_W, 0)]).f DEV_PLIMIT_PSET_W < 1 ∧
    ((demo.modClu 31 fun x => { x with hotN := 10 }).clu 31).hotN = 10 ∧ (demo.clu 31).heatParked = false ∧
    demo.f (PST_STAT_STATE 31) ≠ 3 ∧ ((demo.modFld 15 fun x => { x with tripN := 1 }).fld 15).tripN = 1 ∧ demo.f BOOT_STAT_STEP = 0 ∧
    (∀ g < 16, demo.f (FIELD_THERM_TRIP g) = 0) ∧ (sets demo [ (GRN_SCRUB_PASS_MS 31, 1)]).f (GRN_SCRUB_PASS_MS 31) ≠ 0 ∧
    demo.f (GRN_STAT_ABSENT 31) = 0 := by decide +kernel

/-! ### Witnesses: starts, winnow, audits, barn, ports -/

/-- Each step and keep-warm state. That an image passes its checks rests on functions the model leaves open (log entry 11): no closed
state shows it. -/
theorem wit_StartsAndKeepWarm :
    (let s := sets { demo with vpm := { demo.vpm with good := true } } [ (I3C_CFG_CMD, 1), (EV_ALARM_PENDING, 1)]
     s.vpm.good = true ∧ s.f BOOT_STAT_STEP = 0 ∧ s.f KW_STAT_STATE = 0 ∧ s.f I3C_CFG_CMD ≠ 0 ∧ s.f EV_ALARM_PENDING = 1) ∧
    State.reset.vpm.good = false ∧ State.reset.vpm.resetLow = false ∧
    { demo with vpm := { demo.vpm with resetLow := true } }.vpm.resetLow = true ∧
    (let s := sets { demo with boot := { Boot.reset with romOk := [ 0, 3] } } [ (BOOT_STAT_STEP, 1)]
     s.f BOOT_STAT_STEP = 1 ∧ s.boot.claim = none ∧ s.boot.halted = false ∧ 3 ∈ s.boot.romOk ∧ s.vpm.warnLow = false ∧
      { s with vpm := { s.vpm with warnLow := true } }.vpm.warnLow = true) ∧
    ((sets demo [ (BOOT_STAT_STEP, 9)]).f BOOT_STAT_STEP = 9 ∧ 10 ∈ testers 1) ∧ (sets demo [ (BOOT_STAT_STEP, 13)]).f BOOT_STAT_STEP = 13 ∧ demo.f KW_STAT_STATE = 0 ∧
    (let s := sets demo [ (KW_STAT_STATE, 3), (BOOT_STAT_WARM, 1)]
     s.f KW_STAT_STATE = 3 ∧ s.f BOOT_STAT_WARM ≠ 0 ∧ s.f BOOT_IMGH_VALID = 0) ∧
    (let s := sets demo [ (BOOT_STAT_READY, 1), (BARN_STAT_STATE, 2)]
     s.f BOOT_STAT_READY ≠ 0 ∧ s.f BARN_STAT_STATE = 2 ∧ s.boot.manDone = false) ∧
    (let s := sets { demo with vpm := { demo.vpm with devAbort := true } } [ (KW_STAT_STATE, 1)]
     s.vpm.devAbort = true ∧ s.f KW_STAT_STATE = 1 ∧ s.boot.restart = 0) ∧
    (let s := sets { demo with vpm := { demo.vpm with good := true } } [ (KW_STAT_STATE, 2), (MOD_PINS_PWRWARN, 1), (KW_CTL_AUTO, 1),
       (I3C_CFG_CMD, 1)]
     s.f KW_STAT_STATE = 2 ∧ s.vpm.warnLow = false ∧ s.f MOD_PINS_PWRWARN ≠ 0 ∧ s.vpm.good = true ∧ s.f I3C_CFG_CMD ≠ 0 ∧
      s.f KW_CTL_AUTO ≠ 0 ∧ s.vpm.uv = false) ∧
    { demo with vpm := { demo.vpm with warnLow := true } }.vpm.warnLow = true ∧
    (let s := sets { demo with boot := { Boot.reset with claim := some 0 } } [ (BOOT_STAT_STEP, 4)]
     4 ≤ s.f BOOT_STAT_STEP ∧ s.f BOOT_STAT_STEP ≤ 8 ∧ s.f KW_STAT_STATE ≠ 2 ∧ s.boot.claim.isSome = true ∧ s.f BOOT_STAT_WARM = 0 ∧
      s.boot.halted = false ∧ s.f (CDIE_ID_HELD (s.f BOOT_STAT_MASTER)) = 0 ∧ (verify s.eth.flash s.boot true true).1 ≠ 0) ∧
    (coreFor (fun p => p = 0) 0 = some 32 ∧ coreFor (fun p => p = 0) 31 = some 31) := by decide +kernel

/-- A sample of core 1's passes in slot W of core 0, copied over or not, run by the witness or not, and in classification. -/
def sampled (landed : Nat) (wit : Option Flags) (third : Bool) : State :=
  let x : Sample := ⟨1, 0, 2, [], 0, 0, [], [], ⟨1, 6, [], []⟩, [], Flags.zero, landed⟩
  let s := (demo.modHart 0 fun y => { y with slotW := some x, witFlags := wit }).modHart 1 fun y => { y with slotO := some x }
  if third then s.modHart 2 fun y => { y with slotC := some x } else s

theorem wit_WinnowAndGlean : ((sampled 0 none false).hart 0).slotW.map (fun x => (x.wit, x.src, x.third, x.landed)) = some (0, 1, 2, 0) ∧
    ((sampled 0 none false).hart 1).slotO = ((sampled 0 none false).hart 0).slotW ∧ ((sampled 5 none false).hart 0).witRows = [] ∧
    (((sampled 5 (some Flags.zero) false).modHart 0 fun y => { y with witRows := [ 1] }).hart 0).witRows ≠ [] ∧ ((sampled 0 none false).hart 1).slotO.isSome = true ∧
    ((sampled 5 none false).hart 0).witFlags = none ∧ (sampled 5 none false).classifying 0 = false ∧ (sampled 5 none false).wnIdle 0 = true ∧
    ((sampled 5 (some Flags.zero) false).hart 0).witFlags = some Flags.zero ∧ (sampled 5 (some Flags.zero) false).classifying 0 = false ∧
    ((sampled 5 (some Flags.zero) false).hart 2).slotC = none ∧ (sampled 5 (some Flags.zero) true).classifying 0 = true ∧
    (sets demo [ (WN_CFG_AUTOABORT (partCsr 0), 0)]).f (WN_CFG_AUTOABORT (partCsr 0)) = 0 ∧ (demo.part 0).held = true ∧ demo.absent 1023 = false ∧ demo.retiring 1023 = false ∧
    (let s := sets demo [ (WN_CORE_RETIRING 1023, 1)]
     s.retiring 1023 = true ∧ (s.hart 1023).remap = none ∧ s.cluIdle 31 = true ∧ (s.hart 1023).cmds = []) ∧
    (demo.modHart 0 fun x => { x with remap := some 0 }).remapping 0 = true ∧
    demo.spare 31 = some 32 ∧ demo.spareCols 1023 = some (127, 127) ∧ (127, 127) ≠ (127, 0) ∧
    { demo with boot := { Boot.reset with badTest := [ (31, 32), (31, 33), (31, 34), (31, 35)] } }.spare 31 = none ∧
    ((demo.modHart 0 fun x => { x with charges := [ 9] }).hart 0).charges = [ 9] ∧
    (let s := sets { demo with boot := { Boot.reset with packKernels := 1 } } [ (WN_CFG_GLEAN (partCsr 0), 1), (CC_STAT_STATE 0, 0), (CC_STAT_STATE 1024, 0)]
     s.gleanReady 31 = true) ∧
    ((demo.modHart 0 fun x => { x with gleanEnd := some 3 }).hart 0).gleanEnd = some 3 := by decide +kernel

theorem wit_AbortsAndAudits : (demo.part 0).held = true ∧ demo.f (PART_STAT_ABORT (partCsr 0)) = 0 ∧
    (sets demo [ (PART_STAT_ABORT (partCsr 31), 1)]).f (PART_STAT_ABORT (partCsr 31)) = 1 ∧ (demo.part 0).auditAt = 0 ∧
    (let s := sets demo [ (PART_STAT_AUDIT (partCsr 0), 1)]
     s.f (PART_STAT_AUDIT (partCsr 0)) = 1 ∧ s.quiet 0 = false) ∧
    (let s := sets demo [ (PART_STAT_AUDIT (partCsr 0), 1), (CC_STAT_STATE 0, 0), (CC_STAT_STATE 1024, 0)]
     s.quiet 0 = true ∧ (s.auditRead 0).auditItem 0 = none ∧ ((s.ledgerAdd 0 lSent 1).auditRead 0).auditItem 0 = some 0) ∧
    (sets demo [ (LEDGER_STAT_RESULT, 1)]).f LEDGER_STAT_RESULT = 1 := by decide +kernel

/-- A barn in service with one channel of one bale in state `st`, partition 0's, and the command `op` on it in slot 0 of cluster 0. -/
def baleOp (op : Nat) : BarnOp :=
  ⟨false, 0, 0, [ BitVec.ofNat 32 op, 7, 0, 0, 0, 0, if op = 1 ∨ op = 2 ∨ op = 3 then 1 else 0, 0]⟩
def barn (op st : Nat) : State :=
  sets { (demo.modPart 0 fun x => { x with hbm := [ (0, 0xFFFF)] }) with
    barn := { Barn.reset with ops := [ baleOp op], bales := if op = 3 then [] else [⟨7, 1, 0, false, st, 0, [], [ 0], [], []⟩],
                              blocks := [⟨0, 0, 0, 1, 0, 0, 0, 0⟩, ⟨0, 0, 1, 1, 0, 0, 0, 0⟩, ⟨0, 0, 2, 1, 0, 0, 0, 0⟩],
                              pages := [ (0, 100)], cwords := [ (0, 4)] } }
    [ (BARN_STAT_STATE, 2), (BARN_CH_STATE 0, 2), (FIELD_INFO_STACK_A_OK 0, 1)]

theorem wit_BarnCommandsAndBackground :
    (∀ op ∈ [ 1, 2, 3, 4, 5, 6], (barn op 0).posted false 0 0 op = some (baleOp op) ∧ (barn op 0).barn.autoload = []) ∧
    (∀ op ∈ [ 1, 2, 3, 4, 5, 6], (sets (barn op 0) [ (BARN_STAT_STATE, 1)]).barnStatus (baleOp op) = some .state) ∧
    (barn 1 1).barnStatus (baleOp 1) = none ∧ (barn 2 0).barnStatus (baleOp 2) = none ∧ (barn 4 0).barnStatus (baleOp 4) = none ∧
    (barn 4 3).barnStatus (baleOp 4) = none ∧ (barn 5 1).barnStatus (baleOp 5) = none ∧ (barn 6 1).barnStatus (baleOp 6) = none ∧
    (∀ st ∈ [ 0, 3], ((barn 4 st).findBale 7).map Bale.state = some st) ∧ (barn 4 0).opsOn 2 7 (baleOp 4) = false ∧
    (let s := barn 4 0; { s with barn := { s.barn with ops := s.barn.ops ++ [ baleOp 2] } }.opsOn 2 7 (baleOp 4) = true) ∧
    (barn 1 1).barn.ops.find? (fun x => x.host = false && (false || x.clu = 0) && x.slot = 0) = some (baleOp 1) ∧
    (barn 1 1).unitLost ⟨7, 1, 0, false, 1, 0, [], [ 0], [], []⟩ [] 0 = false ∧ (barn 2 0).poisoned (devAddr 0 0) 4096 = false ∧
    (let s := barn 1 1; let s := { s with barn := { s.barn with blocks := [⟨0, 0, 1, 2, 0, 7, 0, 0⟩, ⟨0, 0, 2, 4, 0, 0, 0, 0⟩] } }
     (s.findBlock 0 0 1).map Block.term = some 2 ∧ (s.findBlock 0 0 2).map Block.term = some 4 ∧ s.barnWorks = true ∧
      (∀ x ∈ s.barn.blocks, x.named 0 0 1 = true → x = ⟨0, 0, 1, 2, 0, 7, 0, 0⟩) ∧ (∀ b ∈ s.barn.blocks, 1 ≤ b.term ∧ b.term ≤ 4)) ∧
    (barn 1 1).f BARN_STAT_STATE = 2 ∧ (barn 1 1).barn.records < 65536 ∧ ((barn 1 1).findBale 7).isSome = true ∧ (barn 1 1).poisoned (devAddr 0 0) 4096 = false ∧
    ((barn 1 1).findBlock 0 0 2).isSome = true ∧ (barn 1 1).barnWorks = true ∧ demo.f BARN_STAT_STATE < 2 ∧
    (sets demo [ (BARN_STAT_REBUILD, 1)]).f BARN_STAT_REBUILD ≠ 0 ∧
    (sets demo [ (BARN_STAT_STATE, 1)]).f BARN_STAT_STATE = 1 ∧ demo.barn.formatted = false := by decide +kernel

/-- A session at sequence number 3. That an OPEN's signature holds rests on functions the model leaves open (log entry 11). -/
def talking (l : List (Fd × Nat)) : State :=
  sets { demo with eth := { Eth.reset with sessions := [⟨9, 3, [ 0], 0, 0, false, 1, []⟩], xferBy := 9, xferLen := 2 ^ 28,
                                           qps := [⟨5, 1024, 65536, false⟩], mrs := [⟨77, 0, 64, true, true⟩] } }
    ((ETH_STAT_UP, 1) :: (MOD_PINS_PWRWARN, 1) :: l)

/-- The three datagrams of an OPEN whose signature is one byte. -/
def opening : List (List Byte) :=
  ([ (0, 1400), (1, 1400), (2, 594)]).map fun x =>
    ([ 1 + 256 + 65536 * x.1 + 2 ^ 24 * 3, 0, 0, 0, x.2, 0, 0, 0]).flatMap (leBytes 4) ++ List.replicate x.2 0

/-- No session is open; the OPENs of the last second were four. -/
def opened (k : Nat) : State := let s := talking []; { s with eth := { s.eth with sessions := [], opens := List.replicate k 0 } }

theorem wit_CaddySessionsAndOperations : ((talking []).session 9).isSome = true ∧ (talking []).f ETH_STAT_UP ≠ 0 ∧
    ((talking []).session 9).map Session.seq = some 3 ∧
    ((talking [ (KW_STAT_STATE, 2), (BOOT_STAT_FAIL, 1)]).f KW_STAT_STATE = 2 ∧ (talking [ (BOOT_STAT_FAIL, 1)]).f BOOT_STAT_FAIL = 1) ∧
    csrOk 0 = true ∧ target (devAddr 15 0) = .csr 0 ∧ (talking []).devStatus (devAddr 15 0) 4 = .ok ∧
    (let s := (talking []).modPart 0 fun x => { x with resetting := true }
     target (devAddr 15 0x10010000) = .csr 0x10010000 ∧ csrOk 0x10010000 = true ∧ s.devStatus (devAddr 15 0x10010000) 4 = .state) ∧
    target (devAddr 15 0x10030004) = .sdmem 0 4 ∧ target (devAddr 15 0x10040004) = .simem 0 4 ∧ csrOk 0x10030004 = true ∧
    (talking []).devStatus (devAddr 15 0x10030004) 4 = .ok ∧ (talking []).poisoned (devAddr 15 0x10030004) 4 = false ∧
    csrOk 0xFFFFFFFC = false ∧ csrOk 2 = false ∧ (talking []).f IMG_XFER_STATE = 0 ∧ (talking []).step18 = false ∧
    (talking [ (IMG_XFER_STATE, 1)]).f IMG_XFER_STATE = 1 ∧ (talking []).eth.xferBy = 9 ∧ (talking []).eth.xferAt = 0 ∧
    (talking []).vpm.warnLow = false ∧ (talking []).f MOD_PINS_PWRWARN ≠ 0 ∧ (talking []).f BOOT_STAT_READY = 0 ∧
    { talking [] with vpm := { (talking []).vpm with warnLow := true } }.vpm.warnLow = true ∧
    (talking [ (BOOT_STAT_READY, 1)]).f BOOT_STAT_READY ≠ 0 ∧ (talking []).eth.quotes.length < 16 ∧ (demo.part 0).held = true ∧
    (demo.part 31).held = false ∧ (∃ e ∈ (talking []).eth.qps, e.qpn = 5) ∧ (∀ e ∈ (talking []).eth.qps, e.qpn ≠ 6) ∧
    (talking []).eth.qps.length < 256 ∧ (talking []).eth.pack.length = 0 ∧ (talking [ (KW_STAT_STATE, 2)]).f KW_STAT_STATE ≠ 1 ∧
    (∃ r ∈ (talking []).eth.mrs, r.key = 77) ∧ (talking []).eth.mrs.length < 1024 ∧ (0xFFFFFFFF : Nat) + 1 ≤ 0x30000000000 ∧
    openOf [ []] = none ∧ opening ≠ [] ∧ (openOf opening).isSome = true ∧
    ((opened 3).eth.opens.filter fun t => (opened 3).dtime < t + 1000000000 * nsU).length < 4 ∧
    ¬ ((opened 4).eth.opens.filter fun t => (opened 4).dtime < t + 1000000000 * nsU).length < 4 ∧
    (∀ m, openOf opening = some m → (opened 3).openOk m = false) ∧
    (talking [ (IMG_XFER_STATE, 2)]).f IMG_XFER_STATE = 2 := by
  repeat' apply And.intro
  all_goals decide +kernel

theorem wit_FramesRingsAndHostMemory : (talking []).f ETH_STAT_UP ≠ 0 ∧ demo.f ETH_STAT_UP = 0 ∧ (talking []).eth.tagged = false ∧
    { Eth.reset with tagged := true, vid := 4094 }.vid = 4094 ∧ (talking []).f KW_STAT_STATE = 0 ∧
    (∃ x ∈ (talking []).eth.qps, x.qpn = 5 ∧ x.err = false) ∧ (¬ ∃ x ∈ (talking []).eth.qps, x.qpn = 6 ∧ x.err = false) ∧
    (∃ r ∈ (talking []).eth.mrs, r.key = 77 ∧ r.wr = true ∧ r.rd = true ∧ r.base ≤ 0 ∧ 0 + 64 ≤ r.base + r.len) ∧
    (¬ ∃ r ∈ (talking []).eth.mrs, r.key = 77 ∧ r.wr = true ∧ r.base ≤ 0 ∧ 0 + 65 ≤ r.base + r.len) ∧
    (talking stacksOn).devStatus (devAddr 0 0) 64 = .ok ∧ (talking []).devStatus (devAddr 0 0) 64 ≠ .ok ∧
    (talking []).poisoned (devAddr 0 0) 64 = false ∧ (talking []).eth.openReads 5 < 16 ∧
    16 ≤ { Eth.reset with txq := List.replicate 16 (txRoce, [ 42, 5]) }.openReads 5 ∧
    (talking []).portTaken false 65535 = false ∧ (talking []).portTaken true 65535 = false ∧
    (talking []).portTaken false ((talking []).f CADDY_STAT_PORT) = true ∧
    (let r : Ring := ⟨6000, 0, 4, 7, 4096, 0⟩
     let s := { talking stacksOn with eth := { (talking []).eth with bindings := [ r], egress := [ r] } }
     s.eth.bindings[0]? = some r ∧ s.aborting 0 = false ∧ (s.part (s.partOf 0)).resetting = false ∧ 96 + 32 ≤ 2 ^ 7 ∧
      s.devStatus 4096 128 = .ok ∧ s.poisoned 4096 128 = false ∧
      (s.f (RX_IDX_HEAD 0) + 1) % 16 ≠ (sets s [ (RX_IDX_TAIL 0, 0)]).f (RX_IDX_TAIL 0) % 16 ∧
      (sets s [ (RX_IDX_HEAD 0, 15), (RX_IDX_TAIL 0, 0)]).f (RX_IDX_HEAD 0) = 15 ∧
      s.eth.egress.find? (fun x => x.clu = 0) = some r ∧ s.f (TX_IDX_DONE 0) % 16 ≠ ((s.modClu 0 fun x => { x with txReady := 1 }).clu 0).txReady % 16 ∧
      (s.rd32 4096).toNat % 65536 ≤ 9000 ∧ 9000 < ((s.wr32 4096 9001).rd32 4096).toNat % 65536) ∧
    demo.f BOOT_STAT_MASTER = 0 ∧ demo.f (CDIE_ID_HELD 0) = 0 ∧ (sets demo [ (CDIE_ID_HELD 0, 1)]).f (CDIE_ID_HELD 0) ≠ 0 ∧
    demo.boot.inForce = false ∧ ∀ i ∈ [ 0, 1, 2], { Eth.reset with iface := i }.iface = i := by decide +kernel

/-- A module of two in a system, with a link up and a remote operation posted; a packet from the other module. -/
def remoteOf (op : Nat) : State :=
  sets { demo with boot := { Boot.reset with system := (2, 1, 1), peers := [ (0, 1, 4)] } }
    [ (OCT_LSTAT_UP 0, 1), (OX_SLOT_BUSY 0 15, 1), (OX_DESC_WORD 0 15 0, op)]
/-- A packet of type `typ` on VC 1 from module 1 and partition 4 to this module, or for module `dmod`: one byte of the granary. -/
def opktTo (typ dmod smod : Nat) : OPkt :=
  { hdr := [ BitVec.ofNat 32 (1 + 8 * typ + 65536), BitVec.ofNat 32 (dmod + 4096 * smod + 2 ^ 24 * 4), 0, 0x00010000, 0, 0x40000000, 0],
    data := [ 7] }
/-- Packet `p` at a corner die, come by link or queue `l`. -/
def atCorner (l : Nat) (p : OPkt) : State := { remoteOf 1 with octIn := [ (l, p)] }

theorem wit_OctoonLinksAndRemoteOperations : (remoteOf 1).f (OCT_LSTAT_UP 0) ≠ 0 ∧
    ((remoteOf 1).olink 0).fails + 1 < 64 ∧ (sets demo [ (OCT_LSTAT_RETRAIN 15, 1)]).f (OCT_LSTAT_RETRAIN 15) ≠ 0 ∧
    64 ≤ { OLink.reset with fails := 63 }.fails + 1 ∧ { OLink.reset with unavail := true }.unavail = true ∧
    (∀ p ∈ [ opktTo 3 0 1, opktTo 1 0 1], { OLink.reset with queue := [⟨p, 1, 0, false⟩] }.out = [ p] ∧ p.smod ≠ demo.f OCT_SYS_MODULE) ∧
    (opktTo 3 0 1).isRsp = true ∧ (opktTo 1 0 1).isRsp = false ∧
    (∀ op ∈ [ 1, 2, 3, 4], (remoteOf op).f (OX_SLOT_BUSY 0 15) ≠ 0 ∧ (remoteOf op).remote 0 15 = none ∧ ((remoteOf op).oxDesc 0 15).op = op ∧
      (remoteOf op).partOf 0 ≠ 0xFF) ∧ (remoteOf 1).oxStatus 0 ((remoteOf 1).oxDesc 0 15) = some .range ∧
    (remoteOf 4).oxStatus 0 ((remoteOf 4).oxDesc 0 15) = none ∧
    (∀ op ∈ [ 1, 2], let s := sets (remoteOf op) [ (OX_DESC_WORD 0 15 2, 0x00020000), (OX_DESC_WORD 0 15 4, 0x00020000), (OX_DESC_WORD 0 15 5, 4097)]
     s.oxStatus 0 (s.oxDesc 0 15) = none ∧ s.poisoned (s.oxDesc 0 15).loc 4097 = false) ∧
    (let s := sets (remoteOf 3) [ (OX_DESC_WORD 0 15 2, 0x00020000), (OX_DESC_WORD 0 15 5, 8), (OX_DESC_WORD 0 15 7, 0x00010000)]
     s.oxStatus 0 (s.oxDesc 0 15) = none ∧ s.poisoned (s.oxDesc 0 15).loc 8 = false) ∧
    (let s := (remoteOf 1).setRemote 0 15 (some ⟨1, 0, []⟩); (s.remote 0 15).isSome = true) ∧
    (∀ x ∈ [ (0, opktTo 1 0 1), (17, opktTo 2 0 1), (18, opktTo 1 0 1), (0, opktTo 1 1 0), (0, opktTo 3 1 1)],
      (atCorner x.1 x.2).octIn[0]? = some x ∧ octMay (atCorner x.1 x.2).octIn 0 = true ∧ (atCorner x.1 x.2).f OCT_SYS_MODULE = 0) ∧
    (let s := sets (atCorner 0 (opktTo 1 1 0)) [ (OCT_LSTAT_DIR 3, 7)]
     let s := s.modBoot fun b => { b with far := [ (3, 1)] }
     s.octBeyond (opktTo 1 1 0) = false ∧ s.octRoute 0 (opktTo 1 1 0) = some (3, false) ∧
      (s.modLink 3 fun x => { x with unavail := true }).octRoute 0 (opktTo 1 1 1) = none ∧ s.octBeyond (opktTo 1 2 0) = true) ∧
    (0, 1, 4) ∈ (remoteOf 1).boot.peers ∧ (0, 2, 4) ∉ (remoteOf 1).boot.peers ∧
    (let p := opktTo 2 0 1
     let s := atCorner 0 p
     (p.dpart, p.smod, p.spart) = (0, 1, 4) ∧ p.len = 1 ∧ target p.dev = .granary 0 0 ∧ csrRunOk p.dev p.len = true ∧
      s.runStatus p.dev p.len = .ok ∧ s.poisoned p.dev p.len = false ∧ imemHart p.dev = none ∧ p.cen = true ∧ p.ccore = 0 ∧
      s.absent 0 = false ∧ s.partOf 0 = 0 ∧ (s.part 0).resetting = false ∧ s.f (PART_STAT_ABORT (partCsr 0)) = 0 ∧
      ((s.modPart 0 fun x => { x with resetting := true }).part 0).resetting = true ∧
      s.inPart 0 p.dev p.len = true ∧ s.inPart 0 (clsBase 15 + 0x10100000) 4 = false) := by
  repeat' apply And.intro
  all_goals decide +kernel

theorem wit_RegisterWritesAndEventPath : (sets demo [ (EV_ALARM_PENDING, 1)]).f EV_ALARM_PENDING = 1 ∧
    (sets demo [ (CORE_MAP_ABSENT 1023, 1)]).absent 1023 = true ∧ demo.absent 1023 = false ∧ demo.f (CC_FSUM_SAT 1023) ≤ 1 ∧
    demo.partOf 0 = 0 ∧ (demo.part 0).held = true ∧ (demo.part 31).held = false ∧
    (let e : EvRec := ⟨0, 1, clsTrace, false, 0, 0, 0, 1, 0, 0⟩
     let g : Stage := ⟨[ e], [ e]⟩
     g.queue = [ e] ∧ oldestFirst g.table = some e) ∧
    (let e : EvRec := ⟨0, 1, clsWarning, false, 0, 0, 0, 1, 0, 0⟩
     e.cls ≠ clsTrace ∧ e.cls ≠ clsAlarm) ∧
    (let e : EvRec := ⟨0, 1, clsAlarm, false, 0, 0, 0, 1, 0, 0⟩
     let s := sets { demo with ev := { Events.reset with alarms := [ e] } } [ (EV_RINGH_SIZE (ringBase 0), 16)]
     s.ev.alarms = [ e] ∧ s.f KW_STAT_STATE ≠ 2 ∧ s.ev.vaon = [] ∧ s.ringFull (ringBase 0) clsAlarm = false ∧
      (sets s [ (KW_STAT_STATE, 2)]).f KW_STAT_STATE = 2) := by decide +kernel

/-- A register with a reset value and one of one bit. -/
theorem wit_StateAfterReset : (CLK_CTL_FLIM_MHZ 5).rst < 2 ^ (CLK_CTL_FLIM_MHZ 5).wid ∧ (CORE_MAP_ABSENT 1023).rst < 2 ^ (CORE_MAP_ABSENT 1023).wid := by
  decide

theorem wit_StepRunsFront : demo.pending = [] ∧ { demo with pending := [ .vaonRise] }.pending = [ .vaonRise] := by decide +kernel

theorem wit_MemoryKeepsItsForm : memWf { demo with mem := [ (5, 1), (9, 2)] } = true ∧
    memWf { demo with mem := [ (5, 0)] } = false ∧ memWf { demo with mem := [ (9, 1), (5, 2)] } = false := by decide +kernel

theorem wit_TcsWordsRoundTrip : (Instr.addi (.core 1023) 31 31 0xFFFF).agent = some (.core 1023) ∧
    (decodeTcs (.core 1023) 0x29200040).isSome = true := by decide +kernel

end Sys2Proof.Tests
end

section
/-!
Integer functions of the control core (R129): what each composite function of the ALU table comes to in integers.
-/

namespace Sys2Proof.Machine

@[simp] theorem word01_decide (p : Prop) [Decidable p] : word01 (decide p) = if p then 1 else 0 := by
  by_cases h : p <;> simp [word01, h]

/-- A product of two signed words is at most 2 ^ 62 in size, so its high half is a signed word. -/
theorem mulHigh_mul_toInt (a b : Word) : (mulHigh (a.toInt * b.toInt)).toInt = a.toInt * b.toInt / 2 ^ 32 := by
  have ha : a.toInt.natAbs ≤ 2 ^ 31 := by have hlo := a.le_toInt; have hhi := a.toInt_lt; omega
  have hb : b.toInt.natAbs ≤ 2 ^ 31 := by have hlo := b.le_toInt; have hhi := b.toInt_lt; omega
  have hab : (a.toInt * b.toInt).natAbs ≤ 2 ^ 31 * 2 ^ 31 := by rw [Int.natAbs_mul]; exact Nat.mul_le_mul ha hb
  rw [mulHigh, BitVec.toInt_ofInt]
  exact Int.bmod_eq_of_le (by omega) (by omega)

/-- A product of two unsigned words is below 2 ^ 64, so its high half is an unsigned word. -/
theorem mulHigh_mul_toNat (a b : Word) : (mulHigh ((a.toNat * b.toNat : Nat) : Int)).toNat = a.toNat * b.toNat / 2 ^ 32 := by
  have hab : a.toNat * b.toNat < 2 ^ 32 * 2 ^ 32 := Nat.mul_lt_mul'' a.isLt b.isLt
  rw [mulHigh, BitVec.toNat_ofInt]
  omega

/-- The leading zeros of a word that is not 0 are counted from its highest 1 bit. -/
theorem clz_spec (a : Word) : clz a ≤ 32 ∧ a.toNat < 2 ^ (32 - clz a) ∧ (clz a < 32 → 2 ^ (31 - clz a) ≤ a.toNat) := by
  by_cases h0 : a = 0
  · subst h0; decide
  · have hne : a.toNat ≠ 0 := fun h => h0 (BitVec.eq_of_toNat_eq h)
    have hlog : Nat.log2 a.toNat < 32 := (Nat.log2_lt hne).2 a.isLt
    rw [clz, if_neg h0]
    refine ⟨by omega, ?_, fun _ => ?_⟩
    · rw [show 32 - (31 - Nat.log2 a.toNat) = Nat.log2 a.toNat + 1 by omega]; exact Nat.lt_log2_self
    · rw [show 31 - (31 - Nat.log2 a.toNat) = Nat.log2 a.toNat by omega]; exact Nat.log2_self_le hne

theorem length_filter_eq_sum (p : Nat → Bool) (l : List Nat) :
    (l.filter p).length = (l.map fun i => if p i = true then 1 else 0).sum := by
  induction l with
  | nil => rfl
  | cons i l ih =>
    rw [List.map_cons, List.sum_cons, ← ih, List.filter_cons]
    split
    · rw [List.length_cons, Nat.add_comm]
    · rw [Nat.zero_add]

/-- The number of 1 bits is the sum of the binary digits. -/
theorem popc_eq_sum_digits (a : Word) : popc a = ((List.range 32).map fun i => a.toNat / 2 ^ i % 2).sum := by
  have digit (i : Nat) : (if a.getLsbD i = true then 1 else 0) = a.toNat / 2 ^ i % 2 := by
    rw [← Nat.toNat_testBit, ← BitVec.testBit_toNat]; cases a.toNat.testBit i <;> rfl
  rw [popc, length_filter_eq_sum]
  exact congrArg List.sum (List.map_congr_left fun i _ => digit i)

theorem popc_le (a : Word) : popc a ≤ 32 :=
  Nat.le_trans (List.length_filter_le _ _) (Nat.le_of_eq List.length_range)

/-! The four choices of R129 between their two operands. -/

theorem toInt_min_slt (a b : Word) : (if a.slt b then a else b).toInt = min a.toInt b.toInt := by
  simp only [BitVec.slt_eq_decide, decide_eq_true_eq, apply_ite BitVec.toInt]; split <;> omega

theorem toInt_max_slt (a b : Word) : (if a.slt b then b else a).toInt = max a.toInt b.toInt := by
  simp only [BitVec.slt_eq_decide, decide_eq_true_eq, apply_ite BitVec.toInt]; split <;> omega

theorem toNat_min_ult (a b : Word) : (if a.ult b then a else b).toNat = min a.toNat b.toNat := by
  simp only [BitVec.ult_eq_decide, decide_eq_true_eq, apply_ite BitVec.toNat]; split <;> omega

theorem toNat_max_ult (a b : Word) : (if a.ult b then b else a).toNat = max a.toNat b.toNat := by
  simp only [BitVec.ult_eq_decide, decide_eq_true_eq, apply_ite BitVec.toNat]; split <;> omega

theorem aluFnOk_iff (b : BitVec 5) (fn : BitVec 11) : aluFnOk b fn = true ↔
    fn.toNat % 32 ≤ 0x13 ∧ fn.toNat / 32 % 8 = 0 ∧ (fn.toNat % 32 ≠ 0x11 → fn.toNat / 256 = 0) ∧
      ((fn.toNat % 32 = 0x12 ∨ fn.toNat % 32 = 0x13) → b = 0) := by
  simp only [aluFnOk, Bool.and_eq_true, Bool.or_eq_true, Bool.not_eq_true', Bool.or_eq_false_iff, decide_eq_true_eq,
    decide_eq_false_iff_not]
  constructor
  · rintro ⟨⟨⟨hfield, hcode⟩, hsel⟩, hb⟩
    exact ⟨hcode, hfield, hsel.resolve_left, fun hone => hb.resolve_left fun ⟨hclz, hpopc⟩ => hone.elim hclz hpopc⟩
  · rintro ⟨hcode, hfield, hsel, hb⟩
    exact ⟨⟨⟨hfield, hcode⟩, Decidable.or_iff_not_imp_left.2 hsel⟩,
      Decidable.or_iff_not_imp_right.2 fun hb0 => not_or.1 (mt hb hb0)⟩

/-- Settles O3, function by function of the table. -/
theorem aluFunctions : Obligations.AluFunctions := by
  refine ⟨fun p a b => ⟨BitVec.toNat_add a b, ?sub, fun _ => BitVec.getLsbD_and, fun _ => BitVec.getLsbD_or,
    fun _ => BitVec.getLsbD_xor, ?shl, ?shr, ?sar, ?slt, ?sltu, BitVec.toNat_mul a b, mulHigh_mul_toInt a b,
    mulHigh_mul_toNat a b, toInt_min_slt a b, toInt_max_slt a b, toNat_min_ult a b, toNat_max_ult a b, rfl, ?clz, ?popc⟩,
    fun _ _ _ b fn => aluFnOk_iff b fn⟩
  case sub => rw [aluFn, BitVec.toNat_sub']; omega
  case shl => rw [aluFn, BitVec.toNat_shiftLeft, Nat.shiftLeft_eq]
  case shr => rw [aluFn, BitVec.toNat_ushiftRight, Nat.shiftRight_eq_div_pow]
  case sar => rw [aluFn, BitVec.toInt_sshiftRight, Int.shiftRight_eq_div_pow]; norm_cast
  case slt => rw [aluFn, BitVec.slt_eq_decide, word01_decide]
  case sltu => rw [aluFn, BitVec.ult_eq_decide, word01_decide]
  case clz =>
    have hclz := clz_spec a
    rw [aluFn, BitVec.toNat_ofNat, Nat.mod_eq_of_lt (by omega)]
    exact hclz
  case popc =>
    have hpopc := popc_le a
    show (BitVec.ofNat 32 (popc a)).toNat = _
    rw [BitVec.toNat_ofNat, Nat.mod_eq_of_lt (by omega), popc_eq_sum_digits]

end Sys2Proof.Machine
end

section
/-!
Commands, records and address-queue entries of a control core (R139–R143, R309, R310): one lemma for each outcome of `pushCmd`,
`popRec` and `strm`, what each leaves as it was, and the six instructions over them.
-/

namespace Sys2Proof.Machine

open Sys2Proof.Safety

/-! #### What a fetch leaves as it was -/

@[simp] theorem areg_fetched (s : State) (h g r : Nat) : (fetched s g).areg h r = s.areg h r := by simp [State.areg]
@[simp] theorem held_fetched (s : State) (h g q : Nat) : (fetched s g).held h q = s.held h q := by
  simp [State.held, State.qCmds, State.qRecs]
@[simp] theorem iqHeld_fetched (s : State) (h g : Nat) : (fetched s g).iqHeld h = s.iqHeld h := by simp [State.iqHeld]
@[simp] theorem aqOf_fetched (s : State) (h g m : Nat) : (fetched s g).aqOf h m = s.aqOf h m := by simp [State.aqOf]
@[simp] theorem mem_fetched (s : State) (g : Nat) : (fetched s g).mem = s.mem := by unfold fetched; split <;> rfl

/-- CC_FSUM.CLKINT begins at bit 10 of its register and CLU_INFO.PARTITION at bit 24. -/
@[simp] theorem partOf_fetched (s : State) (g c : Nat) : (fetched s g).partOf c = s.partOf c := by
  have hkey : (CLU_INFO_PARTITION c).key ≠ (CC_FSUM_CLKINT g).key := by
    simp only [Fd.key, CLU_INFO_PARTITION, CC_FSUM_CLKINT]; omega
  unfold fetched
  split
  · exact State.f_setF_ne s _ _ _ hkey
  · rfl

/-! #### Issue of an instruction that reads no predicate -/

section Issue

variable {s : State} {h : Nat} {i : Instr} {x : Tcs}

/-- `tcs_ready` for an effect that goes on; `hx` is the instruction's own meaning and holds by `rfl`. -/
theorem exec_retires {u : State} (hx : exec i s = .next (s.tcs h i x)) (hr : ready s h) (hw : i.wf = true)
    (hs : unres s h x.regs) (hp : x.preds = []) (hb : x.body (fetched s h) = .go u) : exec i s = .next (retires s h u) := by
  rw [hx, tcs_ready s h i x hr hw hs (by simp [hp, unresP]), hb]; rfl

theorem exec_waits (hx : exec i s = .next (s.tcs h i x)) (hr : ready s h) (hw : i.wf = true)
    (hs : unres s h x.regs) (hp : x.preds = []) (hb : x.body (fetched s h) = .wait) : exec i s = .next (waits s h i) := by
  rw [hx, tcs_ready s h i x hr hw hs (by simp [hp, unresP]), hb]; rfl

end Issue

theorem unres_mono {s : State} {h : Nat} {l l' : List Nat} (hl : l ⊆ l') (hu : unres s h l') : unres s h l :=
  fun r hr => hu r (hl hr)

/-! #### Pushing a command -/

theorem dmemExc_eq_none {h a al : Nat} (hal : a % al = 0) (htop : a < dmemTop h) : dmemExc h a al = none := by
  simp [dmemExc, hal, htop]

theorem dmemBad_eq_none {s : State} {h a k : Nat} (hclean : s.poisoned (hartDmem h a) k = false) : s.dmemBad h a k = none := by
  simpa [State.dmemBad, State.poisoned] using hclean

/-- A queue whose head is in order stays as it is (R163, R175). -/
theorem settle_eq_self {s : State} {h q : Nat} (hhead : ∀ k, s.headCmd h q = some k → k.headStatuses s h = []) (fuel : Nat) :
    s.settle h q fuel = s := by
  cases fuel with
  | zero => rfl
  | succ n =>
    unfold State.settle
    cases hc : s.headCmd h q with
    | none => rfl
    | some k => simp [hhead k hc]

/-- Command `k` is held by control core `h` and counted as pushed (R140, R419). -/
def State.addCmd (s : State) (h : Nat) (k : Cmd) : State :=
  (s.modHart h fun z => { z with nextId := z.nextId + 1, cmds := z.cmds ++ [k] }).ledgerAdd (s.partOf (hartClu h)) lPushed 1

section Push

variable {s : State} {h q a : Nat} {ax ay : Off48} {x y : Bool}

theorem pushCmd_full (hal : a % 32 = 0) (htop : a < dmemTop h) : s.pushCmd h q a ax ay x y true = .wait := by
  simp [State.pushCmd, dmemExc_eq_none hal htop]

theorem pushCmd_free (hal : a % 32 = 0) (htop : a < dmemTop h) (hclean : s.poisoned (hartDmem h a) 32 = false)
    (hres : ∀ j ∈ (s.captureCmd h q a ax ay x y).opRegs h, j ≠ 0 → s.reservedS h j = false)
    (hhead : ∀ k, (s.addCmd h (s.captureCmd h q a ax ay x y)).headCmd h q = some k →
      k.headStatuses (s.addCmd h (s.captureCmd h q a ax ay x y)) h = []) :
    s.pushCmd h q a ax ay x y false = .go (s.addCmd h (s.captureCmd h q a ax ay x y)) := by
  have hany : ¬ ((s.captureCmd h q a ax ay x y).opRegs h).any (fun r => r ≠ 0 && s.reservedS h r) = true := by
    simpa using hres
  unfold State.pushCmd
  rw [dmemExc_eq_none hal htop, dmemBad_eq_none hclean]
  simp only [Bool.false_eq_true, if_false, if_neg hany]
  exact congrArg TRes.go (settle_eq_self hhead _)

end Push

/-! #### Popping a record -/

/-- The oldest record `r` for which `p` holds is gone, and a command of the core counts as popped (R141, R171, R419). -/
def State.popped (s : State) (h : Nat) (p : Rec → Bool) (r : Rec) : State :=
  let t := s.modHart h fun x => { x with recs := dropRec p x.recs }
  if r.q = 15 then t else t.ledgerAdd (s.partOf (hartClu h)) lPopped 1

theorem popRec_of_none {s : State} {h d : Nat} {p : Rec → Bool} (hf : (s.hart h).recs.find? p = none) :
    s.popRec h d p = .wait := by
  simp [State.popRec, hf]

theorem popRec_of_some {s : State} {h d : Nat} {p : Rec → Bool} {r : Rec} (hf : (s.hart h).recs.find? p = some r) :
    s.popRec h d p = .go ((s.popped h p r).takeRec h d r) := by
  simp [State.popRec, hf, State.popped]

/-! #### What popping leaves as it was, and what it writes -/

@[simp] theorem alarmIn_harts (s : State) (e : EvRec) : (s.alarmIn e).harts = s.harts := by
  simp [State.alarmIn, apply_ite State.harts]

@[simp] theorem raise_harts (s : State) (cls code part kind unit data : Nat) :
    (s.raise cls code part kind unit data).harts = s.harts := by
  simp [State.raise, apply_ite State.harts]

@[simp] theorem ledgerFix_harts (s : State) (p t : Nat) : (s.ledgerFix p t).harts = s.harts := by
  unfold State.ledgerFix; dsimp only; split
  · rfl
  · simp [apply_ite State.harts]

@[simp] theorem ledgerAdd_harts (s : State) (p t n : Nat) : (s.ledgerAdd p t n).harts = s.harts := by
  simp [State.ledgerAdd, apply_ite State.harts]

@[simp] theorem ledgerAdd_hart (s : State) (p t n h : Nat) : (s.ledgerAdd p t n).hart h = s.hart h := by
  simp [State.hart]

theorem hart_setS (s : State) (h r : Nat) (v : Word) : (s.setS h r v).hart h =
    { s.hart h with sregs := if r = 0 then (s.hart h).sregs else (s.hart h).sregs.set 0 r v } := by
  unfold State.setS; split <;> simp

@[simp] theorem hart_retired (s : State) (h pc : Nat) : (s.retired h pc).hart h = { s.hart h with pc := pc, stall := none } := by
  simp [State.retired, State.touch]

@[simp] theorem sreg_retired (s : State) (h pc j : Nat) : (s.retired h pc).sreg h j = s.sreg h j := by simp [State.sreg]

@[simp] theorem f_retired (s : State) (h pc : Nat) (d : Fd) : (s.retired h pc).f d = s.f d := by
  simp [State.retired, State.touch]

@[simp] theorem hart_popped (s : State) (h : Nat) (p : Rec → Bool) (r : Rec) :
    (s.popped h p r).hart h = { s.hart h with recs := dropRec p (s.hart h).recs } := by
  unfold State.popped; dsimp only; split <;> simp

@[simp] theorem sreg_popped (s : State) (h j : Nat) (p : Rec → Bool) (r : Rec) : (s.popped h p r).sreg h j = s.sreg h j := by
  simp [State.sreg]

@[simp] theorem mem_popped (s : State) (h : Nat) (p : Rec → Bool) (r : Rec) : (s.popped h p r).mem = s.mem := by
  unfold State.popped; dsimp only; split <;> simp

/-- Beside CC_CCR, taking a record writes scalar registers only. -/
theorem hart_takeRec (s : State) (h d : Nat) (r : Rec) :
    (s.takeRec h d r).hart h = { s.hart h with sregs := ((s.takeRec h d r).hart h).sregs } := by
  unfold State.takeRec; dsimp only; split <;> simp [hart_setS]

theorem sreg_takeRec (s : State) (h j : Nat) {d : Nat} (r : Rec) (hd : d ≠ 0) : (s.takeRec h d r).sreg h j =
    if j = d + 3 then r.w3 else if j = d + 2 then r.w2 else if j = d + 1 then r.w1 else if j = d then r.w0 else s.sreg h j := by
  simp [State.takeRec, hd, State.sreg_setS]

theorem sreg_takeRec_other (s : State) (h : Nat) {d j : Nat} (r : Rec) (hj : d = 0 ∨ j < d ∨ d + 3 < j) :
    (s.takeRec h d r).sreg h j = s.sreg h j := by
  by_cases hd : d = 0
  · simp [State.takeRec, hd]
  · rw [sreg_takeRec s h j r hd, if_neg (by omega), if_neg (by omega), if_neg (by omega), if_neg (by omega)]

/-- The two fields of CC_CCR lie at bits 0 and 4. -/
theorem f_takeRec_status (s : State) (h d : Nat) (r : Rec) : (s.takeRec h d r).f (CC_CCR_STATUS h) = wbits r.w0 20 4 := by
  have hkey : (CC_CCR_STATUS h).key ≠ (CC_CCR_NONFIN h).key := by simp [Fd.key, CC_CCR_STATUS, CC_CCR_NONFIN]
  rw [State.takeRec, State.f_setF_ne _ _ _ _ hkey, State.f_setF_self]
  exact Nat.mod_mod _ _

theorem f_takeRec_nonfin (s : State) (h d : Nat) (r : Rec) : (s.takeRec h d r).f (CC_CCR_NONFIN h) = wbits r.w0 25 1 := by
  rw [State.takeRec, State.f_setF_self]
  exact Nat.mod_mod _ _

/-- From `s` to `t`, control core `h` popped its record `r`, the first for which `p` holds, to Sd to Sd+3 and CC_CCR, and went on
to the next instruction. -/
def popsRec (s t : State) (h : Nat) (r : Rec) (p : Rec → Bool) (d : BitVec 5) : Prop :=
  (t.hart h).recs = dropRec p (s.hart h).recs ∧
    (d ≠ 0 → t.sreg h d.toNat = r.w0 ∧ t.sreg h (d.toNat + 1) = r.w1 ∧ t.sreg h (d.toNat + 2) = r.w2 ∧
      t.sreg h (d.toNat + 3) = r.w3) ∧
    (∀ j, (d = 0 ∨ j < d.toNat ∨ d.toNat + 3 < j) → t.sreg h j = s.sreg h j) ∧
    t.f (CC_CCR_STATUS h) = wbits r.w0 20 4 ∧ t.f (CC_CCR_NONFIN h) = wbits r.w0 25 1 ∧
    (t.hart h).pc = (s.hart h).pc + 4 ∧ (t.hart h).cmds = (s.hart h).cmds ∧ memSame s t

theorem popsRec_retires (s : State) (h : Nat) (r : Rec) (p : Rec → Bool) (d : BitVec 5) :
    popsRec s (retires s h (((fetched s h).popped h p r).takeRec h d.toNat r)) h r p d := by
  have hd0 : d = 0 ↔ d.toNat = 0 := BitVec.toNat_inj.symm
  refine ⟨?recs, fun hd => ?written, fun j hj => ?other, ?status, ?nonfin, ?pc, ?cmds, memSame_of_mem _ _ ?mem⟩
  case recs => rw [retires, hart_retired, hart_takeRec, hart_popped, hart_fetched]
  case written => simp [retires, sreg_takeRec _ _ _ _ (mt hd0.2 hd)]
  case other => rw [retires, sreg_retired, sreg_takeRec_other _ _ _ (by rwa [hd0] at hj), sreg_popped, sreg_fetched]
  case status => rw [retires, f_retired, f_takeRec_status]
  case nonfin => rw [retires, f_retired, f_takeRec_nonfin]
  case pc => rw [retires, hart_retired]
  case cmds => rw [retires, hart_retired, hart_takeRec, hart_popped, hart_fetched]
  case mem => simp [retires]

/-! #### Pushing an address-queue entry -/

section Stream

variable {s : State} {h m : Nat} {last : Bool} {off : Off48} {len : Word}

theorem strm_free (hroom : (s.aqOf h m).length < 256) : s.strm h m last off len =
    .go (s.modHart h fun x => { x with aq := x.aq ++ [AqEntry.mk m off.toNat len.toNat last] }) :=
  if_neg (Nat.not_le.2 hroom)

theorem strm_full (hfull : 256 ≤ (s.aqOf h m).length) : s.strm h m last off len = .wait := if_pos hfull

end Stream

/-! #### The six instructions, fetched -/

theorem doPush_body_fetched (s : State) (h : Nat) (q : BitVec 3) (a : BitVec 5) (ax ay : BitVec 4) (x y : BitVec 1) (u : BitVec 8) :
    (doPush h q a ax ay x y u).body (fetched s h) =
      (fetched s h).pushCmd h q.toNat (s.sreg h a.toNat + BitVec.ofNat 32 (32 * u.toNat)).toNat (s.areg h ax.toNat)
        (s.areg h ay.toNat) (x = 1) (y = 1) (32 ≤ s.held h q.toNat) := by
  simp [doPush]

theorem doSpush_body_fetched (s : State) (h : Nat) (tq : BitVec 4) (a : BitVec 5) (ax ay : BitVec 4) (x y : BitVec 1) (u : BitVec 7) :
    (doSpush h tq a ax ay x y u).body (fetched s h) =
      (fetched s h).pushCmd h tq.toNat (s.sreg h a.toNat + BitVec.ofNat 32 (32 * u.toNat)).toNat (s.areg h ax.toNat)
        (s.areg h ay.toNat) (x = 1) (y = 1) (64 ≤ s.iqHeld h) := by
  simp [doSpush]

theorem doStrm_body_fetched (s : State) (h : Nat) (m last : BitVec 1) (aa : BitVec 4) (b : BitVec 5) :
    (doStrm h m last aa b).body (fetched s h) =
      (fetched s h).strm h m.toNat (last = 1) (s.areg h aa.toNat) (s.sreg h b.toNat) := by
  simp [doStrm]

theorem doSstrm_body_fetched (s : State) (h : Nat) (m : BitVec 3) (last : BitVec 1) (aa : BitVec 4) (b : BitVec 5) :
    (doSstrm h m last aa b).body (fetched s h) =
      (fetched s h).strm h m.toNat (last = 1) (s.areg h aa.toNat) (s.sreg h b.toNat) := by
  simp [doSstrm]

/-- Settles O13: each instruction issues (`exec_retires`, `exec_waits`), and the lemma of its shared operation says what it does. -/
theorem queuesPushAndPop : Obligations.QueuesPushAndPop := by
  intro ag q tq a b ax ay aa x y last m1 u8 u7 m3 d8 s r hr hu h u ea cmd held reads free popped entry d
  have hsA : unres s h [a.toNat] := unres_mono (by simp) hu
  have hsB : unres s h [b.toNat] := unres_mono (by simp) hu
  have hd : d.toNat = 4 * d8.toNat := by
    rw [show d = d8 ++ 0#2 from rfl, BitVec.toNat_append]; simp [Nat.shiftLeft_eq, Nat.mul_comm]
  have hsD : unres s h (if d = 0 then [] else (List.range 4).map (d.toNat + ·)) := by
    refine unres_mono ?_ hu
    rw [hd]; split <;> simp
  have hheld (qq n : Nat) : u.addCmd h (cmd qq n) = held qq n := by simp [State.addCmd, held, u, h]
  have hfree (qq n : Nat) : reads n → free qq n →
      u.pushCmd h qq (ea n) (s.areg h ax.toNat) (s.areg h ay.toNat) (x = 1) (y = 1) false = .go (held qq n) := by
    rintro ⟨hal, htop, hclean⟩ ⟨hres, hhead⟩
    rw [← hheld] at hhead ⊢
    exact pushCmd_free hal htop ((poisoned_fetched ..).trans hclean)
      (fun j hj h0 => (reservedS_fetched ..).trans (hres j hj h0)) hhead
  have hfull (qq n : Nat) : reads n →
      u.pushCmd h qq (ea n) (s.areg h ax.toNat) (s.areg h ay.toNat) (x = 1) (y = 1) true = .wait :=
    fun ⟨hal, htop, _⟩ => pushCmd_full hal htop
  refine ⟨?push, ?spush, ?pushFull, ?spushFull, ?cpop, ?cpopNone, ?spop, ?spopNone, ?strm, ?strmFull, ?sstrm, ?sstrmFull⟩
  case push =>
    intro hseq hq hroom hreads hin
    refine exec_retires rfl hr (by simp [Instr.wf, hseq, hq]) hsA rfl ?_
    rw [doPush_body_fetched, decide_eq_false (Nat.not_le.2 hroom)]
    exact hfree _ _ hreads hin
  case spush =>
    intro hseq hq hroom hreads hin
    refine exec_retires rfl hr (by simp [Instr.wf, hseq, hq]) hsA rfl ?_
    rw [doSpush_body_fetched, decide_eq_false (Nat.not_le.2 hroom)]
    exact hfree _ _ hreads hin
  case pushFull =>
    intro hseq hq hheld hreads
    refine exec_waits rfl hr (by simp [Instr.wf, hseq, hq]) hsA rfl ?_
    rw [doPush_body_fetched, decide_eq_true hheld]
    exact hfull _ _ hreads
  case spushFull =>
    intro hseq hq hheld hreads
    refine exec_waits rfl hr (by simp [Instr.wf, hseq, hq]) hsA rfl ?_
    rw [doSpush_body_fetched, decide_eq_true hheld]
    exact hfull _ _ hreads
  case cpop =>
    intro hseq hq hrec
    exact ⟨_, exec_retires rfl hr (by simp [Instr.wf, hseq, hq, hd]) hsD rfl
      (popRec_of_some (by simpa using hrec)), popsRec_retires s h r _ d⟩
  case cpopNone =>
    intro hseq hq hrec
    exact exec_waits rfl hr (by simp [Instr.wf, hseq, hq, hd]) hsD rfl (popRec_of_none (by simpa using hrec))
  case spop =>
    intro hseq hrec
    exact ⟨_, exec_retires rfl hr (by simp [Instr.wf, hseq, hd]) hsD rfl
      (popRec_of_some (by simpa using hrec)), popsRec_retires s h r _ d⟩
  case spopNone =>
    intro hseq hrec
    exact exec_waits rfl hr (by simp [Instr.wf, hseq, hd]) hsD rfl (popRec_of_none (by simp [h, hrec]))
  case strm =>
    intro hseq hroom
    refine exec_retires rfl hr (by simp [Instr.wf, hseq]) hsB rfl ?_
    rw [doStrm_body_fetched, strm_free (by simpa using hroom)]
  case strmFull =>
    intro hseq hfull
    refine exec_waits rfl hr (by simp [Instr.wf, hseq]) hsB rfl ?_
    rw [doStrm_body_fetched, strm_full (by simpa using hfull)]
  case sstrm =>
    intro hseq hroom
    refine exec_retires rfl hr (by simp [Instr.wf, hseq]) hsB rfl ?_
    rw [doSstrm_body_fetched, strm_free (by simpa using hroom)]
  case sstrmFull =>
    intro hseq hfull
    refine exec_waits rfl hr (by simp [Instr.wf, hseq]) hsB rfl ?_
    rw [doSstrm_body_fetched, strm_full (by simpa using hfull)]

end Sys2Proof.Machine
end

section
/-!
A command that ends without running (R177): what zeroing its reservations writes, and which commands `stopCmd` leaves held.
-/

namespace Sys2Proof.Machine

/-! #### What one register write leaves as it was -/

@[simp] theorem cmds_setS (s : State) (h r : Nat) (v : Word) : ((s.setS h r v).hart h).cmds = (s.hart h).cmds := by
  rw [hart_setS]

theorem hart_setP (s : State) (h r : Nat) (b : Bool) : (s.setP h r b).hart h =
    { s.hart h with preds := if r = 0 then (s.hart h).preds else setPredBit (s.hart h).preds r b } := by
  unfold State.setP; split <;> simp

@[simp] theorem cmds_setP (s : State) (h r : Nat) (b : Bool) : ((s.setP h r b).hart h).cmds = (s.hart h).cmds := by
  rw [hart_setP]

@[simp] theorem sreg_setP (s : State) (h r q : Nat) (b : Bool) : (s.setP h r b).sreg h q = s.sreg h q := by
  simp [State.sreg, hart_setP]

theorem getLsbD_setPredBit_false (w : BitVec 8) (r q : Nat) :
    (setPredBit w r false).getLsbD q = (w.getLsbD q && decide (q ≠ r)) := by
  by_cases hq : q < 8
  · have hone : (1#8 <<< r).getLsbD q = decide (q = r) := by
      simp only [BitVec.getLsbD_shiftLeft, BitVec.getLsbD_one]
      grind
    rw [setPredBit, if_neg Bool.false_ne_true, BitVec.getLsbD_and, BitVec.getLsbD_not, hone]
    simp [hq]
  · simp [BitVec.getLsbD_of_ge _ q (Nat.le_of_not_lt hq)]

/-- P0 reads 1 whatever is written. -/
theorem pred_setP_false (s : State) (h r q : Nat) :
    (s.setP h r false).pred h q = if q = r ∧ q ≠ 0 then false else s.pred h q := by
  by_cases hq : q = 0
  · simp [hq, State.pred_zero]
  · by_cases hr : r = 0
    · simp [State.setP, hr, hq]
    · by_cases hqr : q = r <;> simp [State.pred, hart_setP, getLsbD_setPredBit_false, hq, hr, hqr]

/-! #### Zeroing lists of registers and predicates -/

theorem cmds_foldl {α : Type} (g : State → α → State) (h : Nat) (hg : ∀ t a, ((g t a).hart h).cmds = (t.hart h).cmds)
    (l : List α) (s : State) : ((l.foldl g s).hart h).cmds = (s.hart h).cmds := by
  induction l generalizing s with
  | nil => rfl
  | cons a l ih => rw [List.foldl_cons, ih, hg]

theorem sreg_foldl_setS_zero (h q : Nat) (l : List Nat) (s : State) :
    (l.foldl (fun t r => t.setS h r 0) s).sreg h q = if q ∈ l then 0 else s.sreg h q := by
  induction l generalizing s with
  | nil => simp
  | cons r l ih =>
    have hzero : s.sreg h 0 = 0 := rfl
    rw [List.foldl_cons, ih, State.sreg_setS]
    by_cases hl : q ∈ l
    · simp [hl]
    · by_cases hqr : q = r
      · by_cases hr : r = 0 <;> simp [hqr, hr, hzero]
      · simp [hl, hqr]

theorem sreg_foldl_setP (h q : Nat) (b : Bool) (l : List Nat) (s : State) :
    (l.foldl (fun t p => t.setP h p b) s).sreg h q = s.sreg h q := by
  induction l generalizing s with
  | nil => rfl
  | cons p l ih => rw [List.foldl_cons, ih, sreg_setP]

theorem pred_foldl_setP_false (h : Nat) {q : Nat} (hq : q ≠ 0) (l : List Nat) (s : State) :
    (l.foldl (fun t p => t.setP h p false) s).pred h q = if q ∈ l then false else s.pred h q := by
  induction l generalizing s with
  | nil => simp
  | cons p l ih =>
    rw [List.foldl_cons, ih, pred_setP_false]
    by_cases hl : q ∈ l <;> simp [hl, hq]

@[simp] theorem cmds_zeroReserved (s : State) (h : Nat) (k : Cmd) : ((s.zeroReserved h k).hart h).cmds = (s.hart h).cmds := by
  unfold State.zeroReserved
  split
  · rfl
  · rw [cmds_foldl _ h (fun t p => cmds_setP t h p false), cmds_foldl _ h (fun t r => cmds_setS t h r 0)]

/-- P0 is never reserved (R119, R124). -/
theorem ne_zero_of_mem_resPred {k : Cmd} {p : Nat} (hp : p ∈ k.resPred) : p ≠ 0 := by
  unfold Cmd.resPred at hp
  split at hp
  case isTrue hpen =>
    simp only [Bool.and_eq_true, decide_eq_true_eq] at hpen
    rw [List.mem_singleton.1 hp]
    exact hpen.2
  case isFalse => exact absurd hp List.not_mem_nil

section Core

variable {h : Nat} (hcore : isSeqHart h = false)
include hcore

theorem sreg_zeroReserved (s : State) (k : Cmd) {r : Nat} (hr : r ∈ k.resRegs) : (s.zeroReserved h k).sreg h r = 0 := by
  rw [State.zeroReserved, hcore, if_neg Bool.false_ne_true, sreg_foldl_setP, sreg_foldl_setS_zero, if_pos hr]

theorem pred_zeroReserved (s : State) (k : Cmd) {p : Nat} (hp : p ∈ k.resPred) : (s.zeroReserved h k).pred h p = false := by
  rw [State.zeroReserved, hcore, if_neg Bool.false_ne_true, pred_foldl_setP_false h (ne_zero_of_mem_resPred hp),
    if_pos hp]

end Core

/-! #### Stopping a command -/

@[simp] theorem cmds_modCmd (s : State) (h id : Nat) (g : Cmd → Cmd) :
    ((s.modCmd h id g).hart h).cmds = (s.hart h).cmds.map fun k => if k.id = id then g k else k := by
  simp [State.modCmd]

@[simp] theorem sreg_modCmd (s : State) (h id r : Nat) (g : Cmd → Cmd) : (s.modCmd h id g).sreg h r = s.sreg h r := by
  simp [State.modCmd, State.sreg]

@[simp] theorem pred_modCmd (s : State) (h id p : Nat) (g : Cmd → Cmd) : (s.modCmd h id g).pred h p = s.pred h p := by
  simp [State.modCmd, State.pred]

theorem reservedS_eq_false {s : State} {h r : Nat} (hfree : ∀ e ∈ (s.hart h).cmds, e.phase ≠ .ran → r ∉ e.resRegs) :
    s.reservedS h r = false := by
  simpa [State.reservedS] using fun _ => hfree

theorem reservedP_eq_false {s : State} {h p : Nat} (hfree : ∀ e ∈ (s.hart h).cmds, e.phase ≠ .ran → p ∉ e.resPred) :
    s.reservedP h p = false := by
  simpa [State.reservedP] using fun _ => hfree

section Stop

variable {s : State} {h : Nat} {k : Cmd} (st : Status) (hk : s.findCmd h k.id = some k)
include hk

theorem stopCmd_eq : s.stopCmd h k.id st =
    (s.zeroReserved h k).modCmd h k.id fun x => { x with sts := x.sts ++ [st], phase := .ran } := by
  simp [State.stopCmd, State.stopCmds, hk]

/-- A command held after the stop is another command as it was, or the stopped one, which is done. -/
theorem mem_cmds_stopCmd {e : Cmd} (he : e ∈ ((s.stopCmd h k.id st).hart h).cmds) :
    (e ∈ (s.hart h).cmds ∧ e.id ≠ k.id) ∨ (e.phase = .ran ∧ st ∈ e.sts) := by
  rw [stopCmd_eq st hk, cmds_modCmd, cmds_zeroReserved] at he
  obtain ⟨x, hx, rfl⟩ := List.mem_map.1 he
  by_cases hid : x.id = k.id
  · exact .inr (by simp [hid])
  · exact .inl (by simpa [hid] using hx)

theorem reservedS_stopCmd {r : Nat} (hothers : ∀ e ∈ (s.hart h).cmds, e.id ≠ k.id → e.phase ≠ .ran → r ∉ e.resRegs) :
    (s.stopCmd h k.id st).reservedS h r = false := by
  refine reservedS_eq_false fun e he hrun => ?_
  obtain ⟨hmem, hid⟩ | ⟨hran, _⟩ := mem_cmds_stopCmd st hk he
  · exact hothers e hmem hid hrun
  · exact absurd hran hrun

theorem reservedP_stopCmd {p : Nat} (hothers : ∀ e ∈ (s.hart h).cmds, e.id ≠ k.id → e.phase ≠ .ran → p ∉ e.resPred) :
    (s.stopCmd h k.id st).reservedP h p = false := by
  refine reservedP_eq_false fun e he hrun => ?_
  obtain ⟨hmem, hid⟩ | ⟨hran, _⟩ := mem_cmds_stopCmd st hk he
  · exact hothers e hmem hid hrun
  · exact absurd hran hrun

end Stop

/-- Settles O17: the stop writes its registers and predicates through `zeroReserved`, and only commands that have not run reserve. -/
theorem stoppedCommandsReleaseZero : Obligations.StoppedCommandsReleaseZero := by
  intro s n k st _ hk _
  have hcore : isSeqHart n.val = false := by simp [isSeqHart]
  refine ⟨fun r hr => ?regs, fun p hp => ?preds, fun e he hid => ?done, fun r => reservedS_stopCmd st hk,
    fun p => reservedP_stopCmd st hk⟩
  case regs => rw [stopCmd_eq st hk, sreg_modCmd, sreg_zeroReserved hcore s k hr]
  case preds => rw [stopCmd_eq st hk, pred_modCmd, pred_zeroReserved hcore s k hp]
  case done =>
    obtain ⟨_, hne⟩ | hdone := mem_cmds_stopCmd st hk he
    · exact absurd hid hne
    · exact hdone

end Sys2Proof.Machine
end
